-- ==== Sys2Proof/Word.lean ====
section
/-! DEFINITION. The words of the BX-460: bytes, the 16-bit and 32-bit fields of its packets and records. -/

namespace Sys2Proof

/-- One byte of a packet, a cell, a record or a memory. -/
abbrev Byte := BitVec 8

/-- A 16-bit field: a lane sequence (R5), a directive's tag (R175), the unit of a cell (R187). -/
abbrev Half := BitVec 16

/-- A 32-bit word: a frame tick (R1), a parameter word (R186), a counter (R181), a stream sequence (R113). -/
abbrev Word := BitVec 32

/-- An audio sample: an integer, within -8,388,608 to 8,388,607 where the spec says so (R1). -/
abbrev Sample := Int

end Sys2Proof
end

