-- ==== Sys2Proof/Syntax.lean ====
section
/-! DEFINITION. The commands the block takes: one constructor of `Instr` for each row of spec/opcode_table.json, with
the operands that the rule of the row gives the event or the directive. -/

namespace Sys2Proof

/-- A camera lane, 0 to 5 (R2). -/
abbrev Lane := Fin 6

/-- An uplink path, 0 to 3 (R91). -/
abbrev PathNo := Fin 4

/-- A transfer engine, 0 or 1 (R147). -/
abbrev EngineNo := Fin 2

/-- A contact input, 0 to 7 (R171). -/
abbrev ContactNo := Fin 8

/-- The side a directive comes from (R176): the van, by lane 63, or home, by the named uplink path (R107). -/
inductive Side where
  | van
  | home (path : PathNo)
deriving DecidableEq, Repr

/-- A directive less its name (R175): its side, its tag, its parameter words, and whether bytes were left over, that is,
the parameter part was no whole number of words. -/
structure Directive where
  side   : Side
  tag    : Half
  words  : List Word
  ragged : Bool
deriving DecidableEq, Repr

/-- An Ethernet frame as the fabric port receives it (R3): whether its frame check sequence is right, its type and its
payload, which is a lane packet when the type is 0x88B6 (R185). -/
structure EthFrame where
  fcsOk     : Bool
  etherType : Half
  payload   : List Byte
deriving DecidableEq, Repr

/-- The commands: every row of spec/opcode_table.json, in the table's order. The 48 directives after
`unknownDirective` carry the directive that the handler takes (R175, R176). -/
inductive Instr where
  /-- POWER_ON (R183): power is applied; the straps give the station address. -/
  | powerOn (straps : Byte)
  /-- RESET_LINE (R183). -/
  | resetLine
  /-- RESTART (R183): the restart that a taken RSTR brings about. -/
  | restart
  /-- FRAME_RECEIVED (R3). -/
  | frameReceived (frame : EthFrame)
  /-- LINE_PLACED (R9): the placing of a line on the lane ends. -/
  | linePlaced (lane : Lane)
  /-- SLICE_CODED (R28): the lane's engine ends a slice; its coded size S is the number of coded bytes. -/
  | sliceCoded (lane : Lane) (coded : List Byte)
  /-- LANE_STALL (R32). -/
  | laneStall (lane : Lane)
  /-- BLOCK_REQUEST (R72). -/
  | blockRequest
  /-- BLOCK_COMPLETION (R72). -/
  | blockCompletion
  /-- TRANSMITTER_FREE (R17). -/
  | transmitterFree
  /-- FRAME_TICK (R164). -/
  | frameTick
  /-- REFERENCE_PULSE (R165): a pulse, with the number of the sample on which it falls. -/
  | referencePulse (stamp : Nat)
  /-- LOCKING_LOSS (R165). -/
  | lockingLoss
  /-- REFERENCE_LOSS (R166). -/
  | referenceLoss
  /-- CONTACT_RAW_CHANGE (R171): the raw level of an input becomes closed (`true`) or open (`false`). -/
  | contactRawChange (input : ContactNo) (closed : Bool)
  /-- FILTER_RUNS_OUT (R171). -/
  | filterRunsOut (input : ContactNo)
  /-- CARRIER_PRESENT (R94). -/
  | carrierPresent (path : PathNo)
  /-- CARRIER_LOST (R94). -/
  | carrierLost (path : PathNo)
  /-- OFFER_PACER (R95, R98). -/
  | offerPacer (path : PathNo)
  /-- HANDSHAKE_TIMER_EXPIRY (R101). -/
  | handshakeTimerExpiry (path : PathNo)
  /-- HOLD_TIMER_EXPIRY (R104). -/
  | holdTimerExpiry (path : PathNo)
  /-- LINE_READY (R105). -/
  | lineReady (path : PathNo)
  /-- INBOUND_CELL (R106): the bytes of a cell received from the line. -/
  | inboundCell (path : PathNo) (bytes : List Byte)
  /-- CELL_ASSEMBLY (R115). -/
  | cellAssembly
  /-- RECORD_WRITE_END (R153). -/
  | recordWriteEnd
  /-- ERASE_END (R158). -/
  | eraseEnd
  /-- START_UP_SCAN (R159). -/
  | startUpScan
  /-- UNKNOWN_DIRECTIVE (R175): a directive whose four-character name is in no row of the summary table. -/
  | unknownDirective (name : Word) (d : Directive)
  | lsta (d : Directive)
  | lstp (d : Directive)
  | lfmt (d : Directive)
  | lkey (d : Directive)
  | rdln (d : Directive)
  | lrat (d : Directive)
  | lshr (d : Directive)
  | rsrv (d : Directive)
  | pmrk (d : Directive)
  | rdas (d : Directive)
  | ceil (d : Directive)
  | rdst (d : Directive)
  | xpnt (d : Directive)
  | bmst (d : Directive)
  | srce (d : Directive)
  | home (d : Directive)
  | take (d : Directive)
  | ramp (d : Directive)
  | flaw (d : Directive)
  | rdmt (d : Directive)
  | rdmx (d : Directive)
  | path (d : Directive)
  | pena (d : Directive)
  | pdis (d : Directive)
  | prst (d : Directive)
  | rtrn (d : Directive)
  | rdpt (d : Directive)
  | mkin (d : Directive)
  | mkot (d : Directive)
  | tmpl (d : Directive)
  | send (d : Directive)
  | keep (d : Directive)
  | disc (d : Directive)
  | tagd (d : Directive)
  | tagc (d : Directive)
  | rdcl (d : Directive)
  | lscl (d : Directive)
  | rdls (d : Directive)
  | tcod (d : Directive)
  | refr (d : Directive)
  | cont (d : Directive)
  | rdrf (d : Directive)
  | scop (d : Directive)
  | emsk (d : Directive)
  | eclr (d : Directive)
  | stat (d : Directive)
  | cntr (d : Directive)
  | rstr (d : Directive)
  /-- POWER_LOSS (R153): power fails. -/
  | powerLoss
deriving DecidableEq, Repr

/-- The directives of the summary table of chapter 11. -/
inductive DirName where
  | lsta | lstp | lfmt | lkey | rdln | lrat | lshr | rsrv | pmrk | rdas | ceil | rdst
  | xpnt | bmst | srce | home | take | ramp | flaw | rdmt | rdmx
  | path | pena | pdis | prst | rtrn | rdpt
  | mkin | mkot | tmpl | send | keep | disc | tagd | tagc | rdcl | lscl
  | rdls | tcod | refr | cont | rdrf | scop | emsk | eclr | stat | cntr | rstr
deriving DecidableEq, Repr

end Sys2Proof
end

