-- ==== Sys2Proof/Machine/State.lean ====
section
/-! DEFINITION. The state of the BX-460: every register, table, list, queue, memory and pin the spec gives it, as plain
data, with the model's own fields marked so; the reasons a step can stop; and the state right after power-on. -/

namespace Sys2Proof.Machine

/-! ## Memory -/

/-- An addressed memory: the listed bytes in strictly rising address order, none equal to what an unlisted address
reads as (Machine/Memory.lean). -/
abbrev Memory := List Host.Cell

/-! ## The lane coders (chapters 1 to 3) -/

/-- A picture format (R19): width in pixels, active lines, key interval. -/
structure Format where
  width       : Nat
  lines       : Nat
  keyInterval : Nat
deriving DecidableEq, Repr

/-- A timecode (R169). -/
structure Timecode where
  hh : Nat
  mm : Nat
  ss : Nat
  ff : Nat
deriving DecidableEq, Repr

/-- The state of a lane coder (R19). -/
inductive LaneState where
  | off | acquire | coding | stalled | draining
deriving DecidableEq, Repr

/-- KEY or DELTA (R24). -/
inductive FrameKind where
  | key | delta
deriving DecidableEq, Repr

/-- What becomes of a frame at its start (R19, R22, R23). -/
inductive Disposition where
  | stored | dropped | discarded
deriving DecidableEq, Repr

/-- A picture line as the port hands it to its lane coder (R8, R9): line number, frame-start flag, payload. -/
structure Line where
  number : Nat
  start  : Bool
  pixels : List Byte
deriving DecidableEq, Repr

/-- The slice of the frame in progress that has begun and is not yet ready (R26), with its slice buffer, or none for
an overrun slice (R29). -/
structure BegunSlice where
  index  : Nat
  buffer : Option (Fin 2)
deriving DecidableEq, Repr

/-- The frame in progress (R19). `tally` is absent for a DISCARDED frame, whose start does not reach step 4 of R22. -/
structure FrameInProgress where
  format      : Format
  tick        : Word
  timecode    : Timecode
  disposition : Disposition
  kind        : Option FrameKind
  tally       : Option Bool
  next        : Nat
  begun       : Option BegunSlice
deriving DecidableEq, Repr

/-- The state of a slice buffer (R19). -/
inductive BufferState where
  | free | filling | ready | coding
deriving DecidableEq, Repr

/-- A slice buffer (R19): its state, the frame (by tick) and slice it holds, its lines by number, and the fill line as
it stood when the slice began (R27). -/
structure SliceBuffer where
  state  : BufferState
  tick   : Word
  index  : Nat
  lines  : List (Nat × List Byte)
  before : Option (List Byte)
deriving DecidableEq, Repr

/-- The kinds a slice may have in a frame record (R30). -/
inductive SliceKind where
  | coded | repeated | blank
deriving DecidableEq, Repr

/-- A slice that is done (R28, R29): its kind, the quantiser index of a CODED slice, its size and its coded bytes. -/
structure SliceResult where
  kind  : SliceKind
  q     : Option Nat
  size  : Nat
  bytes : List Byte
deriving DecidableEq, Repr

/-- An entry of the pass list (R19): the frame by its tick, the slice index, the buffer or none, and the result once the
slice is done. -/
structure PassEntry where
  tick   : Word
  index  : Nat
  buffer : Option (Fin 2)
  done   : Option SliceResult
deriving DecidableEq, Repr

/-- What the coding engine is busy with (R19, R28): the buffer and the quantiser index given for its slice. -/
structure CodingJob where
  buffer : Fin 2
  q      : Nat
deriving DecidableEq, Repr

/-- The placing operation of R9: the frame (by tick) and number of the line being placed. -/
structure Placing where
  tick   : Word
  number : Nat
deriving DecidableEq, Repr

/-- The eight rate settings that LRAT loads (R37, R51). -/
structure RateSettings where
  qref    : Nat
  qmin    : Nat
  qmax    : Nat
  gain    : Nat
  cb      : Nat
  capF    : Nat
  kw      : Nat
  latency : Nat
deriving DecidableEq, Repr

/-- A frame allotment (R37), of the frame with this tick. -/
structure Allotment where
  tick : Word
  kind : FrameKind
  n    : Nat
  bf   : Nat
  t    : Nat
  kw   : Nat
  capF : Nat
  qmin : Nat
  qmax : Nat
deriving DecidableEq, Repr

/-- The capacity at a lane's last start (R37, R41). -/
structure Capacity where
  r : Nat
  a : Nat
  v : Nat
  w : Nat
deriving DecidableEq, Repr

/-- The rate context of a lane (R37). -/
structure RateContext where
  settings : RateSettings
  held     : Option RateSettings
  wOn      : Nat
  wOff     : Nat
  fullness : Nat
  q        : Nat
  force    : Bool
  tallyOn  : Bool
  rate     : Nat
  capacity : Capacity
  allots   : List Allotment
deriving DecidableEq, Repr

/-- A lane coder (R19), with the placing operation of R9 and its rate context. -/
structure LaneCoder where
  state     : LaneState
  format    : Format
  held      : Option Format
  frame     : Option FrameInProgress
  prev      : Option Nat
  keyReq    : Bool
  delta     : Nat
  lastTick  : Option Word
  idle      : Nat
  fill      : Option (List Byte)
  buffers   : Vector SliceBuffer 2
  engine    : Option CodingJob
  pass      : List PassEntry
  placing   : Option Placing
  rate      : RateContext
deriving DecidableEq, Repr

/-! ## The fabric port (chapter 1) -/

/-- The sequence state of an inbound lane (R5): the expectation (absent for NONE) and the late run. -/
structure SeqState where
  expect : Option Half
  late   : Nat
deriving DecidableEq, Repr

/-- What the port keeps for a camera lane (R5, R8, R9). -/
structure VideoIntake where
  seq         : SeqState
  lines       : List Line
  prevHanded  : Option Nat
  frameFormat : Option Format
deriving DecidableEq, Repr

/-- What the port keeps for an audio lane (R5, R12): each block is its 384 samples, sample by sample, channel 0 first. -/
structure AudioIntake where
  seq    : SeqState
  blocks : List (List Sample)
deriving DecidableEq, Repr

/-- The bus packet waiting for the transmitter (R15, R17): its sequence, its block number and its samples. -/
structure BusPacket where
  seq     : Half
  block   : Nat
  samples : List Sample
deriving DecidableEq, Repr

/-- The kinds of event (R179). -/
inductive EventKind where
  | refLost | refLocked | laneGap | laneLength | laneOverrun | directiveDropped | laneStalled | laneRate
  | bucketOverflow | sliceCapped | frameDropped | storePressure | busClip | audioUnderrun | pathUp | pathDown
  | pathFailed | pathHeld | pathFormat | cellCheck | returnUnderrun | returnOverrun | returnGap | liveSkip
  | audioDropped | clipLogFull | shortPreroll | ceilingClose | transferDone | labelStoreFull | labelRecordBad
  | counterHalf
deriving DecidableEq, Repr

/-! ## The mixer (chapter 5) -/

/-- A mixer bank (R74): crosspoint positions (source × 8 + bus), masters, delays, polarities (`true` inverted) and the
home-channel list. -/
structure Bank where
  xp      : Vector Nat 288
  masters : Vector Nat 8
  delays  : Vector Nat 36
  invert  : Vector Bool 36
  home    : List (Fin 8)
deriving DecidableEq, Repr

/-- A coefficient record (R74, R86): value, target, ramp start, ramp step and the length of the ramp. The ramp runs
while the step is below the length. -/
structure Coef where
  value  : Int
  target : Int
  start  : Int
  step   : Nat
  length : Nat
deriving DecidableEq, Repr

/-- The state of a fade (R74, R77). -/
inductive FadeState where
  | steady | fadingOut | fadingIn
deriving DecidableEq, Repr

/-- The fade record of a source (R74). -/
structure Fade where
  readDelay : Nat
  state     : FadeState
  level     : Nat
deriving DecidableEq, Repr

/-- The delay history of a source (R74, R76): its history start and its newest stage-two samples, newest first. -/
structure DelayHistory where
  start   : Nat
  samples : List Sample
deriving DecidableEq, Repr

/-- A take image (R84): the bank and the coefficients looked up, with the tick that armed it and that tick's sample. -/
structure TakeImage where
  bank    : Bank
  xpCoef  : Vector Nat 288
  msCoef  : Vector Nat 8
  tick    : Word
  sample  : Nat
deriving DecidableEq, Repr

/-- What a read of the live bank gives (R90): the bank, the coefficients, the fades, the take state and the settings. -/
structure LiveView where
  bank        : Bank
  xp          : Vector Coef 288
  masters     : Vector Coef 8
  fades       : Vector Fade 36
  takePending : Bool
  takeArmed   : Option Word
  wordLens    : Vector Nat 36
  ramp        : Nat
deriving DecidableEq, Repr

/-- The block in work (R72): its input samples (36 for each of the 48 samples) and the word lengths in force for it
(R75). -/
structure BlockWork where
  input    : List (List Sample)
  wordLens : Vector Nat 36
deriving DecidableEq, Repr

/-- The cell period being cut (R87, R88): its buses in home-list order, the number of its first sample, and the samples
of every bus so far, oldest first. -/
structure CellPeriod where
  buses   : List (Fin 8)
  start   : Nat
  samples : List (List Sample)
deriving DecidableEq, Repr

/-- The sound mixer (R74), with its block number (R72), the block in work, the cell period (R87), and the live values as
they stood at the completion of the last block (R90). -/
structure Mixer where
  law         : Vector Nat 256
  ramp        : Nat
  wordLens    : Vector Nat 36
  cued        : Bank
  live        : Bank
  xp          : Vector Coef 288
  masters     : Vector Coef 8
  fades       : Vector Fade 36
  history     : Vector DelayHistory 36
  takePending : Bool
  takeArmed   : Option TakeImage
  cellSeq     : Vector Word 8
  srcPeak     : Vector Nat 36
  busPeak     : Vector Nat 8
  clipCount   : Vector Nat 8
  block       : Nat
  work        : Option BlockWork
  period      : Option CellPeriod
  lastView    : LiveView
deriving DecidableEq, Repr

/-! ## The coded store (chapter 4) -/

/-- The live state of a frame record (R57). -/
inductive LiveState where
  | pending | sending | done | abandoned
deriving DecidableEq, Repr

/-- An entry of a slice table (R56). -/
structure SliceEntry where
  kind   : SliceKind
  q      : Option Nat
  size   : Nat
  offset : Nat
deriving DecidableEq, Repr

/-- A frame record (R56). `complete` is the state (WRITING when false); `spoiled` says that the frame cap or a shortage
of blocks has applied, so that the rest of the frame is replaced (R60). -/
structure FrameRecord where
  tick     : Word
  timecode : Timecode
  kind     : FrameKind
  complete : Bool
  n        : Nat
  blocks   : List Nat
  bytes    : Nat
  slices   : List SliceEntry
  pins     : Nat
  live     : LiveState
  capped   : Bool
  spoiled  : Bool
deriving DecidableEq, Repr

/-- The coded store (R53 to R55, R67, R69): free list, each lane's records oldest first, pinned blocks, ceiling, and the
stacked DRAM (address = block × 16,384 + position). -/
structure CodedStore where
  free    : List Nat
  records : Vector (List FrameRecord) 6
  pinned  : Nat
  ceiling : Nat
  dram    : Memory
deriving DecidableEq, Repr

/-! ## The paths and the return receiver (chapter 6) -/

/-- The state of a path (R91). -/
inductive PathState where
  | disabled | down | offer | exchange | up | held | failed
deriving DecidableEq, Repr

/-- The settings of a path (R91, R92); `fixed` is the mode FIXED. -/
structure PathSettings where
  fixed      : Bool
  rate       : Nat
  holdCap    : Bool
  channels   : Nat
  labelOnly  : Bool
  retryLimit : Nat
deriving DecidableEq, Repr

/-- An offer word (R95, R187). The fault code is its byte: none 0, no-signal 1, offline 2, handshake-error 3. -/
structure OfferWord where
  holdCap   : Bool
  labelOnly : Bool
  more      : Bool
  ack       : Bool
  channels  : Nat
  fault     : Nat
  rate      : Nat
deriving DecidableEq, Repr

/-- An extra word (R98, R187). The code is its byte: NULL 0, MAX_LATENCY 1, RETURN_FORMAT 2, LABEL_ONLY 3. -/
structure ExtraWord where
  toggle : Bool
  more   : Bool
  code   : Nat
  value  : Nat
deriving DecidableEq, Repr

/-- What the far end said in the exchange (R91, R99). -/
structure FarExtras where
  latency   : Option Nat
  mismatch  : Bool
  labelOnly : Bool
deriving DecidableEq, Repr

/-- The cell in a control slot (R105): a HANDSHAKE cell or a HOLD cell. -/
inductive SlotCell where
  | offer (w : OfferWord)
  | extra (w : ExtraWord)
  | hold (ms : Nat)
deriving DecidableEq, Repr

/-- The kinds of cell (R187). -/
inductive CellKind where
  | fill | video | audio | label | clip | response | handshake | hold | returnAudio | directive
deriving DecidableEq, Repr

/-- The four flags of a cell (R187). -/
structure CellFlags where
  first : Bool
  last  : Bool
  key   : Bool
  rep   : Bool
deriving DecidableEq, Repr

/-- A cell less its path sequence and its check, which it takes at departure (R105, R187). `gen` is the skip generation
the assembler keeps with a VIDEO cell and does not send (R124). -/
structure Cell where
  kind    : CellKind
  flags   : CellFlags
  stream  : Nat
  unit    : Nat
  tick    : Word
  seq     : Word
  payload : List Byte
  gen     : Word
deriving DecidableEq, Repr

/-- A path controller (R91). A running timer is held as the sample at which it runs out; `lastRound` is the toggle of
the last round accepted (R102); `sent` is the last cell that departed on the line (the model's own output). -/
structure PathCtl where
  state       : PathState
  settings    : PathSettings
  ownAck      : Bool
  ownFault    : Bool
  farOffer    : Option OfferWord
  run         : Nat
  farFault    : Nat
  toggle      : Bool
  lastRound   : Option Bool
  extras      : FarExtras
  agreed      : Option Nat
  agreedHold  : Bool
  retry       : Nat
  timer       : Option Nat
  pacer       : Option Nat
  holdTimer   : Option Nat
  slot        : Option SlotCell
  queue       : List Cell
  seq         : Byte
  carrier     : Bool
  sent        : Option (List Byte)
deriving DecidableEq, Repr

/-- A return cell (R108): its sequence and its 80 samples, frame by frame, channel 0 first. -/
structure RetCell where
  seq     : Word
  samples : List Sample
deriving DecidableEq, Repr

/-- The cell being played (R108): the samples left of its frames, and the read position in frames. -/
structure PlayCell where
  samples : List Sample
  pos     : Nat
deriving DecidableEq, Repr

/-- The return receiver (R108); `playing` is the playout state PLAYING, `holdSent` the own hold state SENT. -/
structure ReturnReceiver where
  channels   : Nat
  startDepth : Nat
  holdMs     : Nat
  endHold    : Bool
  queue      : List RetCell
  lastPlayed : Option Word
  playing    : Bool
  current    : Option PlayCell
  lateRun    : Nat
  holdSent   : Bool
deriving DecidableEq, Repr

/-! ## The cell assembler (chapter 7) -/

/-- A live cursor that names a record (R124), by its tick. -/
structure Cursor where
  tick  : Word
  slice : Nat
  piece : Nat
deriving DecidableEq, Repr

/-- The queue marks of a path (R113). -/
structure Marks where
  high : Nat
  low  : Nat
deriving DecidableEq, Repr

/-- The cell assembler (R113), with each lane's effective latency limit at its last lane frame start (R119, R130);
before the first one it is what R119 gives at power-on (DESIGN CHOICE, notes/assumptions/71.md). -/
structure Assembler where
  control      : List Cell
  redispatch   : List Cell
  audio        : List Cell
  staleTags    : List Nat
  staleLabels  : List Nat
  cursors      : Vector (Option Cursor) 6
  awaiting     : Vector Bool 6
  gen          : Vector Word 6
  laneRot      : Lane
  engineRot    : EngineNo
  marks        : Vector Marks 4
  opened       : Vector Bool 4
  pathsUp      : Nat
  videoSeq     : Vector Word 6
  clipSeq      : Vector Word 2
  labelSeq     : Word
  controlSeq   : Word
  labelReserve : Nat
  clipReserve  : Nat
  effLimit     : Vector Nat 6
deriving DecidableEq, Repr

/-! ## The clip log and the transfer engines (chapter 8) -/

/-- The state of a clip (R131). -/
inductive ClipState where
  | opened | closed | queued | sending | sent | orphaned
deriving DecidableEq, Repr

/-- A lane's in-point in a clip (R131). -/
inductive InPoint where
  | at (tick : Word)
  | pending
  | none
deriving DecidableEq, Repr

/-- A clip record (R131). `keys` is the mode KEYS. `pins` lists the frame records the clip pins, by lane and tick, in the
order they were pinned: these are the clip's records. -/
structure Clip where
  id          : Nat
  state       : ClipState
  kept        : Bool
  short       : Bool
  ceilClosed  : Bool
  sendOnClose : Bool
  lanes       : List (Lane × InPoint)
  inTick      : Word
  outTick     : Option Word
  inTc        : Option Timecode
  onAir       : List Lane
  tags        : List Nat
  priority    : Nat
  keys        : Bool
  engine      : Option EngineNo
  framesSent  : Nat
  framesTotal : Nat
  wseq        : Option Word
  rebuilt     : Bool
  pins        : List (Lane × Word)
deriving DecidableEq, Repr

/-- A clip template (R140). -/
structure Template where
  lanes       : List Lane
  preroll     : Nat
  tags        : List Nat
  sendOnClose : Bool
  priority    : Nat
  keys        : Bool
deriving DecidableEq, Repr

/-- The clip log (R131, R133, R140, R144, R146); the stale-label list itself stands in the assembler. -/
structure ClipLog where
  clips         : List Clip
  lastId        : Nat
  dirty         : List Nat
  dirtyOverflow : Bool
  staleOverflow : Bool
  templates     : Vector Template 4
  tags          : Vector (Option (List Byte)) 64
  queue         : List Nat
deriving DecidableEq, Repr

/-- The record a transfer cursor names (R147), with the next slice and piece. -/
structure ClipCursor where
  lane  : Lane
  tick  : Word
  slice : Nat
  piece : Nat
deriving DecidableEq, Repr

/-- What a busy transfer engine holds (R147). The piece on offer is the one its cursor names (R148). -/
structure Transfer where
  clip      : Nat
  keys      : Bool
  cursor    : Option ClipCursor
  remaining : Nat
deriving DecidableEq, Repr

/-! ## The label store (chapter 9) -/

/-- The state of a sector (R151). -/
inductive SectorState where
  | erased | head | full | erasing
deriving DecidableEq, Repr

/-- An entry of the record directory (R152), with its clip id. -/
structure DirEntry where
  id        : Nat
  sector    : Nat
  slot      : Nat
  seq       : Word
  discarded : Bool
deriving DecidableEq, Repr

/-- An entry of the erase list (R158): the erase time done, in samples, and the sample since which the erase runs. -/
structure EraseEntry where
  sector : Nat
  done   : Nat
  since  : Option Nat
deriving DecidableEq, Repr

/-- The compaction state (R151). In ERASING no next victim slot is held, and RDLS gives none: R157 has looked at them all,
and no rule gives the item a value there (DESIGN CHOICE, notes/assumptions/78.md). -/
inductive Compaction where
  | idle
  | copying (victim next : Nat)
  | erasing (victim : Nat)
deriving DecidableEq, Repr

/-- A record write in progress (R151, R153): the slot, the record, and the sample at which the write ends. -/
structure RecordWrite where
  sector    : Nat
  slot      : Nat
  id        : Nat
  seq       : Word
  discarded : Bool
  copy      : Bool
  bytes     : List Byte
  due       : Nat
deriving DecidableEq, Repr

/-- The label store (R151). `waiting` is the writer's wait for room (R155); the sector states, the head, the fill order,
the directory and the lists are those of R151 to R158; `mem` is the non-volatile memory
(address = sector × 32,768 + slot × 128 + byte). -/
structure LabelStore where
  mem       : Memory
  ready     : Bool
  sectors   : Vector SectorState 32
  head      : Option (Nat × Nat)
  fillOrder : List Nat
  nextSeq   : Word
  directory : List DirEntry
  eraseList : List EraseEntry
  compact   : Compaction
  writing   : Option RecordWrite
  waiting   : Bool
  storeFull : Nat
  scanBad   : Nat
  scanErase : Nat
  scanFound : Nat
deriving DecidableEq, Repr

/-! ## The reference unit and the contact inputs (chapter 10) -/

/-- The reference state (R164). -/
inductive RefState where
  | absent | locking | locked | holdover
deriving DecidableEq, Repr

/-- The frame rate (R1, R164). -/
inductive FrameRate where
  | fps50 | fps60
deriving DecidableEq, Repr

/-- The reference unit (R164). `originHoldover` is the locking origin HOLDOVER; `clock` is the current sample count;
`nextTick` the sample of the next tick; `recent` the newest ticks with their samples, newest first (R88). -/
structure ReferenceUnit where
  state          : RefState
  originHoldover : Bool
  rate           : FrameRate
  tick           : Word
  lastTickSample : Nat
  run            : Nat
  lastPulse      : Option Nat
  lastGood       : Option Nat
  phase          : Int
  timecode       : Timecode
  heldTimecode   : Option Timecode
  clock          : Nat
  nextTick       : Nat
  recent         : List (Word × Nat)
deriving DecidableEq, Repr

/-- The function of a contact input (R171). -/
inductive ContactFn where
  | none | markIn | markOut | markToggle | take | tally
deriving DecidableEq, Repr

/-- The edge setting of a contact input (R171). -/
inductive EdgeSetting where
  | rising | falling | both
deriving DecidableEq, Repr

/-- A running contact filter (R171): the sample at which it runs out, and its stamp tick. -/
structure Filter where
  due   : Nat
  stamp : Word
deriving DecidableEq, Repr

/-- A contact input (R171): `true` is closed. -/
structure Contact where
  fn       : ContactFn
  param    : Nat
  edge     : EdgeSetting
  filterMs : Nat
  accepted : Bool
  raw      : Bool
  filter   : Option Filter
deriving DecidableEq, Repr

/-! ## What the read directives report -/

/-- What RDLN gives (R36, and the table of chapter 3). -/
structure LaneReport where
  state     : LaneState
  format    : Format
  held      : Option Format
  keyReq    : Bool
  delta     : Nat
  lastTick  : Option Word
  frame     : Option (Word × Disposition × Option FrameKind × Option Bool × Nat)
  passFill  : Nat
  buffers   : Vector BufferState 2
  settings  : RateSettings
  heldRate  : Option RateSettings
  wOn       : Nat
  wOff      : Nat
  fullness  : Nat
  midpoint  : Nat
  q         : Nat
  force     : Bool
  tallyOn   : Bool
  rate      : Nat
  capacity  : Capacity
  allots    : List (FrameKind × Nat × Nat × Nat)
  labelRes  : Nat
  clipRes   : Nat
deriving DecidableEq, Repr

/-- What RDAS gives of a lane and of a path (R130). -/
structure AssemblyLaneReport where
  cursor   : Option (Word × Nat)
  awaiting : Bool
  gen      : Word
  effLimit : Nat
deriving DecidableEq, Repr

structure AssemblyPathReport where
  high   : Nat
  low    : Nat
  opened : Bool
  fill   : Nat
  load   : Option Nat
deriving DecidableEq, Repr

/-- What RDAS gives (R130). -/
structure AssemblyReport where
  control     : Nat
  redispatch  : Nat
  audio       : Nat
  staleTags   : Nat
  staleLabels : Nat
  lanes       : Vector AssemblyLaneReport 6
  laneRot     : Lane
  engineRot   : EngineNo
  paths       : Vector AssemblyPathReport 4
  pathsUp     : Nat
  labelRes    : Nat
  clipRes     : Nat
  videoSeq    : Vector Word 6
  clipSeq     : Vector Word 2
  labelSeq    : Word
  controlSeq  : Word
deriving DecidableEq, Repr

/-- What RDST gives (R70). -/
structure StoreReport where
  free     : Nat
  pinned   : Nat
  ceiling  : Nat
  inUse    : Nat
  writing  : Nat
  pending  : Nat
  sending  : Nat
  done     : Nat
  gone     : Nat
  withPins : Nat
  capped   : Nat
  lanes    : Vector (Nat × Option Word × Option Word × Option Word) 6
deriving DecidableEq, Repr

/-- What RDMX gives for selectors 0 and 1 (R90). -/
structure BankReport where
  bank     : Bank
  delaySum : Nat
  wordLens : Vector Nat 36
  ramp     : Nat
deriving DecidableEq, Repr

/-- What RDMX gives besides for selector 1 (R90): value, target and steps still to run of each coefficient, the read
delay, fade state and level of each source, and the take state. -/
structure LiveReport where
  xp          : Vector (Int × Int × Nat) 288
  masters     : Vector (Int × Int × Nat) 8
  fades       : Vector Fade 36
  takePending : Bool
  takeArmed   : Option Word
deriving DecidableEq, Repr

/-- What RDPT gives (R112). -/
structure PathReport where
  state      : PathState
  carrier    : Bool
  settings   : PathSettings
  ownAck     : Bool
  ownFault   : Bool
  farOffer   : Option OfferWord
  run        : Nat
  farFault   : Nat
  toggle     : Bool
  extras     : FarExtras
  agreed     : Option Nat
  agreedHold : Bool
  retry      : Nat
  timerMs    : Nat
  holdMs     : Nat
  fill       : Nat
  slotFull   : Bool
  seq        : Byte
  channels   : Nat
  startDepth : Nat
  ownHoldMs  : Nat
  endHold    : Bool
  jitter     : Nat
  frontSeq   : Option Word
  lastPlayed : Option Word
  playing    : Bool
  holdSent   : Bool
deriving DecidableEq, Repr

/-- What RDCL gives (R150): the clip record, the pins on each of its lanes with the newest pinned tick, its place in the
transfer queue, and whether its id is on the store-dirty and on the stale-label list. -/
structure ClipReport where
  clip    : Clip
  lanes   : List (Lane × Nat × Option Word)
  place   : Option Nat
  dirty   : Bool
  stale   : Bool
deriving DecidableEq, Repr

/-- What LSCL gives of a clip (R150). -/
structure ClipLine where
  id          : Nat
  state       : ClipState
  kept        : Bool
  short       : Bool
  ceilClosed  : Bool
  sendOnClose : Bool
  inTick      : Word
deriving DecidableEq, Repr

/-- What LSCL gives (R150); of an engine its clip, cursor tick and frames remaining, absent when idle. -/
structure ListReport where
  count         : Nat
  lastId        : Nat
  dirtyOverflow : Bool
  staleOverflow : Bool
  dirtyFill     : Nat
  staleFill     : Nat
  queue         : List Nat
  engines       : Vector (Option (Nat × Option Word × Nat)) 2
  clips         : List ClipLine
deriving DecidableEq, Repr

/-- R151, R163: the writer in WRITING: the slot being programmed, and the record being written. -/
structure WriterReport where
  sector    : Nat
  slot      : Nat
  id        : Nat
  seq       : Word
  discarded : Bool
  bytes     : List Byte
deriving DecidableEq, Repr

/-- What RDLS gives (R163); the erase times done in milliseconds; the writer is IDLE at none. -/
structure LabelReport where
  ready     : Bool
  sectors   : Vector (SectorState × Nat) 32
  head      : Option (Nat × Nat)
  erased    : Nat
  fillOrder : List Nat
  eraseList : List (Nat × Nat)
  compact   : Compaction
  writing   : Option WriterReport
  nextSeq   : Word
  ids       : Nat
  storeFull : Nat
  scanBad   : Nat
  scanErase : Nat
  scanFound : Nat
deriving DecidableEq, Repr

/-- What RDRF gives of a contact input (R174); the filter as the time left in milliseconds and the stamp tick. -/
structure ContactReport where
  fn       : ContactFn
  param    : Nat
  edge     : EdgeSetting
  filterMs : Nat
  raw      : Bool
  accepted : Bool
  filter   : Option (Nat × Word)
deriving DecidableEq, Repr

/-- How the sample clock is governed (R164). -/
inductive Governance where
  | freeRunning | steered | held
deriving DecidableEq, Repr

/-- What RDRF gives (R174). -/
structure ReferenceReport where
  state          : RefState
  originHoldover : Bool
  rate           : FrameRate
  governance     : Governance
  tick           : Word
  lastTickSample : Nat
  clock          : Nat
  run            : Nat
  lastPulse      : Option Nat
  lastGood       : Option Nat
  phase          : Int
  timecode       : Timecode
  heldTimecode   : Option Timecode
  contacts       : Vector ContactReport 8
  onAir          : Vector Bool 6
deriving DecidableEq, Repr

/-- What STAT gives (R180), less the part identity and revision, which Config holds. -/
structure StatusReport where
  identity : Word
  revision : Word
  station  : Byte
  latched  : List (Nat × Nat)
  mask     : Word
  refState : RefState
  scanning : Bool
  queue    : Nat
  held     : Bool
deriving DecidableEq, Repr

/-- The content of the result words of a SUCCESS response (R177): none, words that the rule gives one by one, or the
items a rule names without laying them out in words. -/
inductive Report where
  | empty
  | words (ws : List Word)
  | takeState (already : Bool)
  | clipMade (id : Nat) (lanes : List InPoint) (short : Bool)
  | lane (r : LaneReport)
  | assembler (r : AssemblyReport)
  | store (r : StoreReport)
  | meters (sources buses : List Nat) (clips : List Nat)
  | cuedBank (r : BankReport)
  | liveBank (r : BankReport) (l : LiveReport)
  | law (entries : List Nat)
  | path (r : PathReport)
  | clip (r : ClipReport)
  | clipList (r : ListReport)
  | labels (r : LabelReport)
  | reference (r : ReferenceReport)
  | status (r : StatusReport)
deriving DecidableEq, Repr

/-- The result of a directive (R175, R185). -/
inductive Result where
  | success | unknown | malformed | range | state | busy | full | scope | notFound
deriving DecidableEq, Repr

/-- A response (R177): the directive's name and tag, its result and the content of its result words. -/
structure Response where
  name   : Word
  tag    : Half
  result : Result
  report : Report
deriving DecidableEq, Repr

/-- A packet of the lane-63 egress queue (R16): a response or a notice (kind, unit, frame tick of the latch). -/
inductive EgressPacket where
  | response (r : Response)
  | notice (kind : EventKind) (unit : Nat) (tick : Word)
deriving DecidableEq, Repr

/-- The fabric port (chapter 1): the lanes' intake state (R5, R8, R9, R12), the bus packet and the outbound sequences
(R15, R16), the lane-63 egress queue and the held response (R16), the station address read from the straps (R3), and
the last packet that left (the model's own output). -/
structure FabricPort where
  video   : Vector VideoIntake 6
  audio   : Vector AudioIntake 4
  mgmt    : SeqState
  bus     : Option BusPacket
  busSeq  : Half
  mgmtSeq : Half
  egress  : List EgressPacket
  held    : Option Response
  station : Byte
  sent    : Option (List Byte)
deriving DecidableEq, Repr

/-- A directive in the input queue (R176), with its name. -/
structure QueuedDirective where
  name : Word
  body : Directive
deriving DecidableEq, Repr

/-- The directive handler (chapter 11): the input queue (R176), whether RSTR has been taken (R183), the remote scope and
the reserved places (R178), the latched flags and the mask (R179, R180), and the forty counters (R181). -/
structure Handler where
  queue     : List QueuedDirective
  stopped   : Bool
  scopeRead : Bool
  scopeClip : Bool
  reserved  : Nat
  flags     : List (EventKind × Nat)
  mask      : Word
  counters  : Vector Word 40
deriving DecidableEq, Repr

/-! ## The whole machine -/

/-- The state of the processor. `pending` is the queue of commands waiting (the model's own); `power` says whether power
is applied; `straps` is the level of the station-address straps; `freeSeed` counts the free values drawn (the model's
own). -/
structure State where
  pending  : List Instr
  power    : Bool
  straps   : Byte
  freeSeed : Nat
  port     : FabricPort
  handler  : Handler
  ref      : ReferenceUnit
  contacts : Vector Contact 8
  lanes    : Vector LaneCoder 6
  store    : CodedStore
  mixer    : Mixer
  paths    : Vector PathCtl 4
  ret      : ReturnReceiver
  asm      : Assembler
  clips    : ClipLog
  engines  : Vector (Option Transfer) 2
  labels   : LabelStore
deriving DecidableEq, Repr

/-- Why a command stops with a fault. -/
inductive Fault where
  /-- Raised by UNKNOWN_DIRECTIVE with a name that the summary table holds: no unknown directive at all (R175), and no
  well-formed command. Safe: the hardware has no such event. -/
  | knownName
  /-- Raised by SLICE_CODED with a coded size that no coding gives: not from 32 to the width of the frame's format times
  48 (R28). Safe: the hardware has no such event. -/
  | codedSize
deriving DecidableEq, Repr

/-- Why a command is refused. -/
inductive Refusal where
  /-- Raised by exec's arms for a command that has no meaning yet; none is left. Safe. -/
  | notModelled (mnemonic : String)
deriving DecidableEq, Repr

/-! ### One update for each field -/

namespace State

def withPending (s : State) (v : List Instr) : State := { s with pending := v }
def withPower (s : State) (v : Bool) : State := { s with power := v }
def withStraps (s : State) (v : Byte) : State := { s with straps := v }
def withSeed (s : State) (v : Nat) : State := { s with freeSeed := v }
def withPort (s : State) (v : FabricPort) : State := { s with port := v }
def withHandler (s : State) (v : Handler) : State := { s with handler := v }
def withRef (s : State) (v : ReferenceUnit) : State := { s with ref := v }
def withContacts (s : State) (v : Vector Contact 8) : State := { s with contacts := v }
def withLanes (s : State) (v : Vector LaneCoder 6) : State := { s with lanes := v }
def withStore (s : State) (v : CodedStore) : State := { s with store := v }
def withMixer (s : State) (v : Mixer) : State := { s with mixer := v }
def withPaths (s : State) (v : Vector PathCtl 4) : State := { s with paths := v }
def withRet (s : State) (v : ReturnReceiver) : State := { s with ret := v }
def withAsm (s : State) (v : Assembler) : State := { s with asm := v }
def withClips (s : State) (v : ClipLog) : State := { s with clips := v }
def withEngines (s : State) (v : Vector (Option Transfer) 2) : State := { s with engines := v }
def withLabels (s : State) (v : LabelStore) : State := { s with labels := v }

end State

/-! ### The state after power-on -/

/-- The format of a lane after power-on (R19). -/
def resetFormat : Format := ⟨1920, 1080, 50⟩

/-- The rate settings after power-on (R37). -/
def resetRateSettings : RateSettings := ⟨24, 8, 52, 16, 262144, 4, 4, 12⟩

/-- The rate context after power-on (R37). -/
def resetRate : RateContext :=
  { settings := resetRateSettings, held := none, wOn := 8, wOff := 4, fullness := 0, q := 24, force := false
    tallyOn := false, rate := 0, capacity := ⟨0, 0, 0, 0⟩, allots := [] }

/-- A free slice buffer; what a FREE buffer holds is never read. -/
def freeBuffer : SliceBuffer := ⟨.free, 0, 0, [], none⟩

/-- A lane coder after power-on (R19). -/
def resetLane : LaneCoder :=
  { state := .off, format := resetFormat, held := none, frame := none, prev := none, keyReq := false, delta := 0
    lastTick := none, idle := 0, fill := none, buffers := Vector.replicate 2 freeBuffer, engine := none, pass := []
    placing := none, rate := resetRate }

/-- The sequence state after power-on (R5). -/
def resetSeq : SeqState := ⟨none, 0⟩

/-- The fabric port after power-on (R18), with the station address read from the straps. -/
def resetPort (straps : Byte) : FabricPort :=
  { video := Vector.replicate 6 ⟨resetSeq, [], none, none⟩, audio := Vector.replicate 4 ⟨resetSeq, []⟩, mgmt := resetSeq
    bus := none, busSeq := 0, mgmtSeq := 0, egress := [], held := none, station := straps, sent := none }

/-- The directive handler after power-on (R178 to R183). -/
def resetHandler : Handler :=
  { queue := [], stopped := false, scopeRead := false, scopeClip := false, reserved := 0, flags := [], mask := 0
    counters := Vector.replicate 40 0 }

/-- The reference unit after power-on (R164): tick 0 is at sample 0, and the next tick 960 samples later. -/
def resetRef : ReferenceUnit :=
  { state := .absent, originHoldover := false, rate := .fps50, tick := 0, lastTickSample := 0, run := 0
    lastPulse := none, lastGood := none, phase := 0, timecode := ⟨0, 0, 0, 0⟩, heldTimecode := none, clock := 0
    nextTick := 960, recent := [(0, 0)] }

/-- A contact input after power-on (R171): the accepted level is the raw level at the reset. -/
def resetContact (raw : Bool) : Contact := ⟨.none, 0, .rising, 10, raw, raw, none⟩

/-- The block numbers from `a`, `n` of them. -/
def blocksFrom : Nat → Nat → List Nat
  | _, 0 => []
  | a, n + 1 => a :: blocksFrom (a + 1) n

/-- The coded store after power-on (R54, R71). -/
def resetStore : CodedStore :=
  { free := blocksFrom 0 16384, records := Vector.replicate 6 [], pinned := 0, ceiling := 12288, dram := [] }

/-- A bank after power-on (R74). -/
def resetBank : Bank :=
  { xp := Vector.replicate 288 0, masters := Vector.replicate 8 255, delays := Vector.replicate 36 0
    invert := Vector.replicate 36 false, home := [0, 1] }

/-- A coefficient at rest at a value (R74). -/
def restCoef (v : Int) : Coef := ⟨v, v, v, 0, 0⟩

/-- The mixer after power-on (R74). -/
def resetMixer : Mixer :=
  { law := Vector.ofFn (fun p : Fin 256 => p.val * 16384 / 255), ramp := 480, wordLens := Vector.replicate 36 24
    cued := resetBank, live := resetBank, xp := Vector.replicate 288 (restCoef 0)
    masters := Vector.replicate 8 (restCoef 16384), fades := Vector.replicate 36 ⟨0, .steady, 48⟩
    history := Vector.replicate 36 ⟨0, []⟩, takePending := false, takeArmed := none, cellSeq := Vector.replicate 8 0
    srcPeak := Vector.replicate 36 0, busPeak := Vector.replicate 8 0, clipCount := Vector.replicate 8 0, block := 0
    work := none, period := none
    lastView := ⟨resetBank, Vector.replicate 288 (restCoef 0), Vector.replicate 8 (restCoef 16384),
      Vector.replicate 36 ⟨0, .steady, 48⟩, false, none, Vector.replicate 36 24, 480⟩ }

/-- A path controller after power-on (R91), with the carrier as its line shows. -/
def resetPath (carrier : Bool) : PathCtl :=
  { state := .disabled, settings := ⟨false, 2000, true, 2, false, 7⟩, ownAck := false, ownFault := false
    farOffer := none, run := 0, farFault := 0, toggle := false, lastRound := none, extras := ⟨none, false, false⟩
    agreed := none, agreedHold := false, retry := 0, timer := none, pacer := none, holdTimer := none, slot := none
    queue := [], seq := 0, carrier := carrier, sent := none }

/-- The return receiver after power-on (R108). -/
def resetRet : ReturnReceiver :=
  { channels := 2, startDepth := 8, holdMs := 20, endHold := true, queue := [], lastPlayed := none, playing := false
    current := none, lateRun := 0, holdSent := false }

/-- The cell assembler after power-on (R113). -/
def resetAsm : Assembler :=
  { control := [], redispatch := [], audio := [], staleTags := [], staleLabels := []
    cursors := Vector.replicate 6 none, awaiting := Vector.replicate 6 false, gen := Vector.replicate 6 0
    laneRot := 5, engineRot := 1, marks := Vector.replicate 4 ⟨96, 32⟩, opened := Vector.replicate 4 true, pathsUp := 0
    videoSeq := Vector.replicate 6 0, clipSeq := Vector.replicate 2 0, labelSeq := 0, controlSeq := 0
    labelReserve := 64, clipReserve := 0, effLimit := Vector.replicate 6 resetRateSettings.latency }

/-- A clip template after power-on (R140). -/
def resetTemplate : Template := ⟨[0], 150, [], false, 0, false⟩

/-- The clip log after power-on, before the label store rebuilds it (R131, R133, R140, R144). -/
def resetClips : ClipLog :=
  { clips := [], lastId := 0, dirty := [], dirtyOverflow := false, staleOverflow := false
    templates := Vector.replicate 4 resetTemplate, tags := Vector.replicate 64 none, queue := [] }

/-- The label store as power-on leaves it: scanning, over the memory it keeps (R151). The other items are set by the
start-up scan; until then they stand as here (DESIGN CHOICE, notes/assumptions/4.md). -/
def resetLabels (mem : Memory) : LabelStore :=
  { mem := mem, ready := false, sectors := Vector.replicate 32 .erased, head := none, fillOrder := [], nextSeq := 0
    directory := [], eraseList := [], compact := .idle, writing := none, waiting := false, storeFull := 0, scanBad := 0
    scanErase := 0, scanFound := 0 }

/-- The state right after power-on (R183): every block as its chapter gives it, the start-up scan not yet done. The
straps, the contacts' raw levels, the carriers and the contents of the non-volatile memory are what stands outside or
was left there; here straps 0, contacts open, no carrier, memory erased (DESIGN CHOICE, notes/assumptions/3.md). -/
def State.reset : State :=
  { pending := [], power := true, straps := 0, freeSeed := 0, port := resetPort 0, handler := resetHandler
    ref := resetRef, contacts := Vector.replicate 8 (resetContact false), lanes := Vector.replicate 6 resetLane
    store := resetStore, mixer := resetMixer, paths := Vector.replicate 4 (resetPath false), ret := resetRet
    asm := resetAsm, clips := resetClips, engines := Vector.replicate 2 none, labels := resetLabels [] }

end Sys2Proof.Machine
end

