-- ==== Sys2Proof/Config.lean ====
section
/-! DEFINITION. What an implementation of the BX-460 fixes and the spec leaves open: free values, without a body, so
that nothing can be proved of which value they have. -/

namespace Sys2Proof

open Machine

/-- FREE VALUE: how the items that a read directive's rule names are laid out as result words. The rules name the items
and the formats chapter lays out none of them (R177, R185). -/
opaque Config.resultWords : Report → List Word

/-- FREE VALUE: the part identity that STAT gives (R180). -/
opaque Config.partIdentity : Word

/-- FREE VALUE: the part revision that STAT gives (R180). -/
opaque Config.partRevision : Word

/-- FREE VALUE: how far the programming of a record had come when it was cut short (R153), for each cut. -/
opaque Config.cutWrite : Nat → Nat

/-- FREE VALUE: what a byte of a sector reads as after its erase was cut off part way (R159), for each cut and each
address. -/
opaque Config.cutErase : Nat → Nat → Byte

end Sys2Proof
end

