-- ==== Sys2Proof/Machine/Arith.lean ====
section
/-! DEFINITION. The arithmetic conventions of R1: the order of ticks and sequences modulo 2^32, trunc, clamp, and the
bytes of multi-byte fields, most significant first. -/

namespace Sys2Proof.Machine

/-- R1: tick t is earlier than tick u when u - t, modulo 2^32, lies in 1 to 2^31 - 1. -/
def earlier (t u : Word) : Bool := 1 ≤ (u - t).toNat && (u - t).toNat < 2 ^ 31

/-- R1, R108, R152: s is later than u. -/
def later (s u : Word) : Bool := earlier u s

/-- R1: a value below the range becomes its lowest value, a value above it the highest. -/
def clampInt (lo hi x : Int) : Int := if x < lo then lo else if hi < x then hi else x

def clampNat (lo hi x : Nat) : Nat := if x < lo then lo else if hi < x then hi else x

/-- R1: division that rounds toward zero. -/
def trunc (x y : Int) : Int := x.tdiv y

/-- R1: division that rounds toward minus infinity. -/
def floorDiv (x y : Int) : Int := x.fdiv y

/-- Division that rounds up (R26, R60, R124). -/
def ceilDiv (x y : Nat) : Nat := (x + y - 1) / y

/-- The bytes of a 16-bit field, most significant first (R184). -/
def bytes16 (x : Nat) : List Byte := [BitVec.ofNat 8 (x / 256), BitVec.ofNat 8 x]

/-- The bytes of a 32-bit field, most significant first (R184). -/
def bytes32 (x : Nat) : List Byte := bytes16 (x / 65536) ++ bytes16 x

/-- The byte at a place; a byte that is not there counts as zero. -/
def byteAt (l : List Byte) (i : Nat) : Byte := l.getD i 0

/-- A 16-bit field at a place. -/
def get16 (l : List Byte) (i : Nat) : Nat := (byteAt l i).toNat * 256 + (byteAt l (i + 1)).toNat

/-- A 32-bit field at a place. -/
def get32 (l : List Byte) (i : Nat) : Nat := get16 l i * 65536 + get16 l (i + 2)

/-- A sample as three bytes, two's complement, most significant first (R185, R187). -/
def bytesSample (x : Sample) : List Byte :=
  let v := (BitVec.ofInt 24 x).toNat
  BitVec.ofNat 8 (v / 65536) :: bytes16 v

/-- The sample whose three bytes are a, b, c (R1, R185). -/
def sampleOf (a b c : Byte) : Sample := (BitVec.ofNat 24 (a.toNat * 65536 + b.toNat * 256 + c.toNat)).toInt

/-- The samples of a run of bytes, three bytes each; bytes left over give none. -/
def samplesOf : List Byte → List Sample
  | a :: b :: c :: rest => sampleOf a b c :: samplesOf rest
  | _ => []

/-- Pad with zero bytes to a length. -/
def padTo (n : Nat) (l : List Byte) : List Byte := l ++ List.replicate (n - l.length) 0

/-- A list has fewer than n entries. -/
def fewerThan {α : Type} : Nat → List α → Bool
  | 0, _ => false
  | _ + 1, [] => true
  | n + 1, _ :: l => fewerThan n l

/-- No entry stands twice. -/
def distinct {α : Type} [DecidableEq α] : List α → Bool
  | [] => true
  | a :: l => !l.contains a && distinct l

/-- Insert before the first entry that the order puts after `a`: a stable insertion. -/
def insertSorted {α : Type} (before : α → α → Bool) (a : α) : List α → List α
  | [] => [a]
  | b :: l => if before a b then a :: b :: l else b :: insertSorted before a l

/-- Stable insertion sort by `before` (strictly before). -/
def sortBy {α : Type} (before : α → α → Bool) (l : List α) : List α :=
  l.foldl (fun acc a => insertSorted before a acc) []

/-- A vector made by changing every entry. -/
def mapVec {α β : Type} {n : Nat} (f : Fin n → α → β) (v : Vector α n) : Vector β n := Vector.ofFn (fun i => f i v[i])

end Sys2Proof.Machine
end

