-- ==== Sys2Proof/Machine/Format.lean ====
section
/-! DEFINITION. The layouts of chapter 12: the CRC-16, lane packets, directives and responses, cells and their words, and
the label record. -/

namespace Sys2Proof.Machine

/-! ## The check (R184) -/

/-- One bit of the CRC-16: generator x^16 + x^12 + x^5 + 1, most significant bit first. -/
def crcShift (r : Half) : Half := if r.msb then (r <<< 1) ^^^ 0x1021 else r <<< 1

/-- One byte into the CRC-16. -/
def crcByte (r : Half) (b : Byte) : Half :=
  let r0 := r ^^^ (b.setWidth 16 <<< 8)
  crcShift (crcShift (crcShift (crcShift (crcShift (crcShift (crcShift (crcShift r0)))))))

/-- The CRC-16 of a run of bytes (R184): the register starts at all ones and is not inverted at the end. -/
def crc16 (l : List Byte) : Half := l.foldl crcByte 0xFFFF

/-! ## Lane packets (R185) -/

/-- The type of an Ethernet frame that carries a lane packet (R185). -/
def lanePacketType : Half := 0x88B6

/-- The header fields of a lane packet that the port reads, and its payload: absent when the payload length is greater
than the bytes that follow the header (R185). -/
structure LanePacket where
  station : Byte
  lane    : Nat
  kind    : Nat
  extra   : Byte
  seq     : Half
  number  : Nat
  length  : Nat
  payload : Option (List Byte)
deriving DecidableEq, Repr

/-- The lane packet in an Ethernet frame's payload of at least twelve bytes. -/
def parseLanePacket (l : List Byte) : LanePacket :=
  let body := l.drop 12
  let len := get16 l 8
  { station := byteAt l 0, lane := (byteAt l 1).toNat, kind := (byteAt l 2).toNat, extra := byteAt l 3
    seq := BitVec.ofNat 16 (get16 l 4), number := get16 l 6, length := len
    payload := if body.length < len then none else some (body.take len) }

/-- A lane packet sent by the port (R3, R185). -/
def buildLanePacket (station : Byte) (lane kind extra : Nat) (seq : Half) (number : Nat) (payload : List Byte) : List Byte :=
  [station, BitVec.ofNat 8 lane, BitVec.ofNat 8 kind, BitVec.ofNat 8 extra] ++ bytes16 seq.toNat ++ bytes16 number
    ++ bytes16 payload.length ++ [0, 0] ++ payload

/-! ## Directives and responses (R175, R185) -/

/-- Four characters as one word, the first in the most significant byte. -/
def nameWord (a b c d : Char) : Word := BitVec.ofNat 32 (((a.toNat * 256 + b.toNat) * 256 + c.toNat) * 256 + d.toNat)

/-- The name of each directive of the summary table, in capitals. -/
def dirWord : DirName → Word
  | .lsta => nameWord 'L' 'S' 'T' 'A' | .lstp => nameWord 'L' 'S' 'T' 'P' | .lfmt => nameWord 'L' 'F' 'M' 'T'
  | .lkey => nameWord 'L' 'K' 'E' 'Y' | .rdln => nameWord 'R' 'D' 'L' 'N' | .lrat => nameWord 'L' 'R' 'A' 'T'
  | .lshr => nameWord 'L' 'S' 'H' 'R' | .rsrv => nameWord 'R' 'S' 'R' 'V' | .pmrk => nameWord 'P' 'M' 'R' 'K'
  | .rdas => nameWord 'R' 'D' 'A' 'S' | .ceil => nameWord 'C' 'E' 'I' 'L' | .rdst => nameWord 'R' 'D' 'S' 'T'
  | .xpnt => nameWord 'X' 'P' 'N' 'T' | .bmst => nameWord 'B' 'M' 'S' 'T' | .srce => nameWord 'S' 'R' 'C' 'E'
  | .home => nameWord 'H' 'O' 'M' 'E' | .take => nameWord 'T' 'A' 'K' 'E' | .ramp => nameWord 'R' 'A' 'M' 'P'
  | .flaw => nameWord 'F' 'L' 'A' 'W' | .rdmt => nameWord 'R' 'D' 'M' 'T' | .rdmx => nameWord 'R' 'D' 'M' 'X'
  | .path => nameWord 'P' 'A' 'T' 'H' | .pena => nameWord 'P' 'E' 'N' 'A' | .pdis => nameWord 'P' 'D' 'I' 'S'
  | .prst => nameWord 'P' 'R' 'S' 'T' | .rtrn => nameWord 'R' 'T' 'R' 'N' | .rdpt => nameWord 'R' 'D' 'P' 'T'
  | .mkin => nameWord 'M' 'K' 'I' 'N' | .mkot => nameWord 'M' 'K' 'O' 'T' | .tmpl => nameWord 'T' 'M' 'P' 'L'
  | .send => nameWord 'S' 'E' 'N' 'D' | .keep => nameWord 'K' 'E' 'E' 'P' | .disc => nameWord 'D' 'I' 'S' 'C'
  | .tagd => nameWord 'T' 'A' 'G' 'D' | .tagc => nameWord 'T' 'A' 'G' 'C' | .rdcl => nameWord 'R' 'D' 'C' 'L'
  | .lscl => nameWord 'L' 'S' 'C' 'L' | .rdls => nameWord 'R' 'D' 'L' 'S' | .tcod => nameWord 'T' 'C' 'O' 'D'
  | .refr => nameWord 'R' 'E' 'F' 'R' | .cont => nameWord 'C' 'O' 'N' 'T' | .rdrf => nameWord 'R' 'D' 'R' 'F'
  | .scop => nameWord 'S' 'C' 'O' 'P' | .emsk => nameWord 'E' 'M' 'S' 'K' | .eclr => nameWord 'E' 'C' 'L' 'R'
  | .stat => nameWord 'S' 'T' 'A' 'T' | .cntr => nameWord 'C' 'N' 'T' 'R' | .rstr => nameWord 'R' 'S' 'T' 'R'

/-- The directives of the summary table (chapter 11), in its order. -/
def allDirNames : List DirName :=
  [.lsta, .lstp, .lfmt, .lkey, .rdln, .lrat, .lshr, .rsrv, .pmrk, .rdas, .ceil, .rdst, .xpnt, .bmst, .srce, .home,
   .take, .ramp, .flaw, .rdmt, .rdmx, .path, .pena, .pdis, .prst, .rtrn, .rdpt, .mkin, .mkot, .tmpl, .send, .keep,
   .disc, .tagd, .tagc, .rdcl, .lscl, .rdls, .tcod, .refr, .cont, .rdrf, .scop, .emsk, .eclr, .stat, .cntr, .rstr]

/-- R175 check 1: the name is in the summary table. -/
def knownName (w : Word) : Bool := allDirNames.any (fun n => dirWord n == w)

/-- The whole words of a parameter part. -/
def wordsOf : List Byte → List Word
  | a :: b :: c :: d :: rest => BitVec.ofNat 32 (get32 [a, b, c, d] 0) :: wordsOf rest
  | _ => []

/-- A directive payload of at least eight bytes (R185) from a side. -/
def parseDirective (side : Side) (p : List Byte) : QueuedDirective :=
  { name := BitVec.ofNat 32 (get32 p 0)
    body := { side := side, tag := BitVec.ofNat 16 (get16 p 4), words := wordsOf (p.drop 8)
              ragged := (p.length - 8) % 4 != 0 } }

/-- The result byte of a response (R185). -/
def resultCode : Result → Nat
  | .success => 0 | .unknown => 1 | .malformed => 2 | .range => 3 | .state => 4 | .busy => 5 | .full => 6 | .scope => 7
  | .notFound => 8

/-- The result words of a response (R177). The layout of the items that a read's rule names is a free value. -/
def reportWords : Report → List Word
  | .empty => []
  | .words ws => ws
  | r => Config.resultWords r

/-- A response payload (R185) with its first `limit` result words. -/
def responsePayload (r : Response) (limit : Nat) : List Byte :=
  bytes32 r.name.toNat ++ bytes16 r.tag.toNat ++ [BitVec.ofNat 8 (resultCode r.result), 0]
    ++ ((reportWords r.report).take limit).flatMap (fun w => bytes32 w.toNat)

/-- The kind numbers of R179. -/
def eventNumber : EventKind → Nat
  | .refLost => 0 | .refLocked => 1 | .laneGap => 2 | .laneLength => 3 | .laneOverrun => 4 | .directiveDropped => 5
  | .laneStalled => 6 | .laneRate => 7 | .bucketOverflow => 8 | .sliceCapped => 9 | .frameDropped => 10
  | .storePressure => 11 | .busClip => 12 | .audioUnderrun => 13 | .pathUp => 14 | .pathDown => 15 | .pathFailed => 16
  | .pathHeld => 17 | .pathFormat => 18 | .cellCheck => 19 | .returnUnderrun => 20 | .returnOverrun => 21
  | .returnGap => 22 | .liveSkip => 23 | .audioDropped => 24 | .clipLogFull => 25 | .shortPreroll => 26
  | .ceilingClose => 27 | .transferDone => 28 | .labelStoreFull => 29 | .labelRecordBad => 30 | .counterHalf => 31

/-- A notice payload (R185). -/
def noticePayload (k : EventKind) (u : Nat) (t : Word) : List Byte :=
  [BitVec.ofNat 8 (eventNumber k), 0] ++ bytes16 u ++ bytes32 t.toNat

/-- The lane-63 packet of an egress queue entry (R16, R185). -/
def egressBytes (station : Byte) (seq : Half) : EgressPacket → List Byte
  | .response r => buildLanePacket station 63 5 0 seq 0 (responsePayload r (reportWords r.report).length)
  | .notice k u t => buildLanePacket station 63 6 0 seq 0 (noticePayload k u t)

/-- The bus packet on lane 32 (R15, R185). -/
def busBytes (station : Byte) (b : BusPacket) : List Byte :=
  buildLanePacket station 32 3 1 b.seq (b.block % 65536) (b.samples.flatMap bytesSample)

/-! ## Cells (R187) -/

/-- The kind codes of R187. -/
def cellCode : CellKind → Nat
  | .fill => 0 | .video => 1 | .audio => 2 | .label => 3 | .clip => 4 | .response => 5 | .handshake => 6 | .hold => 7
  | .returnAudio => 8 | .directive => 9

/-- The kind of a code, absent for a code that R187 does not list. -/
def cellKindOf : Nat → Option CellKind
  | 0 => some .fill | 1 => some .video | 2 => some .audio | 3 => some .label | 4 => some .clip | 5 => some .response
  | 6 => some .handshake | 7 => some .hold | 8 => some .returnAudio | 9 => some .directive | _ => none

/-- The flags of a cell as the lower four bits of byte 0 (R187). -/
def flagBits (f : CellFlags) : Nat :=
  (if f.first then 8 else 0) + (if f.last then 4 else 0) + (if f.key then 2 else 0) + (if f.rep then 1 else 0)

/-- No flag set. -/
def noFlags : CellFlags := ⟨false, false, false, false⟩

/-- Bytes 0 to 13 of a cell with a path sequence (R187). -/
def cellHeader (c : Cell) (pathSeq : Byte) : List Byte :=
  [BitVec.ofNat 8 (cellCode c.kind * 16 + flagBits c.flags), BitVec.ofNat 8 c.stream] ++ bytes16 c.unit
    ++ bytes32 c.tick.toNat ++ bytes32 c.seq.toNat ++ [pathSeq, BitVec.ofNat 8 c.payload.length]

/-- The 256 bytes of a cell as it departs (R105, R187). -/
def cellBytes (c : Cell) (pathSeq : Byte) : List Byte :=
  let h := cellHeader c pathSeq
  h ++ bytes16 (crc16 (h ++ c.payload)).toNat ++ padTo 240 c.payload

/-- A cell of a kind with a payload and every other field zero (R187). -/
def plainCell (k : CellKind) (payload : List Byte) : Cell := ⟨k, noFlags, 0, 0, 0, 0, payload, 0⟩

/-- An offer word (R187). -/
def offerBytes (w : OfferWord) : List Byte :=
  [1, BitVec.ofNat 8 ((if w.holdCap then 8 else 0) + (if w.labelOnly then 4 else 0) + (if w.more then 2 else 0)
      + (if w.ack then 1 else 0)), BitVec.ofNat 8 w.channels, BitVec.ofNat 8 w.fault] ++ bytes32 w.rate

/-- An extra word (R187). -/
def extraBytes (w : ExtraWord) : List Byte :=
  [2, BitVec.ofNat 8 ((if w.toggle then 2 else 0) + (if w.more then 1 else 0)), BitVec.ofNat 8 w.code, 0] ++ bytes32 w.value

/-- An offer word read from the payload of a HANDSHAKE cell (R187). -/
def parseOffer (p : List Byte) : OfferWord :=
  let b := byteAt p 1
  { holdCap := b.getLsbD 3, labelOnly := b.getLsbD 2, more := b.getLsbD 1, ack := b.getLsbD 0
    channels := (byteAt p 2).toNat, fault := (byteAt p 3).toNat, rate := get32 p 4 }

/-- An extra word read from the payload of a HANDSHAKE cell (R187). -/
def parseExtra (p : List Byte) : ExtraWord :=
  let b := byteAt p 1
  { toggle := b.getLsbD 1, more := b.getLsbD 0, code := (byteAt p 2).toNat, value := get32 p 4 }

/-- The cell of a control slot (R105, R187). -/
def slotCell : SlotCell → Cell
  | .offer w => plainCell .handshake (offerBytes w)
  | .extra w => plainCell .handshake (extraBytes w)
  | .hold ms => plainCell .hold (bytes16 ms)

/-- What the controller reads of a cell received from a line (R106, R187): its kind, its stream sequence and its
payload. The Stream byte, the channel count of a RETURN_AUDIO cell, is not read (DESIGN CHOICE,
notes/assumptions/86.md). -/
structure InboundCell where
  kind    : CellKind
  seq     : Word
  payload : List Byte
deriving DecidableEq, Repr

/-- R106 step 1 with R187: the cell, or none when it fails its check: it is not 256 bytes, its payload length is above
240, its CRC-16 does not match, its kind code is not listed, or it is a RETURN_AUDIO cell whose payload length is not
240. The Stream byte is in the CRC-16 and is not read otherwise (DESIGN CHOICE, notes/assumptions/86.md). -/
def parseCell (l : List Byte) : Option InboundCell :=
  let len := (byteAt l 13).toNat
  let payload := (l.drop 16).take len
  if l.length ≠ 256 then none
  else if 240 < len then none
  else if (crc16 (l.take 14 ++ payload)).toNat ≠ get16 l 14 then none
  else
    match cellKindOf ((byteAt l 0).toNat / 16) with
    | none => none
    | some k =>
      if k = .returnAudio ∧ len ≠ 240 then none
      else some { kind := k, seq := BitVec.ofNat 32 (get32 l 8), payload := payload }

/-! ## The label record (R188) -/

/-- What a label record of the clip variant says (R188): the state code, and the fields of R131 that the layout holds. -/
structure LabelRecord where
  state : Nat
  id    : Nat
  wseq  : Option Word
  clip  : Clip
deriving DecidableEq, Repr

/-- The state codes of R188; DISCARDED is 7. -/
def clipStateCode : ClipState → Nat
  | .opened => 1 | .closed => 2 | .queued => 3 | .sending => 4 | .sent => 5 | .orphaned => 6

def clipStateOf : Nat → ClipState
  | 1 => .opened | 2 => .closed | 3 => .queued | 4 => .sending | 5 => .sent | _ => .orphaned

/-- The marker and the check close a record of 124 bytes (R153, R188). -/
def sealRecord (body : List Byte) : List Byte := body ++ bytes16 (crc16 body).toNat ++ [0x3C, 0x3C]

def tcBytes : Option Timecode → List Byte
  | none => [0, 0, 0, 0]
  | some t => [BitVec.ofNat 8 t.hh, BitVec.ofNat 8 t.mm, BitVec.ofNat 8 t.ss, BitVec.ofNat 8 t.ff]

def optWordBytes : Option Word → List Byte
  | none => [0, 0, 0, 0]
  | some w => bytes32 w.toNat

def inPointTick : InPoint → List Byte
  | .at t => bytes32 t.toNat
  | _ => [0, 0, 0, 0]

def inPointCode : InPoint → Byte
  | .at _ => 0
  | .pending => 1
  | .none => 2

/-- Bytes 0 to 123 of the clip variant for a clip, with the write sequence the record gives (R188). The in-point codes of
places beyond the lane count are zero (DESIGN CHOICE, notes/assumptions/82.md). -/
def clipBody (c : Clip) (wseq : Option Word) : List Byte :=
  let flags := (if c.kept then 128 else 0) + (if c.short then 64 else 0) + (if c.ceilClosed then 32 else 0)
    + (if c.sendOnClose then 16 else 0) + (if c.outTick.isSome then 8 else 0) + (if c.inTc.isSome then 4 else 0)
    + (if c.engine.isSome then 2 else 0) + (if wseq.isSome then 1 else 0)
  let onAir := c.onAir.foldl (fun m l => m + 2 ^ l.val) 0
  [1, BitVec.ofNat 8 (clipStateCode c.state)] ++ bytes16 c.id ++ optWordBytes wseq
    ++ [BitVec.ofNat 8 flags, BitVec.ofNat 8 c.lanes.length, BitVec.ofNat 8 onAir
        , BitVec.ofNat 8 (c.priority + (if c.keys then 128 else 0))
        , (match c.engine with | none => 0 | some e => BitVec.ofNat 8 e.val), BitVec.ofNat 8 c.tags.length]
    ++ padTo 4 (c.tags.map (BitVec.ofNat 8)) ++ bytes32 c.inTick.toNat ++ optWordBytes c.outTick ++ tcBytes c.inTc
    ++ bytes16 c.framesSent ++ bytes16 c.framesTotal
    ++ (c.lanes.map (fun p => BitVec.ofNat 8 p.1.val) ++ List.replicate (6 - c.lanes.length) 255)
    ++ padTo 24 (c.lanes.flatMap (fun p => inPointTick p.2)) ++ padTo 6 (c.lanes.map (fun p => inPointCode p.2))
    ++ List.replicate 54 0

/-- The label record of a clip (R188). -/
def clipRecord (c : Clip) (wseq : Option Word) : List Byte := sealRecord (clipBody c wseq)

/-- The DISCARDED record of an id (R188). -/
def discardedRecord (id : Nat) (wseq : Option Word) : List Byte :=
  sealRecord ([1, 7] ++ bytes16 id ++ optWordBytes wseq ++ [if wseq.isSome then 1 else 0] ++ List.replicate 115 0)

/-- The tag-definition variant (R188); an undefined entry goes with a text of zero characters (R144). -/
def tagRecord (code : Nat) (text : List Byte) : List Byte :=
  sealRecord ([2, 0] ++ bytes16 code ++ [BitVec.ofNat 8 text.length] ++ padTo 24 text ++ List.replicate 95 0)

/-- A slot is valid when its marker reads 0x3C3C and its CRC-16 matches (R188). -/
def recordValid (l : List Byte) : Bool :=
  l.length == 128 && get16 l 126 == 0x3C3C && get16 l 124 == (crc16 (l.take 124)).toNat

def parseTc (l : List Byte) (i : Nat) : Timecode :=
  ⟨(byteAt l i).toNat, (byteAt l (i + 1)).toNat, (byteAt l (i + 2)).toNat, (byteAt l (i + 3)).toNat⟩

def parseInPoint (l : List Byte) (k : Nat) : InPoint :=
  if byteAt l (64 + k) = 0 then .at (BitVec.ofNat 32 (get32 l (40 + 4 * k)))
  else if byteAt l (64 + k) = 1 then .pending else .none

/-- A clip record read back from its 128 bytes (R161, R188). Bytes that no record of the processor holds (a lane above
5) are read modulo the field's range. -/
def parseRecord (l : List Byte) : LabelRecord :=
  let flags := byteAt l 8
  let wseq := if flags.getLsbD 0 then some (BitVec.ofNat 32 (get32 l 4)) else none
  let id := get16 l 2
  let lanes := (List.range (byteAt l 9).toNat).map
    (fun k => (Fin.ofNat 6 (byteAt l (34 + k)).toNat, parseInPoint l k))
  { state := (byteAt l 1).toNat, id := id, wseq := wseq
    clip :=
      { id := id, state := clipStateOf (byteAt l 1).toNat, kept := flags.getLsbD 7, short := flags.getLsbD 6
        ceilClosed := flags.getLsbD 5, sendOnClose := flags.getLsbD 4, lanes := lanes
        inTick := BitVec.ofNat 32 (get32 l 18)
        outTick := if flags.getLsbD 3 then some (BitVec.ofNat 32 (get32 l 22)) else none
        inTc := if flags.getLsbD 2 then some (parseTc l 26) else none
        onAir := (List.finRange 6).filter (fun k => (byteAt l 10).getLsbD k.val)
        tags := (List.range (byteAt l 13).toNat).map (fun k => (byteAt l (14 + k)).toNat)
        priority := (byteAt l 11).toNat % 128, keys := (byteAt l 11).getLsbD 7
        engine := if flags.getLsbD 1 then some (Fin.ofNat 2 (byteAt l 12).toNat) else none
        framesSent := get16 l 30, framesTotal := get16 l 32, wseq := wseq, rebuilt := false, pins := [] } }

end Sys2Proof.Machine
end

