-- ==== Sys2Proof/Machine/Flags.lean ====
section
/-! DEFINITION. The event flags, the notices and the forty counters of the directive handler (R179, R181), with what the
lane-63 egress queue does with a notice (R16). -/

namespace Sys2Proof.Machine

/-! ## The counters by name (R181) -/

def ctrForeign : Fin 40 := 0
def ctrUnknownLane : Fin 40 := 0
def ctrIdleLane : Fin 40 := 1
def ctrOutOfOrder : Fin 40 := 1
def ctrLaneGaps : Fin 40 := 2
def ctrLateLane : Fin 40 := 3
def ctrLaneLength : Fin 40 := 4
def ctrLaneOverruns : Fin 40 := 5
def ctrNoticesLost : Fin 40 := 6
def ctrBusLost : Fin 40 := 6
def ctrSliceOverruns : Fin 40 := 7
def ctrDiscardedForRate : Fin 40 := 8
def ctrLaneStalls : Fin 40 := 9
def ctrSlicesCapped : Fin 40 := 10
def ctrBucketOverflows : Fin 40 := 11
def ctrFramesCapped : Fin 40 := 12
def ctrFramesShort : Fin 40 := 12
def ctrFramesDropped : Fin 40 := 13
def ctrFramesReclaimed : Fin 40 := 14
def ctrUnsentReclaimed : Fin 40 := 15
def ctrAudioUnderruns : Fin 40 := 16
def ctrBusClips : Fin 40 := 17
def ctrPathUps : Fin 40 := 18
def ctrPathDowns : Fin 40 := 19
def ctrHandshakeFailures : Fin 40 := 20
def ctrPathFailures : Fin 40 := 21
def ctrFarRestarts : Fin 40 := 22
def ctrHandshakeDiscarded : Fin 40 := 23
def ctrHoldsIgnored : Fin 40 := 23
def ctrCellCheck : Fin 40 := 24
def ctrOutOfState : Fin 40 := 25
def ctrReturnFormat : Fin 40 := 26
def ctrReturnLate : Fin 40 := 27
def ctrReturnDuplicate : Fin 40 := 27
def ctrReturnOverruns : Fin 40 := 28
def ctrReturnGaps : Fin 40 := 29
def ctrReturnUnderruns : Fin 40 := 30
def ctrLiveSkips : Fin 40 := 31
def ctrAudioDropped : Fin 40 := 32
def ctrRedispatchDropped : Fin 40 := 33
def ctrMarksRefused : Fin 40 := 34
def ctrReferenceLosses : Fin 40 := 35
def ctrReferenceLocks : Fin 40 := 36
def ctrPulsesMisplaced : Fin 40 := 37
def ctrContactFiltered : Fin 40 := 37
def ctrDirectivesDropped : Fin 40 := 38
def ctrRemoteDropped : Fin 40 := 39

/-! ## Flags and counts on the handler and the port -/

/-- R179: the latched pairs in kind order, and unit order within a kind. -/
def flagBefore (a b : EventKind × Nat) : Bool :=
  decide (eventNumber a.1 < eventNumber b.1) || (decide (eventNumber a.1 = eventNumber b.1) && decide (a.2 < b.2))

/-- The pair joins the set. -/
def Handler.join (h : Handler) (k : EventKind) (u : Nat) : Handler :=
  { h with flags := insertSorted flagBefore (k, u) h.flags }

/-- R180: the kind is in the mask. -/
def Handler.masked (h : Handler) (k : EventKind) : Bool := h.mask.getLsbD (eventNumber k)

/-- R181: a counter rises by n, modulo 2^32. -/
def Handler.add (h : Handler) (c : Fin 40) (n : Nat) : Handler :=
  { h with counters := h.counters.set c (h.counters[c] + BitVec.ofNat 32 n) }

/-- R181: a rise by n takes the counter from below 2^31 to 2^31 or above. -/
def Handler.crosses (h : Handler) (c : Fin 40) (n : Nat) : Bool :=
  decide (h.counters[c].toNat < 2 ^ 31) && decide (2 ^ 31 ≤ h.counters[c].toNat + n)

/-- R16: a notice is offered to a full egress queue: it is dropped and counted. Where that takes the notices lost counter
through 2^31, the notice of COUNTER_HALF finds the queue full in its turn. -/
def Handler.loseNotice (h : Handler) : Handler :=
  let h1 := h.add ctrNoticesLost 1
  if h.crosses ctrNoticesLost 1 && !h1.flags.contains (.counterHalf, ctrNoticesLost.val) then
    let h2 := h1.join .counterHalf ctrNoticesLost.val
    if h1.masked .counterHalf then h2 else h2.add ctrNoticesLost 1
  else h1

/-- R179: an owner latches a pair at the present frame tick. -/
def latchPair (k : EventKind) (u : Nat) (tick : Word) (h : Handler) (p : FabricPort) : Handler × FabricPort :=
  if h.flags.contains (k, u) then (h, p)
  else
    let h1 := h.join k u
    if h1.masked k then (h1, p)
    else if p.egress.length < 32 then (h1, { p with egress := p.egress ++ [.notice k u tick] })
    else (h1.loseNotice, p)

/-- R181: a counter rises by n, and COUNTER_HALF is latched where it goes through 2^31. -/
def bumpPair (c : Fin 40) (n : Nat) (tick : Word) (h : Handler) (p : FabricPort) : Handler × FabricPort :=
  if h.crosses c n then latchPair .counterHalf c.val tick (h.add c n) p else (h.add c n, p)

/-! ## Flags and counts on the machine -/

/-- R179: an owner latches a pair. -/
def State.latch (s : State) (k : EventKind) (u : Nat) : State :=
  let r := latchPair k u s.ref.tick s.handler s.port
  (s.withHandler r.1).withPort r.2

/-- R181: a counter rises by n. -/
def State.bump (s : State) (c : Fin 40) (n : Nat) : State :=
  let r := bumpPair c n s.ref.tick s.handler s.port
  (s.withHandler r.1).withPort r.2

/-- A count of one, with its event (R181, R179). -/
def State.count (s : State) (c : Fin 40) (k : EventKind) (u : Nat) : State := (s.bump c 1).latch k u

end Sys2Proof.Machine
end

