-- ==== Sys2Proof/Machine/Memory.lean ====
section
/-! DEFINITION. The two addressed memories: the stacked DRAM of the coded store (R53, R56) and the non-volatile memory of
the label store (R151, R188), in one canonical form over the byte that an unlisted address reads as. -/

namespace Sys2Proof.Machine

/-- An unlisted byte of the DRAM reads as 0 (DESIGN CHOICE, notes/assumptions/5.md: no rule reads a byte that no slice
wrote). -/
def dramDefault : Byte := 0

/-- Erased memory reads 0xFF in every byte (R188). -/
def labelDefault : Byte := 0xFF

/-- What a byte reads as. -/
def Memory.read (d : Byte) : Memory → Nat → Byte
  | [], _ => d
  | c :: m, a => if c.1 = a then c.2 else Memory.read d m a

/-- Write one byte, keeping the canonical form: a byte equal to what an unlisted address reads as is not listed. -/
def Memory.write (d : Byte) : Memory → Nat → Byte → Memory
  | [], a, b => if b = d then [] else [(a, b)]
  | c :: m, a, b =>
    if a < c.1 then (if b = d then c :: m else (a, b) :: c :: m)
    else if a = c.1 then (if b = d then m else (a, b) :: m)
    else c :: Memory.write d m a b

/-- Write a run of bytes from an address on. -/
def Memory.writeRun (d : Byte) : Memory → Nat → List Byte → Memory
  | m, _, [] => m
  | m, a, b :: bs => Memory.writeRun d (Memory.write d m a b) (a + 1) bs

/-- Read a run of `n` bytes. -/
def Memory.readRun (d : Byte) (m : Memory) (a : Nat) : Nat → List Byte
  | 0 => []
  | n + 1 => Memory.read d m a :: Memory.readRun d m (a + 1) n

/-- Make the bytes from `a` up to but not including `b` read as an unlisted address does. -/
def Memory.clear (m : Memory) (a b : Nat) : Memory := m.filter (fun c => decide (c.1 < a) || decide (b ≤ c.1))

/-- The listed cells from `a` up to but not including `b`. -/
def Memory.cells (m : Memory) (a b : Nat) : Memory := m.filter (fun c => decide (a ≤ c.1) && decide (c.1 < b))

/-- The canonical form: addresses strictly rising from `lo` on, and no listed byte that an unlisted address reads as. -/
def Memory.wfFrom (d : Byte) : Nat → Memory → Bool
  | _, [] => true
  | lo, c :: m => decide (lo ≤ c.1) && decide (c.2 ≠ d) && Memory.wfFrom d (c.1 + 1) m

/-- The canonical form of a memory. -/
def Memory.wf (d : Byte) (m : Memory) : Bool := Memory.wfFrom d 0 m

end Sys2Proof.Machine
end

