-- ==== Sys2Proof/Machine/Operands.lean ====
section
/-! DEFINITION. The forms of the directives' parameter words (R175, R186): the word count that suits each name, each
directive's class (R178), and the words read as numbers in a range. -/

namespace Sys2Proof.Machine

/-- The classes of directive the remote scope knows (R178). -/
inductive DirClass where
  | read | clip | vanOnly
deriving DecidableEq, Repr

/-- The class column of the summary table (chapter 11, R178). -/
def dirClass : DirName → DirClass
  | .rdln | .rdst | .rdmt | .rdmx | .rdpt | .rdas | .rdcl | .rdls | .rdrf | .stat | .cntr => .read
  | .send | .keep | .tagc => .clip
  | .lsta | .lstp | .lfmt | .lkey | .lrat | .lshr | .rsrv | .pmrk | .ceil | .xpnt | .bmst | .srce | .home | .take
  | .ramp | .flaw | .path | .pena | .pdis | .prst | .rtrn | .mkin | .mkot | .tmpl | .disc | .tagd | .lscl | .tcod
  | .refr | .cont | .scop | .emsk | .eclr | .rstr => .vanOnly

/-- The clip directives that are refused BUSY while the start-up scan runs (R131). -/
def isClipDirective : DirName → Bool
  | .mkin | .mkot | .send | .keep | .disc | .tagc | .tagd | .tmpl | .rdcl | .lscl => true
  | .lsta | .lstp | .lfmt | .lkey | .rdln | .lrat | .lshr | .rsrv | .pmrk | .rdas | .ceil | .rdst | .xpnt | .bmst
  | .srce | .home | .take | .ramp | .flaw | .rdmt | .rdmx | .path | .pena | .pdis | .prst | .rtrn | .rdpt | .rdls
  | .tcod | .refr | .cont | .rdrf | .scop | .emsk | .eclr | .stat | .cntr | .rstr => false

/-- A parameter word as a number (R186); a word that is not there counts as zero. -/
def wordAt (ws : List Word) (i : Nat) : Nat := (ws.getD i 0).toNat

/-- R175 check 4 with R186: the words suit the name. -/
def shapeOk (n : DirName) (ws : List Word) : Bool :=
  let k := ws.length
  match n with
  | .rdas | .rdst | .take | .rdmt | .rdls | .rdrf | .stat | .rstr => k == 0
  | .lsta | .lstp | .lkey | .rdln | .ceil | .ramp | .rdmx | .pena | .pdis | .prst | .rdpt | .keep | .disc | .rdcl
  | .lscl | .refr | .emsk | .eclr => k == 1
  | .rsrv | .bmst | .scop => k == 2
  | .lshr | .pmrk | .xpnt | .send | .cntr => k == 3
  | .lfmt | .srce | .rtrn | .tcod => k == 4
  | .cont => k == 5
  | .path => k == 7
  | .lrat => k == 9
  | .home => k ≤ 6
  | .flaw => k == 256
  | .mkin => 5 ≤ k && k == 5 + wordAt ws 0 + wordAt ws 1 && 1 ≤ wordAt ws 0 && wordAt ws 0 ≤ 6 && wordAt ws 1 ≤ 4
  | .mkot => k == 1 || k == 2
  | .tmpl => 7 ≤ k && k == 7 + wordAt ws 1 + wordAt ws 2 && 1 ≤ wordAt ws 1 && wordAt ws 1 ≤ 6 && wordAt ws 2 ≤ 4
  | .tagd => 2 ≤ k && wordAt ws 1 ≤ 24 && k == 2 + (wordAt ws 1 + 3) / 4
  | .tagc => 2 ≤ k && k == 2 + wordAt ws 1 && wordAt ws 1 ≤ 4

/-- A number below n as an index. -/
def finOf (n x : Nat) : Option (Fin n) := if h : x < n then some ⟨x, h⟩ else none

/-- A number as a flag, 0 or 1. -/
def boolOf (x : Nat) : Option Bool := if x = 0 then some false else if x = 1 then some true else none

/-- All of a list's values, or none. -/
def allSome {α : Type} : List (Option α) → Option (List α)
  | [] => some []
  | some a :: l => (allSome l).map (a :: ·)
  | none :: _ => none

/-- The lanes named by words, each 0 to 5 and none twice (R134). -/
def lanesOf (ws : List Word) : Option (List Lane) :=
  match allSome (ws.map (fun w => finOf 6 w.toNat)) with
  | some l => if distinct l then some l else none
  | none => none

/-- The tag codes named by words, each 1 to 64 and none twice (R134). -/
def tagsOf (ws : List Word) : Option (List Nat) :=
  let l := ws.map (fun w => w.toNat)
  if l.all (fun c => 1 ≤ c && c ≤ 64) && distinct l then some l else none

/-- The characters packed four to a word, the first in the most significant byte (R186). -/
def charsOf (k : Nat) (ws : List Word) : List Byte := (ws.flatMap (fun w => bytes32 w.toNat)).take k

/-- R180: the kind is in the set that a word names (R186). -/
def inKindSet (w : Word) (k : EventKind) : Bool := w.getLsbD (eventNumber k)

end Sys2Proof.Machine
end

