-- ==== Sys2Proof/Machine/Ops.lean ====
section
/-! DEFINITION. The operations that the commands share: what an unpowered machine does, the sample clock, the updates of
one lane, path and contact, and the directive handler's taking of a directive (R175 to R178). -/

namespace Sys2Proof.Machine

/-! ## Power and time -/

/-- The outcome of a command on a machine with power; without power nothing happens (notes/assumptions/6.md). -/
def live (s : State) (f : State → State) : Host.Outcome State Fault Refusal := if s.power then .next (f s) else .next s

/-- The sample clock reaches the sample at which an event falls due (notes/assumptions/2.md). -/
def State.advanceTo (s : State) (t : Nat) : State := s.withRef { s.ref with clock := max s.ref.clock t }

/-- R164: a period of the sample clock passes; a machine without power has none (notes/assumptions/2.md). -/
def idle (s : State) : State := if s.power then s.withRef { s.ref with clock := s.ref.clock + 1 } else s

/-- The samples of a number of milliseconds (R1: 48 kHz). -/
def msSamples (ms : Nat) : Nat := 48 * ms

/-- The milliseconds left to a deadline, rounded up (notes/assumptions/7.md). -/
def msLeft (clock due : Nat) : Nat := ceilDiv (due - clock) 48

/-! ## One entry of a table -/

def State.setLane (s : State) (l : Lane) (v : LaneCoder) : State := s.withLanes (s.lanes.set l v)
def State.modLane (s : State) (l : Lane) (f : LaneCoder → LaneCoder) : State := s.setLane l (f s.lanes[l])
def State.modRate (s : State) (l : Lane) (f : RateContext → RateContext) : State :=
  s.modLane l (fun c => { c with rate := f c.rate })
def State.setVideo (s : State) (l : Lane) (v : VideoIntake) : State :=
  s.withPort { s.port with video := s.port.video.set l v }
def State.setAudio (s : State) (k : Fin 4) (v : AudioIntake) : State :=
  s.withPort { s.port with audio := s.port.audio.set k v }
def State.setPath (s : State) (p : PathNo) (v : PathCtl) : State := s.withPaths (s.paths.set p v)
def State.modPath (s : State) (p : PathNo) (f : PathCtl → PathCtl) : State := s.setPath p (f s.paths[p])
def State.setContact (s : State) (i : ContactNo) (v : Contact) : State := s.withContacts (s.contacts.set i v)

/-- R25: a cause sets the key request of a lane; a lane in OFF keeps it clear. -/
def State.requestKey (s : State) (l : Lane) : State :=
  s.modLane l (fun c => if c.state = .off then c else { c with keyReq := true })

/-- R172: the lane is on air: an input with the function TALLY for it has its active level accepted. The active level is
closed, or open when the edge setting is FALLING. -/
def tallyActive (contacts : Vector Contact 8) (l : Lane) : Bool :=
  contacts.toList.any (fun c => decide (c.fn = .tally) && decide (c.param = l.val)
    && (c.accepted == decide (c.edge ≠ .falling)))

/-! ## The directive input queue (R176, R178) -/

/-- A directive arrives. A remote one is weighed first against the control list and its reserved places. -/
def arrive (q : QueuedDirective) (s : State) : State :=
  match q.body.side with
  | .van =>
    if s.handler.queue.length < 16 then s.withHandler { s.handler with queue := s.handler.queue ++ [q] }
    else s.count ctrDirectivesDropped .directiveDropped 0
  | .home _ =>
    if 8 ≤ s.asm.control.length + s.handler.reserved then s.count ctrRemoteDropped .directiveDropped 1
    else if s.handler.queue.length < 16 then
      s.withHandler { s.handler with queue := s.handler.queue ++ [q], reserved := s.handler.reserved + 1 }
    else s.count ctrDirectivesDropped .directiveDropped 1

/-- The directive that a command names stands at the front of the input queue, or else arrives now
(DESIGN CHOICE, notes/assumptions/8.md). -/
def present (q : QueuedDirective) (s : State) : State := if s.handler.queue.head? = some q then s else arrive q s

/-- R176: the handler takes the front directive: it has not stopped for a restart (R183) and no response is held. -/
def canTake (s : State) : Bool := !s.handler.stopped && s.port.held.isNone

/-! ## Responses (R177) -/

/-- What taking a directive comes to: the state after it, its result, and the content of its result words. -/
structure Answer where
  state  : State
  result : Result
  report : Report

/-- The directive is taken, with result words. -/
def reply (s : State) (r : Report) : Answer := ⟨s, .success, r⟩

/-- The directive is taken. -/
def success (s : State) : Answer := ⟨s, .success, .empty⟩

/-- The directive is refused, and changes nothing. -/
def refuse (s : State) (r : Result) : Answer := ⟨s, r, .empty⟩

/-- R187: the CONTROL cell of a remote response, cut to fifty-eight result words; the last-piece flag says that it is
whole. -/
def controlCell (r : Response) (tick seq : Word) : Cell :=
  { kind := .response
    flags := { noFlags with last := decide ((reportWords r.report).length ≤ 58) }
    stream := 0, unit := 0, tick := tick, seq := seq, payload := responsePayload r 58, gen := 0 }

/-- R16, R176, R178: the response is offered: to the egress queue, outside it when it is full, or to the control list in
its reserved place. -/
def respond (side : Side) (r : Response) (s : State) : State :=
  match side with
  | .van =>
    if s.port.egress.length < 32 then s.withPort { s.port with egress := s.port.egress ++ [.response r] }
    else s.withPort { s.port with held := some r }
  | .home _ =>
    (s.withAsm { s.asm with
        control := s.asm.control ++ [controlCell r s.ref.tick s.asm.controlSeq]
        controlSeq := s.asm.controlSeq + 1 }).withHandler { s.handler with reserved := s.handler.reserved - 1 }

/-! ## Taking a directive (R175, R176) -/

/-- R178: a remote directive is refused SCOPE when its class is van only or its class setting is clear. -/
def scopeOk (h : Handler) (n : DirName) : Side → Bool
  | .van => true
  | .home _ =>
    match dirClass n with
    | .read => h.scopeRead
    | .clip => h.scopeClip
    | .vanOnly => false

/-- R175 checks 2 to 4: the refusal before the owner is asked. -/
def vet (n : DirName) (d : Directive) (s : State) : Option Result :=
  if isClipDirective n && !s.labels.ready then some .busy
  else if !scopeOk s.handler n d.side then some .scope
  else if d.ragged || !shapeOk n d.words then some .malformed
  else none

/-- R176: take the directive when it is the front one and the handler may take it: act on it and answer it, as a
whole. -/
def takeFront (q : QueuedDirective) (act : State → Answer) (s : State) : State :=
  let s1 := present q s
  if canTake s1 && decide (s1.handler.queue.head? = some q) then
    let a := act (s1.withHandler { s1.handler with queue := s1.handler.queue.tail })
    respond q.body.side ⟨q.name, q.body.tag, a.result, a.report⟩ a.state
  else s1

/-- R175: the checks and the owner's answer to a directive of the summary table. -/
def answer (n : DirName) (d : Directive) (owner : List Word → State → Answer) (s : State) : Answer :=
  match vet n d s with
  | some r => refuse s r
  | none => owner d.words s

/-- The taking of a directive of the summary table. -/
def takeDirective (n : DirName) (d : Directive) (owner : List Word → State → Answer) (s : State) : State :=
  takeFront ⟨dirWord n, d⟩ (answer n d owner) s

end Sys2Proof.Machine
end

