-- ==== Sys2Proof/Machine/Store.lean ====
section
/-! DEFINITION. The coded store (chapter 4): the questions it answers, the appending of slices, reclaim, pins and the
ceiling. -/

namespace Sys2Proof.Machine

/-! ## The frame index (R55) -/

/-- The record of a lane with a tick. -/
def findRecord (st : CodedStore) (l : Lane) (t : Word) : Option FrameRecord :=
  st.records[l].find? (fun r => decide (r.tick = t))

/-- Change the record of a lane with a tick. -/
def updRecord (st : CodedStore) (l : Lane) (t : Word) (f : FrameRecord → FrameRecord) : CodedStore :=
  { st with records := st.records.set l (st.records[l].map (fun r => if r.tick = t then f r else r)) }

/-- R55: the newest record of the lane. -/
def newestRecord (st : CodedStore) (l : Lane) : Option FrameRecord := st.records[l].getLast?

/-- R55: the newest KEY record whose tick is not later than t: equal to t, or earlier than it. -/
def newestKeyAt (st : CodedStore) (l : Lane) (t : Word) : Option FrameRecord :=
  (st.records[l].filter (fun r => decide (r.kind = .key) && (decide (r.tick = t) || earlier r.tick t))).getLast?

/-- R55: the oldest KEY record of the lane. -/
def oldestKey (st : CodedStore) (l : Lane) : Option FrameRecord :=
  st.records[l].find? (fun r => decide (r.kind = .key))

/-- R55: the records of the lane from the one with a tick to the newest. -/
def recordsFrom (st : CodedStore) (l : Lane) (t : Word) : List FrameRecord :=
  st.records[l].dropWhile (fun r => decide (r.tick ≠ t))

/-- The records after the one with a tick. -/
def recordsAfter (st : CodedStore) (l : Lane) (t : Word) : List FrameRecord := (recordsFrom st l t).tail

/-- R55: the records in use. -/
def recordsInUse (st : CodedStore) : Nat := (st.records.toList.map List.length).foldl (· + ·) 0

/-- All records in use, lane by lane. -/
def allRecords (st : CodedStore) : List (Lane × FrameRecord) :=
  (List.finRange 6).flatMap (fun l => st.records[l].map (fun r => (l, r)))

/-- R57: the live state of a record becomes `v`. -/
def setLive (st : CodedStore) (l : Lane) (t : Word) (v : LiveState) : CodedStore :=
  updRecord st l t (fun r => { r with live := v })

/-- The record is still to be sent live: PENDING or SENDING. -/
def unsent (r : FrameRecord) : Bool := decide (r.live = .pending) || decide (r.live = .sending)

/-- R65 step 2, R128: every unsent record of the lane that `sel` names becomes ABANDONED. -/
def abandonWhere (st : CodedStore) (l : Lane) (sel : FrameRecord → Bool) : CodedStore :=
  let rs := st.records[l].map (fun r => if sel r && unsent r then { r with live := .abandoned } else r)
  { st with records := st.records.set l rs }

/-! ## Bytes in the stacked DRAM (R53, R56) -/

/-- R56: where byte offset `o` of a frame lies. -/
def frameAddress (blocks : List Nat) (o : Nat) : Nat := blocks.getD (o / 16384) 0 * 16384 + o % 16384

/-- Write the bytes of a slice from an offset of its frame on. -/
def writeFrameBytes (blocks : List Nat) : Memory → Nat → List Byte → Memory
  | m, _, [] => m
  | m, o, b :: bs => writeFrameBytes blocks (Memory.write dramDefault m (frameAddress blocks o) b) (o + 1) bs

/-- Read a run of a frame's bytes. -/
def readFrameBytes (m : Memory) (blocks : List Nat) (o : Nat) : Nat → List Byte
  | 0 => []
  | n + 1 => Memory.read dramDefault m (frameAddress blocks o) :: readFrameBytes m blocks (o + 1) n

/-! ## Pins (R67, R68) -/

/-- R67: the blocks a record counts toward the pinned blocks. -/
def pinWeight (r : FrameRecord) : Nat := if r.complete then r.blocks.length else 64

/-- R67: a pin request for one record, less the test of the ceiling. -/
def pinOne (st : CodedStore) (l : Lane) (t : Word) : CodedStore :=
  match findRecord st l t with
  | none => st
  | some r =>
    let st1 := updRecord st l t (fun r => { r with pins := r.pins + 1 })
    if r.pins = 0 then { st1 with pinned := st1.pinned + pinWeight r } else st1

/-- R67: a pin request, granted or refused whole. A request that names no record is always granted. -/
def pinRequest (st : CodedStore) (names : List (Lane × Word)) : Option CodedStore :=
  if names.all (fun n => (findRecord st n.1 n.2).isSome) then
    let st1 := names.foldl (fun st n => pinOne st n.1 n.2) st
    if names.isEmpty || decide (st1.pinned ≤ st.ceiling) then some st1 else none
  else none

/-- R68: release one record. -/
def releaseOne (st : CodedStore) (l : Lane) (t : Word) : CodedStore :=
  match findRecord st l t with
  | none => st
  | some r =>
    if r.pins = 0 then st
    else
      let st1 := updRecord st l t (fun r => { r with pins := r.pins - 1 })
      if r.pins = 1 then { st1 with pinned := st1.pinned - pinWeight r } else st1

/-- R68: a release request. -/
def releaseRequest (st : CodedStore) (names : List (Lane × Word)) : CodedStore :=
  names.foldl (fun st n => releaseOne st n.1 n.2) st

/-! ## Filling a record (R60 to R62, R49) -/

/-- R60: the kind that replaces a slice in a frame. -/
def replacedKind : FrameKind → SliceKind
  | .key => .blank
  | .delta => .repeated

/-- R60: append a REPEAT or BLANK slice: size 16, at the byte count, taking no block. -/
def addPlain (k : SliceKind) (r : FrameRecord) : FrameRecord :=
  { r with slices := r.slices ++ [⟨k, none, 16, r.bytes⟩] }

/-- R60: the blocks a frame of `n` bytes needs. -/
def blocksNeeded (n : Nat) : Nat := max 1 (ceilDiv n 16384)

/-- R60, R61, R49: the store appends a slice to the record of a frame. A COMPLETE record takes none (R62). -/
def appendSlice (l : Lane) (t : Word) (x : SliceResult) (s : State) : State :=
  match findRecord s.store l t with
  | none => s
  | some r =>
    let plain := replacedKind r.kind
    if r.complete then s
    else if x.kind ≠ .coded then
      s.withStore (updRecord s.store l t (addPlain (if r.spoiled then plain else x.kind)))
    else if r.spoiled then s.withStore (updRecord s.store l t (addPlain plain))
    else if 1048576 < r.bytes + x.size then
      (s.withStore (updRecord s.store l t
        (fun r => { addPlain plain r with capped := true, spoiled := true }))).bump ctrFramesCapped 1
    else
      let k := blocksNeeded (r.bytes + x.size) - r.blocks.length
      if s.store.free.length < k then
        (s.withStore (updRecord s.store l t (fun r => { addPlain plain r with spoiled := true }))).count
          ctrFramesShort .storePressure l.val
      else
        let blocks := r.blocks ++ s.store.free.take k
        let st := { s.store with
          free := s.store.free.drop k
          dram := writeFrameBytes blocks s.store.dram r.bytes x.bytes }
        s.withStore (updRecord st l t (fun r =>
          { r with blocks := blocks, bytes := r.bytes + x.size
                   slices := r.slices ++ [⟨.coded, x.q, x.size, r.bytes⟩] }))

/-- R62: the frame is complete; a pinned record now counts the length of its block list. -/
def completeRecord (st : CodedStore) (l : Lane) (t : Word) : CodedStore :=
  match findRecord st l t with
  | none => st
  | some r =>
    let st1 := updRecord st l t (fun r => { r with complete := true })
    if r.complete || r.pins = 0 then st1 else { st1 with pinned := st1.pinned - 64 + r.blocks.length }

/-! ## Reclaim (R63 to R65) -/

/-- R63: a live cursor or a transfer cursor names the record. -/
def cursorNames (s : State) (l : Lane) (t : Word) : Bool :=
  (match s.asm.cursors[l] with | some c => decide (c.tick = t) | none => false) ||
  s.engines.toList.any (fun e => match e with
    | some x => (match x.cursor with | some c => decide (c.lane = l) && decide (c.tick = t) | none => false)
    | none => false)

/-- R63: the record is a candidate. -/
def candidate (s : State) (l : Lane) (r : FrameRecord) : Bool :=
  r.complete && decide (r.pins = 0) && !cursorNames s l r.tick

/-- R64: the oldest of a list of records: the greatest age; of two of the same age the first, which is of the lower
lane. -/
def oldestOf (now : Word) : List (Lane × FrameRecord) → Option (Lane × FrameRecord)
  | [] => none
  | a :: l =>
    match oldestOf now l with
    | none => some a
    | some b => if (now - a.2.tick).toNat < (now - b.2.tick).toNat then some b else some a

/-- R64: the candidate that reclaim takes next: the oldest of the first group, or else of the second. -/
def nextCandidate (s : State) : Option (Lane × FrameRecord) :=
  let cs := (allRecords s.store).filter (fun p => candidate s p.1 p.2)
  match oldestOf s.ref.tick (cs.filter (fun p => !unsent p.2)) with
  | some p => some p
  | none => oldestOf s.ref.tick cs

/-- R63: at least sixty-four blocks are on the free list and at least eight records are free. -/
def reserveMet (st : CodedStore) : Bool := decide (64 ≤ st.free.length) && decide (recordsInUse st + 8 ≤ 4096)

/-- R63: the record's blocks go to the tail of the free list, and the record leaves its lane's list. -/
def freeRecord (st : CodedStore) (l : Lane) (r : FrameRecord) : CodedStore :=
  { st with free := st.free ++ r.blocks
            records := st.records.set l (st.records[l].filter (fun x => decide (x.tick ≠ r.tick))) }

/-- R65: reclaim of a record that was never wholly sent abandons the lane's earlier unsent records. -/
def reclaimUnsent (l : Lane) (r : FrameRecord) (s : State) : State :=
  ((s.withStore (abandonWhere s.store l (fun x => earlier x.tick r.tick))).requestKey l).count ctrUnsentReclaimed
    .storePressure l.val

/-- R63 to R65: reclaim, with the lanes that the cell assembler is told to put into awaiting key, in order. A record is
freed and counted before R65 acts on its lane (DESIGN CHOICE, notes/assumptions/64.md). -/
def reclaim : Nat → List Lane → State → State × List Lane
  | 0, orders, s => (s, orders)
  | n + 1, orders, s =>
    if reserveMet s.store then (s, orders)
    else
      match nextCandidate s with
      | none => (s, orders)
      | some (l, r) =>
        let s1 := (s.withStore (freeRecord s.store l r)).bump ctrFramesReclaimed 1
        if unsent r then reclaim n (orders ++ [l]) (reclaimUnsent l r s1) else reclaim n orders s1

/-! ## Directives of the store -/

/-- R69: CEIL. -/
def actCeil (ws : List Word) (s : State) : Answer :=
  let v := wordAt ws 0
  if v < 1024 || 16384 < v then refuse s .range
  else if v < s.store.pinned then refuse s .state
  else reply (s.withStore { s.store with ceiling := v }) (.words [BitVec.ofNat 32 v, BitVec.ofNat 32 s.store.pinned])

def countRecords (st : CodedStore) (f : FrameRecord → Bool) : Nat := ((allRecords st).filter (fun p => f p.2)).length

/-- R70: what RDST gives. -/
def storeReport (st : CodedStore) : StoreReport :=
  { free := st.free.length, pinned := st.pinned, ceiling := st.ceiling, inUse := recordsInUse st
    writing := countRecords st (fun r => !r.complete)
    pending := countRecords st (fun r => decide (r.live = .pending))
    sending := countRecords st (fun r => decide (r.live = .sending))
    done := countRecords st (fun r => decide (r.live = .done))
    gone := countRecords st (fun r => decide (r.live = .abandoned))
    withPins := countRecords st (fun r => decide (0 < r.pins)), capped := countRecords st (fun r => r.capped)
    lanes := Vector.ofFn (fun l => (st.records[l].length, st.records[l].head?.map FrameRecord.tick,
      (newestRecord st l).map FrameRecord.tick,
      (st.records[l].filter (fun r => decide (r.kind = .key))).getLast?.map FrameRecord.tick)) }

/-- R70: RDST. -/
def actRdst (_ : List Word) (s : State) : Answer := reply s (.store (storeReport s.store))

/-- CEIL (R69). -/
def execCeil (d : Directive) (s : State) : Host.Outcome State Fault Refusal := live s (takeDirective .ceil d actCeil)

/-- RDST (R70). -/
def execRdst (d : Directive) (s : State) : Host.Outcome State Fault Refusal := live s (takeDirective .rdst d actRdst)

end Sys2Proof.Machine
end

