-- ==== Sys2Proof/Machine/Cursor.lean ====
section
/-! DEFINITION. The live cursors of the cell assembler: seeking, awaiting key, the effective latency limit and the live
skip (R119, R125, R127, R128). -/

namespace Sys2Proof.Machine

/-- A lane's live cursor becomes `c`. -/
def State.setCursor (s : State) (l : Lane) (c : Option Cursor) : State :=
  s.withAsm { s.asm with cursors := s.asm.cursors.set l c }

def State.setAwaiting (s : State) (l : Lane) (b : Bool) : State :=
  s.withAsm { s.asm with awaiting := s.asm.awaiting.set l b }

/-- R125: the cursor of a lane looks at the records in turn and takes one, or names none. -/
def seek (l : Lane) : List FrameRecord → State → State
  | [], s => s.setCursor l none
  | r :: rs, s =>
    if r.live = .abandoned then seek l rs s
    else if s.asm.awaiting[l] && decide (r.kind = .delta) then
      seek l rs (if r.live = .pending then s.withStore (setLive s.store l r.tick .abandoned) else s)
    else
      let s1 := s.setCursor l (some ⟨r.tick, 0, 0⟩)
      if r.kind = .key then s1.setAwaiting l false else s1

/-- R125: the cursor seeks onward from the record with a tick. -/
def seekOnward (l : Lane) (t : Word) (s : State) : State := seek l (recordsAfter s.store l t) s

/-- R125: a cursor that names no record weighs the lane's new record. -/
def weighNew (l : Lane) (t : Word) (s : State) : State :=
  match s.asm.cursors[l], findRecord s.store l t with
  | none, some r => seek l [r] s
  | _, _ => s

/-- R121: the cell is a VIDEO cell of a skip generation that is no longer its lane's. -/
def staleCell (gen : Vector Word 6) (c : Cell) : Bool :=
  match finOf 6 c.stream with
  | some l => decide (c.kind = .video) && decide (c.gen ≠ gen[l])
  | none => false

/-- R121: stale cells at the front of the redispatch list are dropped and counted. -/
def dropStale : Nat → State → State
  | 0, s => s
  | n + 1, s =>
    match s.asm.redispatch with
    | c :: rest =>
      if staleCell s.asm.gen c then
        dropStale n ((s.withAsm { s.asm with redispatch := rest }).bump ctrRedispatchDropped 1)
      else s
    | [] => s

def settleRedispatch (s : State) : State := dropStale s.asm.redispatch.length s

/-- R127: the cursor of a lane that names an ABANDONED record seeks onward from it. -/
def leaveAbandoned (l : Lane) (s : State) : State :=
  match s.asm.cursors[l] with
  | none => s
  | some c =>
    match findRecord s.store l c.tick with
    | some r => if r.live = .abandoned then seekOnward l c.tick s else s
    | none => s

/-- R127: the lane enters awaiting key. A front cell of the redispatch list that its generation leaves behind is then
dropped at once (R121, notes/assumptions/50.md). -/
def enterAwaiting (l : Lane) (s : State) : State :=
  settleRedispatch (leaveAbandoned l (s.withAsm { s.asm with
    awaiting := s.asm.awaiting.set l true, gen := s.asm.gen.set l (s.asm.gen[l] + 1) }))

/-- R127: the orders of a reclaim, taken one after another once it is whole. -/
def awaitingOrders : List Lane → State → State
  | [], s => s
  | l :: ls, s => awaitingOrders ls (enterAwaiting l s)

/-- R119: the lane's effective latency limit as it stands. -/
def effectiveLimit (s : State) (l : Lane) : Nat :=
  s.paths.toList.foldl (fun m p => if p.state = .up then (match p.extras.latency with | some v => min m v | none => m) else m)
    s.lanes[l].rate.settings.latency

/-- R128: the lag of the lane's live picture. -/
def liveLag (s : State) (l : Lane) : Nat :=
  match s.asm.cursors[l], newestRecord s.store l with
  | some c, some r => (r.tick - c.tick).toNat
  | _, _ => 0

/-- R128: the live skip test with a limit. The skip is counted and reported before the lane enters awaiting key and what
that drops (DESIGN CHOICE, notes/assumptions/90.md). -/
def liveSkip (l : Lane) (limit : Nat) (s : State) : State :=
  if liveLag s l ≤ limit then s
  else
    match newestRecord s.store l with
    | none => s
    | some r =>
      enterAwaiting l
        (((s.withStore (abandonWhere s.store l (fun x => decide (x.tick ≠ r.tick)))).requestKey l).count ctrLiveSkips
          .liveSkip l.val)

/-- R119: the count of paths up rises by one; from zero it sets the key request of every lane not in OFF. -/
def pathsUpRise (s : State) : State :=
  let s1 := s.withAsm { s.asm with pathsUp := s.asm.pathsUp + 1 }
  if s.asm.pathsUp = 0 then (List.finRange 6).foldl (fun s l => s.requestKey l) s1 else s1

/-- R119: the count of paths up falls by one. -/
def pathsUpFall (s : State) : State := s.withAsm { s.asm with pathsUp := s.asm.pathsUp - 1 }

/-! ## Pieces (R124, R187) -/

/-- R124: the pieces a slice is cut into. -/
def pieceCount (e : SliceEntry) : Nat := if e.kind = .coded then ceilDiv e.size 240 else 1

/-- R124, R187: the bytes of a piece. -/
def pieceBytes (m : Memory) (r : FrameRecord) (e : SliceEntry) (i : Nat) : List Byte :=
  match e.kind with
  | .coded => readFrameBytes m r.blocks (e.offset + 240 * i) (min 240 (e.size - 240 * i))
  | .repeated => padTo 16 [1]
  | .blank => padTo 16 [2]

/-- R124: the flags of a piece. -/
def pieceFlags (r : FrameRecord) (e : SliceEntry) (i : Nat) : CellFlags :=
  { first := decide (i = 0), last := decide (i + 1 = pieceCount e), key := decide (r.kind = .key)
    rep := decide (e.kind ≠ .coded) }

/-- R124: the slice and piece after a piece, or none after the last piece of slice N - 1. -/
def nextPiece (r : FrameRecord) (e : SliceEntry) (slice piece : Nat) : Option (Nat × Nat) :=
  if piece + 1 < pieceCount e then some (slice, piece + 1)
  else if slice + 1 < r.n then some (slice + 1, 0)
  else none

end Sys2Proof.Machine
end

