-- ==== Sys2Proof/Machine/Clips.lean ====
section
/-! DEFINITION. The clip log and the transfer engines (chapter 8): marks, in-points, closing, sending, the transfer queue
and the engines' walk. -/

namespace Sys2Proof.Machine

/-! ## The log and its marks (R131 to R133) -/

def findClip (s : State) (id : Nat) : Option Clip := s.clips.clips.find? (fun c => decide (c.id = id))

/-- Change the clip with an id. -/
def State.modClip (s : State) (id : Nat) (f : Clip → Clip) : State :=
  s.withClips { s.clips with clips := s.clips.clips.map (fun c => if c.id = id then f c else c) }

/-- R133: mark an id on the store-dirty list. -/
def markDirty (id : Nat) (g : ClipLog) : ClipLog :=
  if g.dirty.contains id then g
  else if g.dirty.length < 256 then { g with dirty := g.dirty ++ [id] }
  else { g with dirtyOverflow := true }

/-- R133: mark an id on the stale-label list. -/
def markStale (id : Nat) (s : State) : State :=
  if s.asm.staleLabels.contains id then s
  else if s.asm.staleLabels.length < 256 then s.withAsm { s.asm with staleLabels := s.asm.staleLabels ++ [id] }
  else s.withClips { s.clips with staleOverflow := true }

/-- R133: mark a clip on both lists. -/
def mark (id : Nat) (s : State) : State := markStale id (s.withClips (markDirty id s.clips))

/-- R133: the store-dirty list with its overflow flag set has become empty: every clip in the log is marked on it. -/
def dirtyEmptied (g : ClipLog) : ClipLog :=
  if g.dirty.isEmpty && g.dirtyOverflow then
    (g.clips.map Clip.id).foldl (fun g id => markDirty id g) { g with dirtyOverflow := false }
  else g

/-- R133: the same for the stale-label list. -/
def staleEmptied (s : State) : State :=
  if s.asm.staleLabels.isEmpty && s.clips.staleOverflow then
    (s.clips.clips.map Clip.id).foldl (fun s id => markStale id s) (s.withClips { s.clips with staleOverflow := false })
  else s

/-- R132: the first id after `id`, 65,535 followed by 1, that no clip of the log holds. -/
def nextId (held : List Nat) : Nat → Nat → Nat
  | 0, id => id
  | n + 1, id =>
    let i := if id < 65535 then id + 1 else 1
    if held.contains i then nextId held n i else i

/-- R132: the newest OPEN clip. -/
def newestOpen (s : State) : Option Clip := (s.clips.clips.filter (fun c => decide (c.state = .opened))).getLast?

/-! ## The transfer queue and the engines (R146 to R149) -/

/-- R146: a clip joins behind every clip of its own priority or higher. -/
def joinQueue (s : State) (id prio : Nat) : List Nat :=
  let prioOf := fun i => match findClip s i with | some c => c.priority | none => 0
  insertSorted (fun _ b => decide (prioOf b < prio)) id s.clips.queue

/-- R148: the order of the walk: by tick, and within one tick by the order of the lane list. -/
def walkBefore (lanes : List Lane) (a b : Lane × Word) : Bool :=
  earlier a.2 b.2 || (decide (a.2 = b.2) && decide (lanes.idxOf a.1 < lanes.idxOf b.1))

/-- R148: the clip's records in walk order; DELTA records are passed over in KEYS mode. -/
def walkOf (s : State) (c : Clip) (keys : Bool) : List (Lane × Word) :=
  let ps := if keys then
      c.pins.filter (fun p => match findRecord s.store p.1 p.2 with | some r => decide (r.kind = .key) | none => false)
    else c.pins
  sortBy (walkBefore (c.lanes.map Prod.fst)) ps

def cursorAt : Option (Lane × Word) → Option ClipCursor
  | some p => some ⟨p.1, p.2, 0, 0⟩
  | none => none

/-- R141: the clip enters QUEUED and joins the transfer queue; its frames total is set. The engines act after it. -/
def enterQueued (id : Nat) (s : State) : State :=
  match findClip s id with
  | none => s
  | some c =>
    let s1 := s.withClips { s.clips with queue := joinQueue s id c.priority }
    s1.modClip id (fun c => { c with state := .queued, framesTotal := (walkOf s c c.keys).length })

/-- R68: a clip's pins on the named records are released. -/
def releasePins (id : Nat) (sel : Lane × Word → Bool) (s : State) : State :=
  match findClip s id with
  | none => s
  | some c =>
    (s.withStore (releaseRequest s.store (c.pins.filter sel))).modClip id
      (fun c => { c with pins := c.pins.filter (fun p => !sel p) })

/-- R149: the transfer of an engine is done, less the engine's taking of the next clip. -/
def transferDone (e : EngineNo) (id : Nat) (s : State) : State :=
  let s1 := (s.withEngines (s.engines.set e none)).modClip id (fun c => { c with state := .sent, engine := none })
  let s2 := s1.latch .transferDone e.val
  let kept := match findClip s2 id with | some c => c.kept | none => false
  mark id (if kept then s2 else releasePins id (fun _ => true) s2)

/-- R147: an engine takes the clip at the front of the queue; a clip without frames is done at once. -/
def engineTake (e : EngineNo) (id : Nat) (s : State) : State :=
  let s1 := (s.withClips { s.clips with queue := s.clips.queue.tail }).modClip id
    (fun c => { c with state := .sending, engine := some e, framesSent := 0 })
  match findClip s1 id with
  | none => s1
  | some c =>
    let cur := cursorAt (walkOf s1 c c.keys).head?
    let s2 := mark id (s1.withEngines (s1.engines.set e (some ⟨id, c.keys, cur, c.framesTotal⟩)))
    if cur.isNone then transferDone e id s2 else s2

/-- R146: while an engine is idle and the queue is not empty, the engine takes the clip at the front; engine 0 first. -/
def runEngines : Nat → State → State
  | 0, s => s
  | n + 1, s =>
    match s.clips.queue with
    | [] => s
    | id :: _ =>
      if s.engines[(0 : Fin 2)].isNone then runEngines n (engineTake 0 id s)
      else if s.engines[(1 : Fin 2)].isNone then runEngines n (engineTake 1 id s)
      else s

/-- R146: the idle engines take what waits. -/
def serveEngines (s : State) : State := runEngines s.clips.queue.length s

/-- R148: the slice entry of the piece an engine has on offer, with its record and its place. -/
def engineOffer (s : State) (e : EngineNo) : Option (ClipCursor × FrameRecord × SliceEntry) :=
  match s.engines[e] with
  | none => none
  | some x =>
    match x.cursor with
    | none => none
    | some c =>
      match findRecord s.store c.lane c.tick with
      | none => none
      | some r =>
        match r.slices[c.slice]? with
        | none => none
        | some entry => some (c, r, entry)

/-- R148: the piece on offer has been taken: the cursor moves on, and a frame that is sent is counted. -/
def engineAdvance (e : EngineNo) (s : State) : State :=
  match s.engines[e], engineOffer s e with
  | some x, some (c, r, entry) =>
    match nextPiece r entry c.slice c.piece with
    | some (sl, pc) => s.withEngines (s.engines.set e (some { x with cursor := some { c with slice := sl, piece := pc } }))
    | none =>
      let s1 := s.modClip x.clip (fun k => { k with framesSent := k.framesSent + 1 })
      match findClip s1 x.clip with
      | none => s1
      | some k =>
        let rest := ((walkOf s1 k x.keys).dropWhile (fun p => decide (p ≠ (c.lane, c.tick)))).tail
        match cursorAt rest.head? with
        | some cur =>
          s1.withEngines (s1.engines.set e (some { x with cursor := some cur, remaining := x.remaining - 1 }))
        | none => serveEngines (transferDone e x.clip s1)
  | _, _ => s

/-! ## Closing and removing (R138, R139, R143) -/

def pendingToNone (l : List (Lane × InPoint)) : List (Lane × InPoint) :=
  l.map (fun p => if p.2 = .pending then (p.1, .none) else p)

/-- R138, R139: a clip closes at an out tick. -/
def closeClip (id : Nat) (out : Word) (ceil : Bool) (s : State) : State :=
  match findClip s id with
  | none => s
  | some c =>
    let s1 := s.modClip id (fun c =>
      { c with state := .closed, outTick := some out, lanes := pendingToNone c.lanes
               ceilClosed := c.ceilClosed || ceil })
    let s2 := releasePins id (fun p => later p.2 out) s1
    if c.sendOnClose then enterQueued id s2 else s2

/-- R143: a clip leaves the log. -/
def removeClip (id : Nat) (s : State) : State :=
  match findClip s id with
  | none => s
  | some c =>
    let s1 := match c.state, c.engine with
      | .sending, some e => serveEngines (s.withEngines (s.engines.set e none))
      | _, _ => s
    let s2 := s1.withClips { s1.clips with queue := s1.clips.queue.filter (fun i => decide (i ≠ id)) }
    let s3 := releasePins id (fun _ => true) s2
    mark id (s3.withClips { s3.clips with clips := s3.clips.clips.filter (fun c => decide (c.id ≠ id)) })

/-! ## Marking in (R134 to R137) -/

/-- R134: room for one more clip, with the oldest clip that is SENT and not kept retired when the log is full. -/
def makeRoom (s : State) : Option State :=
  if s.clips.clips.length < 256 then some s
  else
    match s.clips.clips.find? (fun c => decide (c.state = .sent) && !c.kept) with
    | some c => some (removeClip c.id s)
    | none => none

/-- R135: a lane's in-point for a target, and whether the preroll fell short. -/
def choosePoint (st : CodedStore) (target : Word) (l : Lane) : InPoint × Bool :=
  match newestKeyAt st l target with
  | some r => (.at r.tick, false)
  | none =>
    match oldestKey st l with
    | some r => (.at r.tick, true)
    | none => (.pending, true)

/-- R136: the records named by in-points: each lane's from its in-point to its newest. -/
def namedRecords (st : CodedStore) (pts : List (Lane × InPoint)) : List (Lane × Word) :=
  pts.flatMap (fun p => match p.2 with
    | .at t => (recordsFrom st p.1 t).map (fun r => (p.1, r.tick))
    | _ => [])

/-- R136, R137: the lane whose in-point has the earliest tick, the one earlier in the list first. -/
def earliestPoint : List (Lane × InPoint) → Option (Lane × Word)
  | [] => none
  | (l, .at t) :: ps =>
    match earliestPoint ps with
    | some (l', t') => if earlier t' t then some (l', t') else some (l, t)
    | none => some (l, t)
  | _ :: ps => earliestPoint ps

/-- R136: a lane's in-point moves to its next KEY record, or the lane becomes PENDING. -/
def stepPoint (st : CodedStore) (l : Lane) (t : Word) : InPoint :=
  match (recordsAfter st l t).find? (fun r => decide (r.kind = .key)) with
  | some r => .at r.tick
  | none => .pending

/-- R136: step the in-points forward until the pin request is granted; with the points, the lanes stepped in order, and
the store with its pins. -/
def stepPoints (st : CodedStore) : Nat → List (Lane × InPoint) → List Lane →
    List (Lane × InPoint) × List Lane × CodedStore
  | 0, pts, moved => (pts, moved, st)
  | n + 1, pts, moved =>
    match pinRequest st (namedRecords st pts) with
    | some st1 => (pts, moved, st1)
    | none =>
      match earliestPoint pts with
      | none => (pts, moved, st)
      | some (l, t) =>
        stepPoints st n (pts.map (fun p => if p.1 = l then (l, stepPoint st l t) else p)) (moved ++ [l])

/-- R135 to R137: a clip is made at the newest end of the log, with room for it. -/
def makeClip (lanes : List Lane) (preroll : Nat) (tick : Word) (tags : List Nat) (s : State) : State × Clip :=
  let target := tick - BitVec.ofNat 32 preroll
  let chosen := lanes.map (fun l => (l, choosePoint s.store target l))
  let shorts := (chosen.filter (fun p => p.2.2)).map Prod.fst
  let r := stepPoints s.store (recordsInUse s.store + 7) (chosen.map (fun p => (p.1, p.2.1))) []
  let pts := r.1
  let moved := r.2.1
  let s1 := (shorts ++ moved).foldl (fun s l => s.latch .shortPreroll l.val) (s.withStore r.2.2)
  let id := nextId (s.clips.clips.map Clip.id) 257 s.clips.lastId
  let inTc := match earliestPoint pts with
    | some (l, t) => (findRecord s.store l t).map FrameRecord.timecode
    | none => none
  let c : Clip :=
    { id := id, state := .opened, kept := false, short := !(shorts ++ moved).isEmpty, ceilClosed := false
      sendOnClose := false, lanes := pts, inTick := tick, outTick := none, inTc := inTc
      onAir := (List.finRange 6).filter (fun l => lanes.contains l && tallyActive s.contacts l)
      tags := tags, priority := 0, keys := false, engine := none, framesSent := 0, framesTotal := 0, wseq := none
      rebuilt := false, pins := namedRecords s.store pts }
  (mark id (s1.withClips { s1.clips with clips := s1.clips.clips ++ [c], lastId := id }), c)

/-! ## Open clips at a new record (R138) -/

/-- R138: what a lane's place in an OPEN clip's list makes of a new record. -/
def wants (c : Clip) (l : Lane) (kind : FrameKind) : Bool :=
  decide (c.state = .opened) && c.lanes.any (fun p => decide (p.1 = l) && (match p.2 with
    | .at _ => true
    | .pending => decide (kind = .key)
    | .none => false))

/-- R138: the tick of the lane's newest record before the new one. -/
def tickBefore (st : CodedStore) (l : Lane) (t : Word) : Word :=
  match (st.records[l].filter (fun r => decide (r.tick ≠ t))).getLast? with
  | some r => r.tick
  | none => t - 1

/-- R138: one wanting clip's pin request for the new record. A clip that its close sends to the transfer queue finds the
idle engines before the next clip is weighed (R146, notes/assumptions/22.md). -/
def weighRecord (l : Lane) (r : FrameRecord) (id : Nat) (s : State) : State :=
  match findClip s id with
  | none => s
  | some c =>
    let waiting := c.lanes.any (fun p => decide (p.1 = l) && decide (p.2 = .pending))
    match pinRequest s.store [(l, r.tick)] with
    | some st =>
      let s1 := (s.withStore st).modClip id (fun c => { c with pins := c.pins ++ [(l, r.tick)] })
      if waiting then
        mark id (s1.modClip id (fun c =>
          { c with lanes := c.lanes.map (fun p => if p.1 = l then (l, .at r.tick) else p)
                   inTc := match c.inTc with | some t => some t | none => some r.timecode }))
      else s1
    | none =>
      let out := if waiting then r.tick - 1 else tickBefore s.store l r.tick
      serveEngines (mark id ((closeClip id out true s).latch .ceilingClose l.val))

/-- R138: the store hands a new record to the clip log. -/
def newRecord (l : Lane) (t : Word) (s : State) : State :=
  match findRecord s.store l t with
  | none => s
  | some r =>
    let ids := (s.clips.clips.filter (fun c => wants c l r.kind)).map Clip.id
    ids.foldl (fun s id => weighRecord l r id s) s

/-! ## Contact marks (R140) -/

/-- R140: one is added to the clip marks refused counter. -/
def markRefused (s : State) : State := s.bump ctrMarksRefused 1

/-- R140: a contact MARK_IN from a template with the stamped tick. -/
def contactMarkIn (tpl : Fin 4) (tick : Word) (s : State) : State :=
  if !s.labels.ready then markRefused s
  else
    match makeRoom s with
    | none => (markRefused s).latch .clipLogFull 0
    | some s1 =>
      let t := s.clips.templates[tpl]
      let tags := t.tags.filter (fun k => match finOf 64 (k - 1) with
        | some i => s.clips.tags[i].isSome
        | none => false)
      let m := makeClip t.lanes t.preroll tick tags s1
      let s2 := m.1.modClip m.2.id (fun c =>
        { c with sendOnClose := t.sendOnClose, priority := t.priority, keys := t.keys })
      if t.sendOnClose || decide (t.priority ≠ 0) || t.keys then mark m.2.id s2 else s2

/-- R140: a contact MARK_OUT with the stamped tick. -/
def contactMarkOut (tick : Word) (s : State) : State :=
  if !s.labels.ready then markRefused s
  else
    match newestOpen s with
    | none => markRefused s
    | some c => if earlier tick c.inTick then markRefused s else serveEngines (mark c.id (closeClip c.id tick false s))

/-- R140: a contact MARK_TOGGLE. -/
def contactToggle (tpl : Fin 4) (tick : Word) (s : State) : State :=
  if (newestOpen s).isSome then contactMarkOut tick s else contactMarkIn tpl tick s

/-! ## Directives of the clip log -/

/-- R144: the entry of a tag code is defined. -/
def tagDefined (s : State) (code : Nat) : Bool :=
  match finOf 64 (code - 1) with
  | some i => s.clips.tags[i].isSome
  | none => false

/-- R134: MKIN. A RANGE reason comes before a tag that is not defined, which is NOT_FOUND
(DESIGN CHOICE, notes/assumptions/85.md). -/
def actMkin (ws : List Word) (s : State) : Answer :=
  let n := wordAt ws 0
  let tick := if wordAt ws 3 = 1 then ws.getD 4 0 else s.ref.tick
  match lanesOf ((ws.drop 5).take n), tagsOf (ws.drop (5 + n)), boolOf (wordAt ws 3) with
  | some lanes, some tags, some _ =>
    if 1500 < wordAt ws 2 || later tick s.ref.tick then refuse s .range
    else if tags.any (fun c => !tagDefined s c) then refuse s .notFound
    else
      match makeRoom s with
      | none => refuse (s.latch .clipLogFull 0) .full
      | some s1 =>
        let m := makeClip lanes (wordAt ws 2) tick tags s1
        reply m.1 (.clipMade m.2.id (m.2.lanes.map Prod.snd) m.2.short)
  | _, _, _ => refuse s .range

/-- R139: MKOT. A tick later than the current one comes first, then the clip that is not found or not OPEN, and last an
out tick before the in tick (DESIGN CHOICE, notes/assumptions/85.md). -/
def actMkot (ws : List Word) (s : State) : Answer :=
  let id := wordAt ws 0
  let tick := if ws.length = 2 then ws.getD 1 0 else s.ref.tick
  let close := fun c : Clip =>
    if earlier tick c.inTick then refuse s .range
    else reply (serveEngines (mark c.id (closeClip c.id tick false s))) (.words [BitVec.ofNat 32 c.id, tick])
  if later tick s.ref.tick then refuse s .range
  else if id = 0 then
    match newestOpen s with
    | none => refuse s .state
    | some c => close c
  else
    match findClip s id with
    | none => refuse s .notFound
    | some c => if c.state = .opened then close c else refuse s .state

/-- R140: TMPL. -/
def actTmpl (ws : List Word) (s : State) : Answer :=
  let n := wordAt ws 1
  match finOf 4 (wordAt ws 0), lanesOf ((ws.drop 7).take n), tagsOf (ws.drop (7 + n)), boolOf (wordAt ws 4),
    boolOf (wordAt ws 6) with
  | some k, some lanes, some tags, some soc, some keys =>
    if 1500 < wordAt ws 3 || 7 < wordAt ws 5 then refuse s .range
    else success (s.withClips { s.clips with
      templates := s.clips.templates.set k ⟨lanes, wordAt ws 3, tags, soc, wordAt ws 5, keys⟩ })
  | _, _, _, _, _ => refuse s .range

/-- R141: the clip enters QUEUED by SEND. -/
def sendNow (id prio : Nat) (keys : Bool) (s : State) : State :=
  serveEngines (mark id (enterQueued id (s.modClip id (fun c => { c with priority := prio, keys := keys }))))

/-- R141: SEND. A priority or mode out of range comes before an id that is not in the log
(DESIGN CHOICE, notes/assumptions/85.md). -/
def actSend (ws : List Word) (s : State) : Answer :=
  let id := wordAt ws 0
  let prio := wordAt ws 1
  match boolOf (wordAt ws 2) with
  | none => refuse s .range
  | some keys =>
    if 7 < prio then refuse s .range
    else
      match findClip s id with
      | none => refuse s .notFound
      | some c =>
        match c.state with
        | .opened =>
          let s1 := s.modClip id (fun c => { c with sendOnClose := true, priority := prio, keys := keys })
          success (if c.sendOnClose && decide (c.priority = prio) && c.keys == keys then s1 else mark id s1)
        | .closed => success (sendNow id prio keys s)
        | .sent =>
          if c.kept then success (sendNow id prio keys (s.modClip id (fun c => { c with framesSent := 0 })))
          else refuse s .state
        | .queued | .sending | .orphaned => refuse s .state

/-- R142: KEEP. -/
def actKeep (ws : List Word) (s : State) : Answer :=
  let id := wordAt ws 0
  match findClip s id with
  | none => refuse s .notFound
  | some c =>
    if c.state = .orphaned || (decide (c.state = .sent) && !c.kept) then refuse s .state
    else if c.kept then success s
    else success (mark id (s.modClip id (fun c => { c with kept := true })))

/-- R143: DISC. -/
def actDisc (ws : List Word) (s : State) : Answer :=
  match findClip s (wordAt ws 0) with
  | none => refuse s .notFound
  | some c => success (removeClip c.id s)

/-- R144: TAGD. -/
def actTagd (ws : List Word) (s : State) : Answer :=
  let code := wordAt ws 0
  let k := wordAt ws 1
  match finOf 64 (code - 1) with
  | none => refuse s .range
  | some i =>
    if code = 0 then refuse s .range
    else
      let text := if k = 0 then none else some (charsOf k (ws.drop 2))
      let s1 := s.withClips { s.clips with tags := s.clips.tags.set i text }
      success (if s.asm.staleTags.contains code then s1
        else s1.withAsm { s.asm with staleTags := s.asm.staleTags ++ [code] })

/-- R145: TAGC. An id that is not in the log comes before a bad or repeated code, and that before a tag that is not
defined (DESIGN CHOICE, notes/assumptions/85.md). -/
def actTagc (ws : List Word) (s : State) : Answer :=
  let id := wordAt ws 0
  match findClip s id with
  | none => refuse s .notFound
  | some _ =>
    match tagsOf (ws.drop 2) with
    | none => refuse s .range
    | some tags =>
      if tags.any (fun c => !tagDefined s c) then refuse s .notFound
      else success (mark id (s.modClip id (fun c => { c with tags := tags })))

/-- R150: what RDCL gives of a clip. -/
def clipReport (s : State) (c : Clip) : ClipReport :=
  { clip := c
    lanes := c.lanes.map (fun p =>
      let mine := c.pins.filter (fun q => decide (q.1 = p.1))
      (p.1, mine.length, mine.getLast?.map Prod.snd))
    place := if s.clips.queue.contains c.id then some (s.clips.queue.idxOf c.id) else none
    dirty := s.clips.dirty.contains c.id, stale := s.asm.staleLabels.contains c.id }

/-- R150: RDCL. -/
def actRdcl (ws : List Word) (s : State) : Answer :=
  match findClip s (wordAt ws 0) with
  | none => refuse s .notFound
  | some c => reply s (.clip (clipReport s c))

/-- R150: what LSCL gives from a starting position on. -/
def listReport (s : State) (start : Nat) : ListReport :=
  { count := s.clips.clips.length, lastId := s.clips.lastId, dirtyOverflow := s.clips.dirtyOverflow
    staleOverflow := s.clips.staleOverflow, dirtyFill := s.clips.dirty.length, staleFill := s.asm.staleLabels.length
    queue := s.clips.queue
    engines := mapVec (fun _ e => e.map (fun x => (x.clip, x.cursor.map ClipCursor.tick, x.remaining))) s.engines
    clips := ((s.clips.clips.drop start).take 32).map (fun c =>
      ⟨c.id, c.state, c.kept, c.short, c.ceilClosed, c.sendOnClose, c.inTick⟩) }

/-- R150: LSCL. -/
def actLscl (ws : List Word) (s : State) : Answer :=
  if 255 < wordAt ws 0 then refuse s .range else reply s (.clipList (listReport s (wordAt ws 0)))

end Sys2Proof.Machine
end

