-- ==== Sys2Proof/Machine/LabelStore.lean ====
section
/-! DEFINITION. The label store (chapter 9): the writer, compaction, the erase list, the start-up scan and the rebuild of
the clip log; and the directives of the clip log, which set the writer to work. -/

namespace Sys2Proof.Machine

/-! ## Sectors, slots and the directory (R151, R152) -/

/-- The address of a slot in the non-volatile memory. -/
def slotAddress (sector slot : Nat) : Nat := sector * 32768 + slot * 128

/-- The 128 bytes of a slot. -/
def slotBytes (m : Memory) (sector slot : Nat) : List Byte := Memory.readRun labelDefault m (slotAddress sector slot) 128

def setSector (g : LabelStore) (k : Nat) (v : SectorState) : LabelStore :=
  match finOf 32 k with
  | some i => { g with sectors := g.sectors.set i v }
  | none => g

/-- R151: the erased count. -/
def erasedCount (g : LabelStore) : Nat := (g.sectors.toList.filter (fun x => decide (x = .erased))).length

/-- The lowest-numbered ERASED sector (R155). -/
def lowestErased (g : LabelStore) : Option Nat :=
  ((List.finRange 32).find? (fun i => decide (g.sectors[i] = .erased))).map Fin.val

/-- The latest write sequence of a list of entries (R152); of two copies the first stands for the record. -/
def latestEntry : List DirEntry → Option DirEntry
  | [] => none
  | a :: l =>
    match latestEntry l with
    | none => some a
    | some b => if later b.seq a.seq then some b else some a

/-- R152: the records of an id in the directory. -/
def entriesOf (g : LabelStore) (id : Nat) : List DirEntry := g.directory.filter (fun e => decide (e.id = id))

/-- R152: the newest record of an id. -/
def newestEntry (g : LabelStore) (id : Nat) : Option DirEntry := latestEntry (entriesOf g id)

/-! ## Room (R155) -/

/-- R155: there is room for a new record. -/
def roomForNew (g : LabelStore) : Bool := g.head.isSome || decide (1 < erasedCount g)

/-- R155: there is room for a compaction copy. -/
def roomForCopy (g : LabelStore) : Bool := g.head.isSome || decide (0 < erasedCount g)

/-! ## The erase list (R158) -/

/-- R158: a write stops a running erase, whose time done is kept. Where ERASE_END comes late the time done passes 250 ms
and is not held there (DESIGN CHOICE, notes/assumptions/92.md). -/
def suspendErase (clock : Nat) (l : List EraseEntry) : List EraseEntry :=
  l.map (fun e => match e.since with
    | some t => { e with done := e.done + (clock - t), since := none }
    | none => e)

/-- R158: the memory erases the front sector of the list whenever the writer is not writing. -/
def resumeErase (clock : Nat) : List EraseEntry → List EraseEntry
  | e :: l => (if e.since.isNone then { e with since := some clock } else e) :: l
  | [] => []

/-- R158: a sector becomes ERASING at the back of the erase list, and leaves the fill order. -/
def startErasing (g : LabelStore) (k : Nat) : LabelStore :=
  let g1 := setSector g k .erasing
  { g1 with fillOrder := g1.fillOrder.filter (fun i => decide (i ≠ k)), eraseList := g1.eraseList ++ [⟨k, 0, none⟩] }

/-! ## Compaction (R156, R157) -/

/-- R156: a compaction begins where it may. -/
def lookCompaction (g : LabelStore) : LabelStore :=
  match g.compact, g.fillOrder with
  | .idle, k :: _ => if g.ready && decide (erasedCount g ≤ 1) then { g with compact := .copying k 0 } else g
  | _, _ => g

/-- R157: the record of an entry in a victim sector is to be copied. -/
def toCopy (s : State) (victim : Nat) (e : DirEntry) : Bool :=
  let mine := entriesOf s.labels e.id
  let newest := match latestEntry mine with | some n => decide (n.seq = e.seq) | none => false
  let outside := mine.filter (fun x => decide (x.sector ≠ victim))
  newest && !outside.any (fun x => decide (x.seq = e.seq)) &&
    (if e.discarded then outside.any (fun x => later e.seq x.seq)
     else match findClip s e.id with
       | some c => decide (c.wseq = some e.seq)
       | none => false)

/-- R157: the first slot of a sector, from `n` on, that holds a record to be copied. -/
def nextCopy (s : State) (victim n : Nat) : Option DirEntry :=
  let here := s.labels.directory.filter (fun e => decide (e.sector = victim) && decide (n ≤ e.slot) && toCopy s victim e)
  here.foldl (fun m e => match m with
    | none => some e
    | some x => if e.slot < x.slot then some e else some x) none

/-- R157: the oldest FULL sector that holds no record to be copied. -/
def nextVictim (s : State) : Option Nat := s.labels.fillOrder.find? (fun k => (nextCopy s k 0).isNone)

/-! ## The writer (R153 to R155) -/

/-- R155: with no head, the lowest-numbered ERASED sector becomes HEAD, and the store looks for a compaction (R156). -/
def openHead (g : LabelStore) : LabelStore :=
  match g.head with
  | some _ => g
  | none =>
    match lowestErased g with
    | some k => lookCompaction { setSector g k .head with head := some (k, 0) }
    | none => g

/-- R153: the programming of a record begins at the head; it takes two milliseconds. A running erase stops. -/
def beginWrite (id : Nat) (seq : Word) (discarded copy : Bool) (bytes : List Byte) (s : State) : State :=
  let g := openHead s.labels
  match g.head with
  | none => s.withLabels g
  | some (k, n) =>
    s.withLabels { g with
      eraseList := suspendErase s.ref.clock g.eraseList
      writing := some ⟨k, n, id, seq, discarded, copy, bytes, s.ref.clock + msSamples 2⟩ }

/-- R153: a new record takes the next sequence. -/
def beginNew (id : Nat) (c : Option Clip) (s : State) : State :=
  let seq := s.labels.nextSeq
  let bytes := match c with
    | some c => clipRecord c (some seq)
    | none => discardedRecord id (some seq)
  beginWrite id seq c.isNone false bytes (s.withLabels { s.labels with nextSeq := seq + 1 })

/-- The front entry leaves the store-dirty list (R154). -/
def popDirty (s : State) : State := s.withClips (dirtyEmptied { s.clips with dirty := s.clips.dirty.tail })

/-- R154, R155: the idle writer serves the front entries of the store-dirty list until it writes or waits. -/
def serveDirty : Nat → State → State
  | 0, s => s
  | n + 1, s =>
    if s.labels.writing.isSome || s.labels.waiting || !s.labels.ready then s
    else
      match s.clips.dirty with
      | [] => s
      | id :: _ =>
        if !roomForNew s.labels then
          (s.withLabels { s.labels with waiting := true, storeFull := s.labels.storeFull + 1 }).latch .labelStoreFull 0
        else
          match findClip s id with
          | some c => beginNew id (some c) (popDirty s)
          | none =>
            if (entriesOf s.labels id).isEmpty then serveDirty n (popDirty s)
            else beginNew id none (popDirty s)

/-- R157: the compaction goes on while the writer is not writing. -/
def serveCompaction (s : State) : State :=
  match s.labels.writing, s.labels.compact with
  | none, .copying victim n =>
    match nextCopy s victim n with
    | none => s.withLabels { startErasing s.labels victim with compact := .erasing victim }
    | some e =>
      if roomForCopy s.labels then
        beginWrite e.id e.seq e.discarded true (slotBytes s.labels.mem e.sector e.slot)
          (s.withLabels { s.labels with compact := .copying victim e.slot })
      else
        match nextVictim s with
        | some k => s.withLabels { startErasing s.labels k with compact := .erasing k }
        | none =>
          (s.withLabels { s.labels with compact := .idle, storeFull := s.labels.storeFull + 1 }).latch .labelStoreFull 0
  | _, _ => s

/-- R158: with no write in progress the front erase runs. -/
def serveErase (s : State) : State :=
  if s.labels.writing.isNone && s.labels.ready then
    s.withLabels { s.labels with eraseList := resumeErase s.ref.clock s.labels.eraseList }
  else s

/-- The writer, the compaction and the erase list look for work: a copy goes before a store-dirty entry (R157), and an
erase runs when nothing is written (R158). A compaction that serving begins is looked at once the write ends. -/
def kick (s : State) : State :=
  if s.labels.ready then serveErase (serveDirty 514 (serveCompaction s)) else s

/-- RECORD_WRITE_END (R153): the marker is programmed. Where the record's id has passed to a new clip during the write,
that clip takes the write sequence of a record that is not DISCARDED, and never that of a DISCARDED one (DESIGN CHOICE,
notes/assumptions/91.md). -/
def recordWriteEnd (s : State) : State :=
  match s.labels.writing with
  | none => s
  | some w =>
    let s1 := s.advanceTo w.due
    let g := s1.labels
    let g1 := { g with
      mem := Memory.writeRun labelDefault g.mem (slotAddress w.sector w.slot) w.bytes
      directory := g.directory ++ [⟨w.id, w.sector, w.slot, w.seq, w.discarded⟩]
      writing := none
      compact := (match w.copy, g.compact with
        | true, .copying v n => .copying v (n + 1)
        | _, c => c) }
    let g2 := if w.slot + 1 < 256 then { g1 with head := some (w.sector, w.slot + 1) }
      else { setSector g1 w.sector .full with head := none, fillOrder := g1.fillOrder ++ [w.sector] }
    let s2 := s1.withLabels g2
    kick (if w.copy || w.discarded then s2 else s2.modClip w.id (fun c => { c with wseq := some w.seq }))

/-- ERASE_END (R158): the front erase reaches 250 milliseconds, or has passed them where the command comes late
(notes/assumptions/92.md). -/
def eraseEnd (s : State) : State :=
  match s.labels.eraseList with
  | ⟨k, done, some t⟩ :: rest =>
    let s1 := s.advanceTo (t + (msSamples 250 - done))
    let g := setSector s1.labels k .erased
    let s2 := s1.withLabels { g with
      mem := Memory.clear g.mem (slotAddress k 0) (slotAddress (k + 1) 0)
      directory := g.directory.filter (fun e => decide (e.sector ≠ k)), eraseList := rest
      compact := if g.compact = .erasing k then .idle else g.compact }
    let s3 := if s2.labels.waiting && roomForNew s2.labels then
        serveDirty 514 (s2.withLabels { s2.labels with waiting := false })
      else s2
    kick (s3.withLabels (lookCompaction s3.labels))
  | _ => s

/-! ## The start-up scan (R159, R160) -/

/-- What a programmed slot holds: its number, and its record when it is valid. -/
abbrev FoundSlot := Nat × Option LabelRecord

/-- R159: the programmed slots of a sector, in order. -/
def scanSector (m : Memory) (k : Nat) : List FoundSlot :=
  match Memory.cells m (slotAddress k 0) (slotAddress (k + 1) 0) with
  | [] => []
  | cells =>
    (List.range 256).filterMap (fun n =>
      match Memory.cells cells (slotAddress k n) (slotAddress k (n + 1)) with
      | [] => none
      | here =>
        let bytes := slotBytes here k n
        some (n, if recordValid bytes then some (parseRecord bytes) else none))

/-- The classes of R159. -/
inductive SectorClass where
  | erased | opened (k : Nat) | full | torn
deriving DecidableEq, Repr

/-- R159: the class of a sector by what its slots hold. -/
def classify (found : List FoundSlot) : SectorClass :=
  if found.isEmpty then .erased
  else if found.any (fun f => f.2.isNone) then .torn
  else if found.map Prod.fst ≠ List.range found.length then .torn
  else if found.length = 256 then .full
  else .opened found.length

/-- R152, R159: the directory entry of a valid record. -/
def entryOf (k : Nat) : FoundSlot → Option DirEntry
  | (n, some r) => some ⟨r.id, k, n, r.wseq.getD 0, decide (r.state = 7)⟩
  | (_, none) => none

/-- The latest write sequence a sector holds. -/
def latestIn (dir : List DirEntry) (k : Nat) : Word :=
  match latestEntry (dir.filter (fun e => decide (e.sector = k))) with
  | some e => e.seq
  | none => 0

/-- R160: the state that a scanned sector takes. -/
def foundState (head : Option (Nat × Nat)) (k : Nat) : Option (Nat × SectorClass) → SectorState
  | some (_, .opened _) => if head.map Prod.fst = some k then .head else .full
  | some (_, .full) => .full
  | some (_, .torn) => .erasing
  | _ => .erased

/-- R160: the sectors, the head, the fill order and the erase list after the scan, with the directory and the figures. Of
two sectors with the same latest write sequence, as copies may leave them, the lower-numbered becomes HEAD, or stands
first in the fill order (DESIGN CHOICE, notes/assumptions/77.md). -/
def scanStore (g : LabelStore) : LabelStore :=
  let found := (List.range 32).map (fun k => (k, scanSector g.mem k))
  let classes := found.map (fun f => (f.1, classify f.2))
  let dir := found.flatMap (fun f => f.2.filterMap (entryOf f.1))
  let opens := classes.filterMap (fun c => match c.2 with | .opened n => some (c.1, n) | _ => none)
  let head := opens.foldl (fun m c => match m with
    | none => some c
    | some x => if later (latestIn dir c.1) (latestIn dir x.1) then some c else some x) none
  let stateOf := fun k => foundState head k (classes.find? (fun c => decide (c.1 = k)))
  let fulls := (List.range 32).filter (fun k => decide (stateOf k = .full))
  let torn := (List.range 32).filter (fun k => decide (stateOf k = .erasing))
  { g with
    sectors := Vector.ofFn (fun k => stateOf k.val), head := head
    fillOrder := sortBy (fun a b => earlier (latestIn dir a) (latestIn dir b)) fulls
    nextSeq := (match latestEntry dir with | some e => e.seq + 1 | none => 0)
    directory := dir, eraseList := torn.map (fun k => ⟨k, 0, none⟩), compact := .idle, writing := none, waiting := false
    storeFull := 0, scanBad := (found.flatMap (fun f => f.2.filter (fun x => x.2.isNone))).length
    scanErase := torn.length, scanFound := dir.length }

/-! ## The rebuild of the clip log (R161, R162) -/

/-- The distinct ids of a directory, ascending. -/
def idsOf (dir : List DirEntry) : List Nat := sortBy (fun a b => decide (a < b)) (dir.map DirEntry.id).eraseDups

/-- R161: the state of a rebuilt clip. -/
def rebuiltState : ClipState → ClipState
  | .sent => .sent
  | .orphaned | .opened | .closed | .queued | .sending => .orphaned

/-- R161: a clip as the record of the store gives it, and as it is rebuilt. -/
def recordClip (g : LabelStore) (e : DirEntry) : Clip := (parseRecord (slotBytes g.mem e.sector e.slot)).clip

def rebuildClip (g : LabelStore) (e : DirEntry) : Clip :=
  let c := recordClip g e
  { c with
    state := rebuiltState c.state, lanes := pendingToNone c.lanes, engine := none, pins := [], wseq := some e.seq
    rebuilt := true }

/-- R162: the rebuild changed the clip's state or lane list. -/
def rebuildChanged (g : LabelStore) (e : DirEntry) : Bool :=
  let c := recordClip g e
  decide (rebuiltState c.state ≠ c.state) || decide (pendingToNone c.lanes ≠ c.lanes)

/-- R161, R162: the clip log and the two lists are rebuilt from the directory. -/
def rebuildLog (s : State) : State :=
  let g := s.labels
  let inTorn := fun e : DirEntry => g.eraseList.any (fun x => decide (x.sector = e.sector))
  let ids := idsOf g.directory
  let newest := ids.filterMap (newestEntry g)
  let alive := sortBy (fun a b => earlier a.seq b.seq) (newest.filter (fun e => !e.discarded))
  let kept := alive.drop (alive.length - 256)
  let left := sortBy (fun a b => decide (a < b)) ((alive.take (alive.length - 256)).map DirEntry.id)
  let again := (kept.filter (fun e => rebuildChanged g e || inTorn e)).map DirEntry.id
  let tombs := (newest.filter (fun e => e.discarded && inTorn e
    && (entriesOf g e.id).any (fun x => decide (x.sector ≠ e.sector) && later e.seq x.seq))).map DirEntry.id
  let log := { s.clips with
    clips := kept.map (rebuildClip g), lastId := ids.foldl max 0, dirty := [], dirtyOverflow := false
    staleOverflow := false }
  let s1 := s.withClips ((again ++ tombs ++ left).foldl (fun g id => markDirty id g) log)
  (kept.map DirEntry.id).foldl (fun s id => markStale id s) (s1.withAsm { s1.asm with staleLabels := [] })

/-- START_UP_SCAN (R159 to R162). -/
def startUpScan (s : State) : State :=
  if s.labels.ready then s
  else
    let s1 := s.withLabels (scanStore s.labels)
    let bad := (List.range 32).filter (fun k => (scanSector s.labels.mem k).any (fun f => f.2.isNone))
    let s2 := bad.foldl (fun s k => s.latch .labelRecordBad k) s1
    let s3 := rebuildLog s2
    kick (s3.withLabels (lookCompaction { s3.labels with ready := true }))

/-! ## What a cut leaves in the memory (R153, R158, R159) -/

/-- R153: a write that is cut leaves part of the record, without its marker: how much is a free value. -/
def cutWriting (s : State) : State :=
  match s.labels.writing with
  | none => s
  | some w =>
    let n := 1 + Config.cutWrite s.freeSeed % 126
    (s.withLabels { s.labels with
      mem := Memory.writeRun labelDefault s.labels.mem (slotAddress w.sector w.slot) (w.bytes.take n)
      writing := none }).withSeed (s.freeSeed + 1)

/-- The bytes of a sector whose erase was cut: each a free value (R159). -/
def cutSector (seed k : Nat) (m : Memory) : Memory :=
  Memory.writeRun labelDefault m (slotAddress k 0)
    ((List.range 32768).map (fun i => Config.cutErase seed (slotAddress k 0 + i)))

/-- R159: the erases that have begun and are cut off. -/
def cutErasing (s : State) : State :=
  let begun := s.labels.eraseList.filter (fun e => decide (0 < e.done) || e.since.isSome)
  if begun.isEmpty then s
  else
    (s.withLabels { s.labels with
      mem := begun.foldl (fun m e => cutSector s.freeSeed e.sector m) s.labels.mem }).withSeed (s.freeSeed + 1)

/-! ## Reading the store (R163) -/

/-- R163: what RDLS gives; the time done of an erase whose end is late is not held at 250 ms (notes/assumptions/92.md). -/
def labelReport (s : State) : LabelReport :=
  let g := s.labels
  { ready := g.ready
    sectors := mapVec (fun k x => (x, (g.directory.filter (fun e => decide (e.sector = k.val))).length)) g.sectors
    head := g.head, erased := erasedCount g, fillOrder := g.fillOrder
    eraseList := (suspendErase s.ref.clock g.eraseList).map (fun e => (e.sector, e.done / 48)), compact := g.compact
    writing := g.writing.map (fun w => ⟨w.sector, w.slot, w.id, w.seq, w.discarded, w.bytes⟩), nextSeq := g.nextSeq
    ids := (idsOf g.directory).length, storeFull := g.storeFull, scanBad := g.scanBad, scanErase := g.scanErase
    scanFound := g.scanFound }

/-- R163: RDLS. -/
def actRdls (_ : List Word) (s : State) : Answer := reply s (.labels (labelReport s))

/-! ## The commands of the label store and of the clip log -/

/-- RECORD_WRITE_END (R153). -/
def execRecordWriteEnd (s : State) : Host.Outcome State Fault Refusal := live s recordWriteEnd

/-- ERASE_END (R158). -/
def execEraseEnd (s : State) : Host.Outcome State Fault Refusal := live s eraseEnd

/-- START_UP_SCAN (R159). -/
def execStartUpScan (s : State) : Host.Outcome State Fault Refusal := live s startUpScan

/-- RDLS (R163). -/
def execRdls (d : Directive) (s : State) : Host.Outcome State Fault Refusal := live s (takeDirective .rdls d actRdls)

/-- MKIN (R134). -/
def execMkin (d : Directive) (s : State) : Host.Outcome State Fault Refusal :=
  live s (fun s => kick (takeDirective .mkin d actMkin s))

/-- MKOT (R139). -/
def execMkot (d : Directive) (s : State) : Host.Outcome State Fault Refusal :=
  live s (fun s => kick (takeDirective .mkot d actMkot s))

/-- TMPL (R140). -/
def execTmpl (d : Directive) (s : State) : Host.Outcome State Fault Refusal := live s (takeDirective .tmpl d actTmpl)

/-- SEND (R141). -/
def execSend (d : Directive) (s : State) : Host.Outcome State Fault Refusal :=
  live s (fun s => kick (takeDirective .send d actSend s))

/-- KEEP (R142). -/
def execKeep (d : Directive) (s : State) : Host.Outcome State Fault Refusal :=
  live s (fun s => kick (takeDirective .keep d actKeep s))

/-- DISC (R143). -/
def execDisc (d : Directive) (s : State) : Host.Outcome State Fault Refusal :=
  live s (fun s => kick (takeDirective .disc d actDisc s))

/-- TAGD (R144). -/
def execTagd (d : Directive) (s : State) : Host.Outcome State Fault Refusal := live s (takeDirective .tagd d actTagd)

/-- TAGC (R145). -/
def execTagc (d : Directive) (s : State) : Host.Outcome State Fault Refusal :=
  live s (fun s => kick (takeDirective .tagc d actTagc s))

/-- RDCL (R150). -/
def execRdcl (d : Directive) (s : State) : Host.Outcome State Fault Refusal := live s (takeDirective .rdcl d actRdcl)

/-- LSCL (R150). -/
def execLscl (d : Directive) (s : State) : Host.Outcome State Fault Refusal := live s (takeDirective .lscl d actLscl)

end Sys2Proof.Machine
end

