-- ==== Sys2Proof/Machine/Rate.lean ====
section
/-! DEFINITION. The rate control (chapter 3): send capacity and lane shares, budgets and allotments, the bucket and the
quantiser, and the directives LRAT, LSHR and RSRV. -/

namespace Sys2Proof.Machine

/-! ## Capacity and shares (R39 to R41) -/

/-- R39: R, the sum of the agreed rates of the paths in UP. -/
def sendRate (s : State) : Nat :=
  (s.paths.toList.map (fun p => if p.state = .up then p.agreed.getD 0 else 0)).foldl (· + ·) 0

/-- R39: A, the audio need. -/
def audioNeed (s : State) : Nat := 1152 * s.mixer.live.home.length

/-- R40: V, the capacity for pictures; a difference below 0 is 0. -/
def pictureCapacity (s : State) : Nat := sendRate s - audioNeed s - s.asm.labelReserve - s.asm.clipReserve

/-- R41 step 2: the weight of a lane; a lane that is not CODING has none. -/
def laneWeight (c : LaneCoder) : Nat :=
  if c.state = .coding then (if c.rate.tallyOn then c.rate.wOn else c.rate.wOff) else 0

/-- R41 step 3: W. -/
def weightSum (lanes : Vector LaneCoder 6) : Nat := (lanes.toList.map laneWeight).foldl (· + ·) 0

/-- R41 step 4: the rate of a lane. -/
def laneShare (v w : Nat) (c : LaneCoder) : Nat := if w = 0 then 0 else v * laneWeight c / w

/-- R41: the lane rates at the frame start of a lane whose frame has the tally `on`. -/
def workShares (l : Lane) (on : Bool) (s : State) : State :=
  let s1 := s.modRate l (fun r => { r with tallyOn := on })
  let v := pictureCapacity s1
  let w := weightSum s1.lanes
  let s2 := s1.withLanes (mapVec (fun _ c => { c with rate := { c.rate with rate := laneShare v w c } }) s1.lanes)
  s2.modRate l (fun r => { r with capacity := ⟨sendRate s1, audioNeed s1, v, w⟩ })

/-! ## Budget and allotment (R43, R44) -/

/-- R1, R43: the reference rate in frames per second. -/
def fpsOf : FrameRate → Nat
  | .fps50 => 50
  | .fps60 => 60

/-- R43: the frame budget of a lane rate. -/
def frameBudget (v fps n : Nat) : Nat := clampNat (n * 64) 1048576 (v * 125 / fps)

/-- R43: the allotment of a frame. -/
def makeAllotment (tick : Word) (kind : FrameKind) (n fps : Nat) (r : RateContext) : Allotment :=
  let bf := frameBudget r.rate fps n
  { tick := tick, kind := kind, n := n, bf := bf
    t := (match kind with | .key => bf * r.settings.kw | .delta => bf), kw := r.settings.kw, capF := r.settings.capF
    qmin := r.settings.qmin, qmax := r.settings.qmax }

/-- R44: the allotment of slice i. -/
def sliceAllotment (a : Allotment) (i : Nat) : Nat := a.t / a.n + (if i < a.t % a.n then 1 else 0)

/-- The allotment of the frame with a tick. -/
def findAllotment (r : RateContext) (t : Word) : Option Allotment := r.allots.find? (fun a => decide (a.tick = t))

/-- R37, R43: the allotment of a frame is removed. -/
def dropAllotment (t : Word) (r : RateContext) : RateContext :=
  { r with allots := r.allots.filter (fun a => decide (a.tick ≠ t)) }

/-! ## The bucket and the quantiser (R45 to R50) -/

/-- R45: the slice cap applies to a slice of size S. -/
def capped (a : Allotment) (i size : Nat) : Bool := decide (a.kind = .delta) && decide (sliceAllotment a i * a.capF < size)

/-- R46: the bucket after a slice of size S with the allotment a; it overflows when the result is above Cb. -/
def bucketAfter (cb f size a : Nat) : Nat := min cb (f + size - a)

def overflows (cb f size a : Nat) : Bool := decide (cb < f + size - a)

/-- R37: the midpoint H of the bucket. -/
def midpoint (r : RateContext) : Nat := r.settings.cb / 2

/-- R50: the index for the next slice. -/
def nextIndex (r : RateContext) : Nat :=
  let raw := (r.settings.qref : Int) + trunc ((r.settings.gain : Int) * ((r.fullness : Int) - (midpoint r : Int))) r.settings.cb
  let windowed := clampInt ((r.q : Int) - 4) ((r.q : Int) + 4) raw
  (clampInt r.settings.qmin r.settings.qmax windowed).toNat

/-- R46, R50: the bucket and then the index, after a slice. -/
def rateAfterSlice (size a : Nat) (r : RateContext) : RateContext :=
  let r1 := { r with
    fullness := bucketAfter r.settings.cb r.fullness size a
    force := r.force || overflows r.settings.cb r.fullness size a }
  { r1 with q := nextIndex r1 }

/-- R48: the key debt of a frame. -/
def addDebt (a : Allotment) (r : RateContext) : RateContext :=
  match a.kind with
  | .key => { r with fullness := min r.settings.cb (r.fullness + (a.kw - 1) * a.bf) }
  | .delta => r

/-! ## Settings (R38, R51, R52) -/

/-- R52: held settings take effect at a lane frame start. -/
def applyHeldRates (r : RateContext) : RateContext :=
  match r.held with
  | none => r
  | some h =>
    { r with settings := h, held := none, fullness := min h.cb r.fullness, q := clampNat h.qmin h.qmax r.q }

/-- R38: the rate context when the lane enters OFF. -/
def rateOff (r : RateContext) : RateContext :=
  let st := r.held.getD r.settings
  { r with settings := st, held := none, fullness := min st.cb r.fullness, rate := 0, allots := [] }

/-- R38: the rate context at a lane start. -/
def rateStart (r : RateContext) : RateContext :=
  { r with fullness := midpoint r, q := r.settings.qref, force := false, tallyOn := false, rate := 0
           capacity := ⟨0, 0, 0, 0⟩, allots := [] }

/-- R51: the settings that LRAT's words give, when they are in range. -/
def ratesOf (ws : List Word) : Option RateSettings :=
  let r : RateSettings := ⟨wordAt ws 1, wordAt ws 2, wordAt ws 3, wordAt ws 4, wordAt ws 5, wordAt ws 6, wordAt ws 7,
    wordAt ws 8⟩
  if r.qref ≤ 63 && r.qmin ≤ 63 && r.qmax ≤ 63 && r.qmin ≤ r.qmax && r.qmin ≤ r.qref && r.qref ≤ r.qmax
      && r.gain ≤ 64 && 4096 ≤ r.cb && r.cb ≤ 4194304 && 2 ≤ r.capF && r.capF ≤ 16 && 1 ≤ r.kw && r.kw ≤ 8
      && 1 ≤ r.latency && r.latency ≤ 50 then some r else none

/-- R51: LRAT. -/
def actLrat (ws : List Word) (s : State) : Answer :=
  match finOf 6 (wordAt ws 0), ratesOf ws with
  | some l, some st =>
    success (s.modLane l (fun c =>
      if c.state = .off then
        { c with rate := { c.rate with settings := st, fullness := min st.cb c.rate.fullness } }
      else { c with rate := { c.rate with held := some st } }))
  | _, _ => refuse s .range

/-- R42: LSHR. -/
def actLshr (ws : List Word) (s : State) : Answer :=
  match finOf 6 (wordAt ws 0) with
  | none => refuse s .range
  | some l =>
    if 15 < wordAt ws 1 || 15 < wordAt ws 2 then refuse s .range
    else success (s.modRate l (fun r => { r with wOn := wordAt ws 1, wOff := wordAt ws 2 }))

/-- R40: RSRV. -/
def actRsrv (ws : List Word) (s : State) : Answer :=
  if 2000 < wordAt ws 0 || 200000 < wordAt ws 1 then refuse s .range
  else success (s.withAsm { s.asm with labelReserve := wordAt ws 0, clipReserve := wordAt ws 1 })

/-- LRAT (R51). -/
def execLrat (d : Directive) (s : State) : Host.Outcome State Fault Refusal := live s (takeDirective .lrat d actLrat)

/-- LSHR (R42). -/
def execLshr (d : Directive) (s : State) : Host.Outcome State Fault Refusal := live s (takeDirective .lshr d actLshr)

/-- RSRV (R40). -/
def execRsrv (d : Directive) (s : State) : Host.Outcome State Fault Refusal := live s (takeDirective .rsrv d actRsrv)

end Sys2Proof.Machine
end

