-- ==== Sys2Proof/Machine/Coder.lean ====
section
/-! DEFINITION. The lane coders (chapter 2): taking lines, frame starts, slicing, the coding engine, the pass list, and the
ways a lane starts, stalls and stops; with the frame offer of R58. -/

namespace Sys2Proof.Machine

/-! ## Formats and slices (R26, R27) -/

/-- R26: the slices of a frame of a format. -/
def sliceCount (f : Format) : Nat := ceilDiv f.lines 16

/-- R26: the last line of slice k. -/
def lastLineOf (f : Format) (k : Nat) : Nat := min (16 * k + 15) (f.lines - 1)

/-- R27: the lines of a slice from line `n` on, `m` of them, with the missing ones filled: by the nearest earlier line
taken, or by the first line of the frame taken. -/
def fillLines (have_ : List (Nat × List Byte)) : Nat → Nat → Option (List Byte) → List (Nat × List Byte)
  | _, 0, _ => []
  | n, m + 1, near =>
    match have_.find? (fun x => decide (x.1 = n)) with
    | some x => (n, x.2) :: fillLines have_ (n + 1) m (some x.2)
    | none =>
      let copy := match near with
        | some p => p
        | none => match have_.head? with | some x => x.2 | none => []
      (n, copy) :: fillLines have_ (n + 1) m near

/-- R27: the lines of slice k of a format, filled. -/
def filledSlice (f : Format) (k : Nat) (b : SliceBuffer) : List (Nat × List Byte) :=
  fillLines b.lines (16 * k) (lastLineOf f k + 1 - 16 * k) b.before

/-! ## Entering OFF (R11, R34, R38) -/

/-- R11: the port's items of a lane whose coder enters OFF. -/
def emptyVideo : VideoIntake := ⟨resetSeq, [], none, none⟩

/-- R34: the coder's items of a lane that enters OFF. -/
def coderOff (c : LaneCoder) : LaneCoder :=
  { c with state := .off, format := c.held.getD c.format, held := none, keyReq := false, idle := 0, prev := none
           fill := none, frame := none, buffers := Vector.replicate 2 freeBuffer, engine := none, pass := []
           rate := rateOff c.rate }

/-- R33: a draining lane with no frame in progress and an empty pass list enters OFF. -/
def maybeOff (l : Lane) (s : State) : State :=
  let c := s.lanes[l]
  if c.state = .draining && c.frame.isNone && c.pass.isEmpty then (s.setLane l (coderOff c)).setVideo l emptyVideo
  else s

/-! ## Passing slices (R30) -/

/-- R30: one done slice is passed to the store; the last one completes its frame. -/
def passOne (l : Lane) (e : PassEntry) (x : SliceResult) (s : State) : State :=
  let s1 := appendSlice l e.tick x s
  match findAllotment s1.lanes[l].rate e.tick with
  | none => s1
  | some a =>
    if e.index + 1 = a.n then
      (s1.withStore (completeRecord s1.store l e.tick)).modRate l (fun r => dropAllotment e.tick (addDebt a r))
    else s1

/-- R30: the done slices at the front of the pass list are passed in order. -/
def passDone (l : Lane) : Nat → State → State
  | 0, s => s
  | n + 1, s =>
    match s.lanes[l].pass with
    | ⟨t, i, b, some x⟩ :: rest => passDone l n (passOne l ⟨t, i, b, some x⟩ x (s.modLane l (fun c => { c with pass := rest })))
    | _ => s

def passReady (l : Lane) (s : State) : State := passDone l s.lanes[l].pass.length s

/-! ## The coding engine (R28, R45 to R47, R50) -/

/-- The entry of the pass list whose slice is in a buffer. -/
def entryIn (c : LaneCoder) (b : Fin 2) : Option PassEntry :=
  c.pass.find? (fun e => decide (e.buffer = some b) && e.done.isNone)

/-- R28: the slice in a buffer is done: the entry is marked, the buffer becomes FREE and the engine idle. -/
def markDone (b : Fin 2) (x : SliceResult) (c : LaneCoder) : LaneCoder :=
  { c with
    pass := c.pass.map (fun e => if e.buffer = some b && e.done.isNone then { e with done := some x } else e)
    buffers := c.buffers.set b freeBuffer, engine := none }

/-- R28, R45, R46, R50: the slice-coded event of the slice in a buffer, with the result of its coding; done slices are
then passed. -/
def sliceEnds (l : Lane) (b : Fin 2) (x : SliceResult) (s : State) : State :=
  match entryIn s.lanes[l] b with
  | none => s
  | some e =>
    match findAllotment s.lanes[l].rate e.tick with
    | none => s
    | some a =>
      let cap := decide (x.kind = .coded) && capped a e.index x.size
      let y : SliceResult := if cap then ⟨.repeated, none, 16, []⟩ else x
      let s1 := if cap then s.count ctrSlicesCapped .sliceCapped l.val else s
      let r := s1.lanes[l].rate
      let al := sliceAllotment a e.index
      let s2 := if overflows r.settings.cb r.fullness y.size al then s1.count ctrBucketOverflows .bucketOverflow l.val else s1
      let s3 := (s2.modRate l (rateAfterSlice y.size al)).modLane l (markDone b y)
      passReady l s3

/-- The buffer of the READY slice that became ready first (R28). -/
def firstReady (c : LaneCoder) : Option (Fin 2) :=
  match c.pass.find? (fun e => e.done.isNone && (match e.buffer with
    | some b => decide (c.buffers[b].state = .ready)
    | none => false)) with
  | some e => e.buffer
  | none => none

/-- R28, R47: the engine begins the coding of the slice in a buffer. -/
def beginCoding (l : Lane) (b : Fin 2) (s : State) : State :=
  match entryIn s.lanes[l] b with
  | none => s
  | some e =>
    match findAllotment s.lanes[l].rate e.tick with
    | none => s
    | some a =>
      let r := s.lanes[l].rate
      let s1 := s.modLane l (fun c =>
        { c with buffers := c.buffers.set b { c.buffers[b] with state := .coding }, rate := { c.rate with force := false } })
      if r.force then
        match a.kind with
        | .delta => sliceEnds l b ⟨.repeated, none, 16, []⟩ s1
        | .key => (s1.modRate l (fun r => { r with q := a.qmax })).modLane l (fun c => { c with engine := some ⟨b, a.qmax⟩ })
      else s1.modLane l (fun c => { c with engine := some ⟨b, clampNat a.qmin a.qmax r.q⟩ })

/-- R28: an idle engine begins the coding of a READY slice; a slice replaced at once leaves it idle for the next. -/
def startEngine (l : Lane) : Nat → State → State
  | 0, s => s
  | n + 1, s =>
    if s.lanes[l].engine.isSome then s
    else
      match firstReady s.lanes[l] with
      | none => s
      | some b => startEngine l n (beginCoding l b s)

/-- The engine and the pass list act on what has become ready. -/
def settleCoder (l : Lane) (s : State) : State := startEngine l 3 (passReady l s)

/-! ## Slices (R26, R29) -/

/-- R26: a slice begins: it claims a FREE buffer, or is an overrun slice (R29). -/
def beginSlice (l : Lane) (f : FrameInProgress) (k : Nat) (s : State) : State :=
  let c := s.lanes[l]
  match (List.finRange 2).find? (fun b => decide (c.buffers[b].state = .free)) with
  | some b =>
    s.modLane l (fun c => { c with
      buffers := c.buffers.set b ⟨.filling, f.tick, k, [], c.fill⟩
      frame := some { f with begun := some ⟨k, some b⟩ } })
  | none =>
    (s.modLane l (fun c => { c with frame := some { f with begun := some ⟨k, none⟩ } })).count ctrSliceOverruns
      .laneOverrun l.val

/-- The frame in progress begins its next slice unless that has begun. -/
def ensureBegun (l : Lane) (s : State) : State :=
  match s.lanes[l].frame with
  | some f => if f.begun.isSome then s else beginSlice l f f.next s
  | none => s

/-- R29: the kind of an overrun slice. -/
def overrunResult (k : Option FrameKind) : SliceResult :=
  ⟨match k with | some .key => .blank | _ => .repeated, none, 16, []⟩

/-- R26, R29, R31: the slice that has begun becomes ready and joins the pass list; after the last one the frame ends. -/
def finishSlice (c : LaneCoder) : LaneCoder :=
  match c.frame with
  | none => c
  | some f =>
    match f.begun with
    | none => c
    | some g =>
      let f1 := { f with next := g.index + 1, begun := none }
      let ended := decide (sliceCount f.format ≤ g.index + 1)
      let c1 := { c with frame := if ended then none else some f1, fill := if ended then none else c.fill }
      match g.buffer with
      | none => { c1 with pass := c.pass ++ [⟨f.tick, g.index, none, some (overrunResult f.kind)⟩] }
      | some b =>
        let buf := c.buffers[b]
        { c1 with
          buffers := c.buffers.set b { buf with state := .ready, lines := filledSlice f.format g.index buf }
          pass := c.pass ++ [⟨f.tick, g.index, some b, none⟩] }

/-- R26: the next slice of the frame in progress becomes ready. -/
def makeReady (l : Lane) (s : State) : State := settleCoder l ((ensureBegun l s).modLane l finishSlice)

/-- R26, R31: slices become ready in index order until the next one is `k`. -/
def readyUpTo (l : Lane) (k : Nat) : Nat → State → State
  | 0, s => s
  | n + 1, s =>
    match s.lanes[l].frame with
    | some f => if f.next < k then readyUpTo l k n (makeReady l s) else s
    | none => s

/-- R31: the frame in progress ends. -/
def endFrame (l : Lane) (s : State) : State :=
  match s.lanes[l].frame with
  | none => s
  | some f =>
    let s1 := if f.disposition = .stored then readyUpTo l (sliceCount f.format) (sliceCount f.format) s else s
    maybeOff l (s1.modLane l (fun c => { c with frame := none, fill := none }))

/-! ## The frame offer (R58, R59) -/

/-- R58 step 1: the offered tick is later than that of the lane's newest record. -/
def tickTest (st : CodedStore) (l : Lane) (t : Word) : Bool :=
  match newestRecord st l with
  | some r => later t r.tick
  | none => true

/-- R58 step 2: reclaim where the reserve is not met; the cell assembler's orders follow it. -/
def makeReserve (s : State) : State :=
  if reserveMet s.store then s
  else
    let r := reclaim (recordsInUse s.store) [] s
    awaitingOrders r.2 r.1

/-- R58 step 5: a record with the block at the head of the free list. -/
def createRecord (l : Lane) (t : Word) (tc : Timecode) (kind : FrameKind) (n : Nat) (st : CodedStore) : CodedStore :=
  { st with
    free := st.free.tail
    records := st.records.set l (st.records[l] ++ [⟨t, tc, kind, false, n, st.free.take 1, 0, [], 0, .pending, false, false⟩]) }

/-- R58: the offer of a frame: the state after it, and whether the frame is STORED. -/
def offerFrame (l : Lane) (t : Word) (tc : Timecode) (kind : FrameKind) (n : Nat) (s : State) : State × Bool :=
  if !tickTest s.store l t then (s.count ctrFramesDropped .frameDropped l.val, false)
  else
    let s1 := makeReserve s
    if 4096 ≤ recordsInUse s1.store || s1.store.free.isEmpty then (s1.count ctrFramesDropped .frameDropped l.val, false)
    else (s1.withStore (createRecord l t tc kind n s1.store), true)

/-! ## Frame start (R22 to R24) -/

/-- R24: the kind of a frame that starts. -/
def frameKind (c : LaneCoder) : FrameKind := if c.keyReq || decide (c.format.keyInterval - 1 ≤ c.delta) then .key else .delta

/-- R22 step 6: what the coder makes of the store's answer. -/
def afterOffer (kind : FrameKind) (stored : Bool) (t : Word) (c : LaneCoder) : LaneCoder :=
  if stored then
    match kind with
    | .key => { c with keyReq := false, delta := 0 }
    | .delta => { c with delta := c.delta + 1 }
  else { c with keyReq := true, rate := dropAllotment t c.rate }

/-- R22 step 2: a held format becomes the current format. -/
def applyHeldFormat (c : LaneCoder) : LaneCoder := { c with format := c.held.getD c.format, held := none }

/-- R22 steps 4 to 6: a lane frame start, up to the frame's first line. -/
def laneFrameStart (l : Lane) (s : State) : State :=
  let t := s.ref.tick
  let tc := s.ref.timecode
  let on := tallyActive s.contacts l
  let kind := frameKind s.lanes[l]
  let fmt := s.lanes[l].format
  let n := sliceCount fmt
  let s1 := s.modLane l (fun c => { c with lastTick := some t, rate := applyHeldRates c.rate })
  let limit := effectiveLimit s1 l
  let s2 := (workShares l on s1).withAsm { s1.asm with effLimit := s1.asm.effLimit.set l limit }
  let s3 := s2.modRate l (fun r => { r with allots := r.allots ++ [makeAllotment t kind n (fpsOf s.ref.rate) r] })
  let o := offerFrame l t tc kind n s3
  let disp : Disposition := if o.2 then .stored else .dropped
  let s4 := o.1.modLane l (fun c =>
    { afterOffer kind o.2 t c with frame := some ⟨fmt, t, tc, disp, some kind, some on, 0, none⟩ })
  let s5 := if o.2 then weighNew l t (newRecord l t s4) else s4
  liveSkip l limit s5

/-- R23: a frame that starts in the tick of the previous lane frame start. It keeps the tick and the timecode of its own
start, which R22 gives a frame only at a step that this one does not reach (DESIGN CHOICE, notes/assumptions/62.md). -/
def discardFrame (l : Lane) (s : State) : State :=
  (s.modLane l (fun c =>
    { c with frame := some ⟨c.format, s.ref.tick, s.ref.timecode, .discarded, none, none, 0, none⟩ })).count
    ctrDiscardedForRate .laneRate l.val

/-! ## Lines (R9, R21) -/

/-- R8, R21: a line begins a frame. -/
def beginsFrame (prev : Option Nat) (x : Line) : Bool :=
  x.start || (match prev with | some p => decide (x.number < p) | none => false)

/-- R21: a line is put into its slice: a placing begins, or the line of an overrun slice is discarded. -/
def putLine (x : Line) (c : LaneCoder) : LaneCoder :=
  match c.frame with
  | none => c
  | some f =>
    match f.begun with
    | some ⟨_, some b⟩ =>
      let buf := c.buffers[b]
      { c with buffers := c.buffers.set b { buf with lines := buf.lines ++ [(x.number, x.pixels)] }
               fill := some x.pixels, placing := some ⟨f.tick, x.number⟩ }
    | _ => { c with fill := some x.pixels }

/-- R26: the slice holding line n becomes ready when n is its last line. -/
def readyAfter (l : Lane) (n : Nat) (s : State) : State :=
  match s.lanes[l].frame with
  | some f => if n = lastLineOf f.format f.next then makeReady l s else s
  | none => s

/-- R26, R27, R29: a line of the STORED frame in progress: earlier slices become ready, the line's slice begins, and the
line is placed in it. The first line of the frame is the fill line from the start. A line beyond the format's lines is in
no slice, and no missing line comes after it (notes/assumptions/14.md). -/
def placeLine (l : Lane) (f : FrameInProgress) (x : Line) (s : State) : State :=
  let s1 := s.modLane l (fun c => { c with fill := match c.fill with | some p => some p | none => some x.pixels })
  if f.format.lines ≤ x.number || x.number / 16 < f.next then s1
  else
    let s2 := ensureBegun l (readyUpTo l (x.number / 16) (sliceCount f.format) s1)
    let s3 := s2.modLane l (putLine x)
    if s3.lanes[l].placing.isNone then readyAfter l x.number s3 else s3

/-- R21: a line of the wrong length is discarded. -/
def wrongLength (l : Lane) (s : State) : State := s.count ctrLaneLength .laneLength l.val

/-- R21: the line's number becomes the previous line, unless the lane has entered OFF meanwhile. -/
def setPrev (l : Lane) (x : Line) (s : State) : State :=
  s.modLane l (fun c => if c.state = .off then c else { c with prev := some x.number })

/-- R22: a frame start in CODING, with the line as the frame's first when the frame is STORED. -/
def frameStart (l : Lane) (x : Line) (s : State) : State :=
  let s1 := (endFrame l s).modLane l applyHeldFormat
  if s1.lanes[l].lastTick = some s1.ref.tick then discardFrame l s1
  else
    let s2 := laneFrameStart l s1
    match s2.lanes[l].frame with
    | some f => if f.disposition = .stored then placeLine l f x s2 else s2
    | none => s2

/-- R21: the length of a line fits a width. -/
def fits (x : Line) (f : Format) : Bool := x.pixels.length == 2 * f.width

/-- R21: a line that does not begin a frame, in CODING or DRAINING. A line of an overrun slice (R29) is checked for its
length as any other line of a STORED frame is (DESIGN CHOICE, notes/assumptions/63.md). -/
def laterLine (l : Lane) (x : Line) (s : State) : State :=
  match s.lanes[l].frame with
  | some f =>
    if f.disposition = .stored then
      if s.lanes[l].prev = some x.number then s.bump ctrOutOfOrder 1
      else if fits x f.format then setPrev l x (placeLine l f x s)
      else wrongLength l s
    else setPrev l x s
  | none => setPrev l x s

/-- R21: a line that begins a frame, in ACQUIRE or CODING. -/
def firstLine (l : Lane) (x : Line) (s : State) : State :=
  let c := s.lanes[l]
  if fits x (c.held.getD c.format) then
    setPrev l x (frameStart l x (s.modLane l (fun c => { c with state := .coding })))
  else wrongLength l s

/-- R32: the stall of a lane whose idle ticks have reached two. -/
def settleStall (l : Lane) (s : State) : State :=
  if s.lanes[l].idle < 2 then s
  else
    match s.lanes[l].state with
    | .coding =>
      ((endFrame l s).modLane l (fun c =>
        { c with state := .stalled, idle := 0, rate := { c.rate with rate := 0 } })).count ctrLaneStalls .laneStalled l.val
    | .draining => endFrame l (s.modLane l (fun c => { c with idle := 0 }))
    | .off | .acquire | .stalled => s

/-- R21: the coder acts on a line. -/
def actOnLine (l : Lane) (x : Line) (s : State) : State :=
  let c := s.lanes[l]
  match c.state with
  | .off => s
  | .acquire => if beginsFrame c.prev x then firstLine l x s else setPrev l x s
  | .coding => if beginsFrame c.prev x then firstLine l x s else laterLine l x s
  | .stalled =>
    let s1 := s.modLane l (fun c => { c with state := .acquire, keyReq := true, prev := none })
    if x.start then firstLine l x s1 else setPrev l x s1
  | .draining => if beginsFrame c.prev x then setPrev l x (endFrame l s) else laterLine l x s

/-- R21: the coder takes a line; each line taken sets the idle ticks to 0. A stall that is due comes first
(notes/assumptions/11.md). -/
def takeLine (l : Lane) (x : Line) (s : State) : State :=
  maybeOff l (actOnLine l x ((settleStall l s).modLane l (fun c => { c with idle := 0 })))

/-- R9: the coder takes lines from the front of the intake buffer until one is being placed. -/
def pumpLines (l : Lane) : Nat → State → State
  | 0, s => s
  | n + 1, s =>
    if s.lanes[l].placing.isSome then s
    else
      match s.port.video[l].lines with
      | [] => s
      | x :: rest => pumpLines l n (takeLine l x (s.setVideo l { s.port.video[l] with lines := rest }))

def pump (l : Lane) (s : State) : State := pumpLines l s.port.video[l].lines.length s

/-- LINE_PLACED (R9, R26): the placing ends, and the coder takes the next line. -/
def linePlaced (l : Lane) (s : State) : State :=
  match s.lanes[l].placing with
  | none => s
  | some p =>
    let s1 := s.modLane l (fun c => { c with placing := none })
    let s2 := match s1.lanes[l].frame with
      | some f =>
        if f.disposition = .stored && decide (f.tick = p.tick) && decide (p.number / 16 = f.next) then readyAfter l p.number s1
        else s1
      | none => s1
    pump l (maybeOff l s2)

/-- SLICE_CODED (R28): the engine ends the slice with its coded bytes. -/
def sliceCoded (l : Lane) (bytes : List Byte) (s : State) : State :=
  match s.lanes[l].engine with
  | none => s
  | some j => maybeOff l (startEngine l 3 (sliceEnds l j.buffer ⟨.coded, some j.q, bytes.length, bytes⟩ s))

/-- R28: the width of the frame whose slice the engine codes: a line of the slice is two bytes a pixel. -/
def codingWidth (c : LaneCoder) : Nat :=
  match c.engine with
  | none => 0
  | some j => match c.buffers[j.buffer].lines.head? with | some x => x.2.length / 2 | none => 0

/-- LANE_STALL (R32). -/
def laneStall (l : Lane) (s : State) : State := maybeOff l (settleStall l s)

/-! ## Directives of the lane coders (R20, R25, R33, R35, R36) -/

/-- R20: LSTA. -/
def actLsta (ws : List Word) (s : State) : Answer :=
  match finOf 6 (wordAt ws 0) with
  | none => refuse s .range
  | some l =>
    if s.lanes[l].state = .off then
      success ((s.modLane l (fun c =>
        { c with state := .acquire, keyReq := true, delta := 0, lastTick := none, prev := none, fill := none, idle := 0
                 rate := rateStart c.rate })).setVideo l emptyVideo)
    else refuse s .state

/-- R33: LSTP. -/
def actLstp (ws : List Word) (s : State) : Answer :=
  match finOf 6 (wordAt ws 0) with
  | none => refuse s .range
  | some l =>
    if s.lanes[l].state = .off then refuse s .state
    else success (maybeOff l (s.modLane l (fun c => { c with state := .draining, rate := { c.rate with rate := 0 } })))

/-- R35: LFMT. -/
def actLfmt (ws : List Word) (s : State) : Answer :=
  let f : Format := ⟨wordAt ws 1, wordAt ws 2, wordAt ws 3⟩
  match finOf 6 (wordAt ws 0) with
  | none => refuse s .range
  | some l =>
    if 64 ≤ f.width && f.width ≤ 1920 && f.width % 16 == 0 && 16 ≤ f.lines && f.lines ≤ 1088 && 1 ≤ f.keyInterval
        && f.keyInterval ≤ 255 then
      success (s.modLane l (fun c => if c.state = .off then { c with format := f } else { c with held := some f }))
    else refuse s .range

/-- R25: LKEY. -/
def actLkey (ws : List Word) (s : State) : Answer :=
  match finOf 6 (wordAt ws 0) with
  | none => refuse s .range
  | some l => if s.lanes[l].state = .off then refuse s .state else success (s.requestKey l)

/-- R36: what RDLN gives of a lane. -/
def laneReport (s : State) (l : Lane) : LaneReport :=
  let c := s.lanes[l]
  let r := c.rate
  { state := c.state, format := c.format, held := c.held, keyReq := c.keyReq, delta := c.delta, lastTick := c.lastTick
    frame := c.frame.map (fun f => (f.tick, f.disposition, f.kind, f.tally, f.next)), passFill := c.pass.length
    buffers := mapVec (fun _ b => b.state) c.buffers, settings := r.settings, heldRate := r.held, wOn := r.wOn
    wOff := r.wOff, fullness := r.fullness, midpoint := midpoint r, q := r.q, force := r.force, tallyOn := r.tallyOn
    rate := r.rate, capacity := r.capacity, allots := r.allots.map (fun a => (a.kind, a.n, a.bf, a.t))
    labelRes := s.asm.labelReserve, clipRes := s.asm.clipReserve }

/-- R36: RDLN. -/
def actRdln (ws : List Word) (s : State) : Answer :=
  match finOf 6 (wordAt ws 0) with
  | none => refuse s .range
  | some l => reply s (.lane (laneReport s l))

/-! ## The commands of the lane coders -/

/-- LINE_PLACED (R9). -/
def execLinePlaced (l : Lane) (s : State) : Host.Outcome State Fault Refusal := live s (fun s => kick (linePlaced l s))

/-- SLICE_CODED (R28): a coded size outside the range of R28 is no event of a busy engine. -/
def execSliceCoded (l : Lane) (bytes : List Byte) (s : State) : Host.Outcome State Fault Refusal :=
  if s.power && s.lanes[l].engine.isSome && (decide (bytes.length < 32) || decide (codingWidth s.lanes[l] * 48 < bytes.length))
  then .fault .codedSize
  else live s (sliceCoded l bytes)

/-- LANE_STALL (R32). -/
def execLaneStall (l : Lane) (s : State) : Host.Outcome State Fault Refusal := live s (laneStall l)

/-- LSTA (R20). -/
def execLsta (d : Directive) (s : State) : Host.Outcome State Fault Refusal := live s (takeDirective .lsta d actLsta)

/-- LSTP (R33). -/
def execLstp (d : Directive) (s : State) : Host.Outcome State Fault Refusal := live s (takeDirective .lstp d actLstp)

/-- LFMT (R35). -/
def execLfmt (d : Directive) (s : State) : Host.Outcome State Fault Refusal := live s (takeDirective .lfmt d actLfmt)

/-- LKEY (R25). -/
def execLkey (d : Directive) (s : State) : Host.Outcome State Fault Refusal := live s (takeDirective .lkey d actLkey)

/-- RDLN (R36). -/
def execRdln (d : Directive) (s : State) : Host.Outcome State Fault Refusal := live s (takeDirective .rdln d actRdln)

end Sys2Proof.Machine
end

