-- ==== Sys2Proof/Machine/Port.lean ====
section
/-! DEFINITION. The fabric port (chapter 1): the checks of an arriving frame, video and audio intake, the transmitter. -/

namespace Sys2Proof.Machine

/-! ## The sequence check (R5, R6) -/

/-- What the sequence check makes of a packet. -/
inductive SeqVerdict where
  | inOrder
  | gap (missing : Nat)
  | lateTaken
  | lateDropped
deriving DecidableEq, Repr

/-- R6: the verdict on a packet; on lane 63 (`mgmt`) the first late packet is taken. -/
def seqVerdict (mgmt : Bool) (v : SeqState) (seq : Half) : SeqVerdict :=
  match v.expect with
  | none => .inOrder
  | some e =>
    let d := (seq - e).toNat
    if d = 0 then .inOrder
    else if d < 32768 then .gap d
    else if mgmt || decide (8 ≤ v.late + 1) then .lateTaken
    else .lateDropped

/-- R6: the sequence state after a packet. -/
def seqAfter (v : SeqState) (seq : Half) : SeqVerdict → SeqState
  | .lateDropped => { v with late := v.late + 1 }
  | .inOrder | .gap _ | .lateTaken => ⟨some (seq + 1), 0⟩

/-- R6: the counts and the event of a verdict. -/
def seqCounts (lane : Nat) (v : SeqVerdict) (s : State) : State :=
  match v with
  | .inOrder => s
  | .gap d => (s.bump ctrLaneGaps d).latch .laneGap lane
  | .lateTaken | .lateDropped => s.count ctrLateLane .laneGap lane

/-- R6: the packet goes on to the length check. -/
def goesOn (v : SeqVerdict) : Bool := decide (v ≠ .lateDropped)

/-! ## Video intake (R7 to R10) -/

/-- R8: the applicable format of a line. -/
def applicableFormat (c : LaneCoder) (v : VideoIntake) (x : Line) : Format :=
  let now := c.held.getD c.format
  if beginsFrame v.prevHanded x then now else v.frameFormat.getD now

/-- R7: a video packet passes the length check. -/
def videoLengthOk (f : Format) (p : LanePacket) : Bool :=
  p.kind == 1 && decide (p.number < f.lines) && p.payload.isSome && p.length == 2 * f.width

/-- R8, R9: the line is handed on into the intake buffer. -/
def handLine (v : VideoIntake) (f : Format) (x : Line) : VideoIntake :=
  { v with
    lines := v.lines ++ [x], prevHanded := some x.number
    frameFormat := if beginsFrame v.prevHanded x then some f else v.frameFormat }

/-- R7 to R10: a packet on a video lane. The test for OFF and the sequence check come before a stall that is due, which
the coder settles when it takes the line (DESIGN CHOICE, notes/assumptions/61.md). -/
def videoPacket (l : Lane) (p : LanePacket) (s : State) : State :=
  if s.lanes[l].state = .off then s.bump ctrIdleLane 1
  else
    let v := s.port.video[l]
    let verdict := seqVerdict false v.seq p.seq
    let v1 := { v with seq := seqAfter v.seq p.seq verdict }
    let s1 := seqCounts l.val verdict (s.setVideo l v1)
    if !goesOn verdict then s1
    else
      let x : Line := ⟨p.number, p.extra != 0, p.payload.getD []⟩
      let f := applicableFormat s.lanes[l] v1 x
      if !videoLengthOk f p then s1.count ctrLaneLength .laneLength l.val
      else if 32 ≤ v1.lines.length then s1.count ctrLaneOverruns .laneOverrun l.val
      else pump l (s1.setVideo l (handLine v1 f x))

/-! ## Audio intake (R7, R12) -/

/-- R7: an audio packet passes the length check. -/
def audioLengthOk (p : LanePacket) : Bool :=
  let n := p.extra.toNat
  p.kind == 2 && 1 ≤ n && n ≤ 4 && p.payload.isSome && p.length == n * 1152

/-- The blocks of a packet: `n` of them, 1,152 bytes each. -/
def blocksOf : Nat → List Byte → List (List Sample)
  | 0, _ => []
  | n + 1, l => samplesOf (l.take 1152) :: blocksOf n (l.drop 1152)

/-- R7, R12: a packet on audio lane 8 + k. -/
def audioPacket (k : Fin 4) (p : LanePacket) (s : State) : State :=
  let v := s.port.audio[k]
  let verdict := seqVerdict false v.seq p.seq
  let v1 := { v with seq := seqAfter v.seq p.seq verdict }
  let s1 := seqCounts (8 + k.val) verdict (s.setAudio k v1)
  if !goesOn verdict then s1
  else if !audioLengthOk p then s1.count ctrLaneLength .laneLength (8 + k.val)
  else if 4 < v1.blocks.length + p.extra.toNat then s1.count ctrLaneOverruns .laneOverrun (8 + k.val)
  else s1.setAudio k { v1 with blocks := v1.blocks ++ blocksOf p.extra.toNat (p.payload.getD []) }

/-! ## The management lane (R7, R14) -/

/-- R7: a packet on lane 63 passes the length check. -/
def mgmtLengthOk (p : LanePacket) : Bool := p.kind == 4 && p.payload.isSome && decide (8 ≤ p.length)

/-- R7, R14: a packet on lane 63. Its directive arrives, and is taken by its own command (DESIGN CHOICE,
notes/assumptions/8.md). -/
def mgmtPacket (p : LanePacket) (s : State) : State :=
  let verdict := seqVerdict true s.port.mgmt p.seq
  let s1 := seqCounts 63 verdict (s.withPort { s.port with mgmt := seqAfter s.port.mgmt p.seq verdict })
  if !mgmtLengthOk p then s1.count ctrLaneLength .laneLength 63
  else arrive (parseDirective .van (p.payload.getD [])) s1

/-! ## A received frame (R3, R4) -/

/-- R3: the frame is a lane packet for this processor. -/
def isLanePacket (station : Byte) (f : EthFrame) : Bool :=
  f.fcsOk && f.etherType == lanePacketType && decide (12 ≤ f.payload.length) && decide (f.payload.length ≤ 9000)
    && (byteAt f.payload 0 == station || byteAt f.payload 0 == 255)

/-- R2, R4: a lane packet goes to its lane. -/
def lanePacket (p : LanePacket) (s : State) : State :=
  match finOf 6 p.lane, finOf 4 (p.lane - 8) with
  | some l, _ => videoPacket l p s
  | none, some k => if 8 ≤ p.lane then audioPacket k p s else s.bump ctrUnknownLane 1
  | none, none => if p.lane = 63 then mgmtPacket p s else s.bump ctrUnknownLane 1

/-- FRAME_RECEIVED (R3). -/
def frameReceived (f : EthFrame) (s : State) : State :=
  if isLanePacket s.port.station f then lanePacket (parseLanePacket f.payload) s else s.bump ctrForeign 1

/-! ## The transmitter (R16, R17) -/

/-- R16: the front packet of the egress queue departs, and a held response enters the back. -/
def egressDeparts (x : EgressPacket) (rest : List EgressPacket) (p : FabricPort) : FabricPort :=
  { p with
    sent := some (egressBytes p.station p.mgmtSeq x), mgmtSeq := p.mgmtSeq + 1, held := none
    egress := match p.held with | some r => rest ++ [.response r] | none => rest }

/-- R17: what leaves when the transmitter is free: the bus packet first. A transmitter that finds nothing waiting is
forgotten: what becomes ready later waits for the next TRANSMITTER_FREE (DESIGN CHOICE, notes/assumptions/60.md). -/
def transmit (p : FabricPort) : FabricPort :=
  match p.bus, p.egress with
  | some b, _ => { p with sent := some (busBytes p.station b), bus := none }
  | none, x :: rest => egressDeparts x rest p
  | none, [] => p

/-- TRANSMITTER_FREE (R17). The departure that ends a held response takes no directive: the taking of the next front
directive (R176) is that directive's own command (DESIGN CHOICE, notes/assumptions/8.md). -/
def transmitterFree (s : State) : State := s.withPort (transmit s.port)

/-- R15, R17: the bus packet of a block is built; one that has not begun to leave is replaced and counted, and its
sequence number goes to the packet that replaces it (notes/assumptions/17.md). -/
def buildBusPacket (block : Nat) (samples : List Sample) (s : State) : State :=
  match s.port.bus with
  | some b => (s.withPort { s.port with bus := some ⟨b.seq, block, samples⟩ }).bump ctrBusLost 1
  | none => s.withPort { s.port with bus := some ⟨s.port.busSeq, block, samples⟩, busSeq := s.port.busSeq + 1 }

/-- FRAME_RECEIVED (R3). -/
def execFrameReceived (f : EthFrame) (s : State) : Host.Outcome State Fault Refusal :=
  live s (fun s => kick (frameReceived f s))

/-- TRANSMITTER_FREE (R17). -/
def execTransmitterFree (s : State) : Host.Outcome State Fault Refusal := live s transmitterFree

end Sys2Proof.Machine
end

