-- ==== Sys2Proof/Machine/Paths.lean ====
section
/-! DEFINITION. The path controllers (chapter 6): the states of a path, the offer and the exchange, failure, far restart,
holds, and the line. -/

namespace Sys2Proof.Machine

/-! ## Redispatch (R104, R116, R121) -/

/-- R121: a cell arrives at the back of the redispatch list, or is dropped at a full one. -/
def redispatchCell (c : Cell) (s : State) : State :=
  let s1 := settleRedispatch s
  if s1.asm.redispatch.length < 512 then
    settleRedispatch (s1.withAsm { s1.asm with redispatch := s1.asm.redispatch ++ [c] })
  else s1.bump ctrRedispatchDropped 1

/-- R116: the open state of a queue after a departure or a redispatch. -/
def openAfterFall (s : State) (p : PathNo) : State :=
  if s.paths[p].queue.length ≤ s.asm.marks[p].low then s.withAsm { s.asm with opened := s.asm.opened.set p true } else s

/-- R104: the path's queued cells are redispatched, front first. -/
def redispatchPath (p : PathNo) (s : State) : State :=
  let cells := s.paths[p].queue
  let s1 := s.modPath p (fun c => { c with queue := [] })
  openAfterFall (cells.foldl (fun s c => redispatchCell c s) s1) p

/-! ## Entering states (R93 to R95, R100, R101) -/

/-- R91: the path carries traffic. -/
def carries (c : PathCtl) : Bool := decide (c.state = .up) || decide (c.state = .held)

/-- R91: the path is label-only. -/
def labelOnly (c : PathCtl) : Bool :=
  c.settings.labelOnly || c.extras.labelOnly || (match c.farOffer with | some w => w.labelOnly | none => false)

/-- R119: the count of paths up falls when a path that carries traffic leaves UP and HELD. -/
def leaveTraffic (p : PathNo) (s : State) : State := if carries s.paths[p] then pathsUpFall s else s

/-- No far extras (R91). -/
def noExtras : FarExtras := ⟨none, false, false⟩

/-- R93: what PDIS empties and stops, less the send queue; the path sequence becomes 0 (R105). -/
def stopPath (st : PathState) (c : PathCtl) : PathCtl :=
  { c with state := st, slot := none, timer := none, pacer := none, holdTimer := none, farOffer := none, agreed := none
           extras := noExtras, ownAck := false, ownFault := false, lastRound := none, seq := 0 }

/-- R93, R94: the path enters DISABLED or DOWN, emptied and stopped. -/
def emptyPath (p : PathNo) (st : PathState) (s : State) : State :=
  let s1 := leaveTraffic p s
  redispatchPath p (s1.modPath p (stopPath st))

/-- R95: the offer word the path sends. -/
def ownOffer (c : PathCtl) : OfferWord :=
  { holdCap := c.settings.holdCap, labelOnly := c.settings.labelOnly, more := false, ack := c.ownAck
    channels := c.settings.channels, fault := if c.ownFault then 3 else 0, rate := c.settings.rate }

/-- R98: the path's NULL word with a toggle. -/
def nullWord (toggle : Bool) : ExtraWord := ⟨toggle, false, 0, 0⟩

/-- R95, R99: the path enters OFFER at a sample. -/
def enterOffer (clock : Nat) (c : PathCtl) : PathCtl :=
  let c1 := { c with
    state := .offer, ownAck := false, run := 0, farOffer := none, farFault := 0, extras := noExtras, lastRound := none
    timer := (match c.timer with | some t => some t | none => some (clock + msSamples 1000))
    pacer := some (clock + msSamples 10) }
  { c1 with slot := some (.offer (ownOffer c1)) }

/-- R100: the controller's part of entering UP. A HANDSHAKE word that still waits in the control slot stays there and
departs in UP (DESIGN CHOICE, notes/assumptions/83.md). -/
def upPath (c : PathCtl) : PathCtl :=
  let c1 := { c with state := .up, timer := none, pacer := none, retry := 0, ownFault := false }
  if c.settings.fixed then { c1 with agreed := some c.settings.rate, agreedHold := c.settings.holdCap, extras := noExtras }
  else c1

/-- R100, R99: the path enters UP. PATH_UP comes before PATH_FORMAT, which no rule orders (DESIGN CHOICE,
notes/assumptions/75.md). -/
def enterUp (p : PathNo) (s : State) : State :=
  let s1 := (s.modPath p upPath).count ctrPathUps .pathUp p.val
  pathsUpRise (if s1.paths[p].extras.mismatch then s1.latch .pathFormat p.val else s1)

/-- R94: a path in DOWN with its carrier present leaves DOWN at once. -/
def leaveDown (p : PathNo) (s : State) : State :=
  let c := s.paths[p]
  if c.state = .down ∧ c.carrier then
    (if c.settings.fixed then enterUp p s else s.modPath p (enterOffer s.ref.clock))
  else s

/-- R101: the attempt has failed; `rate` says that it failed on its rate. -/
def attemptFailed (p : PathNo) (rate : Bool) (s : State) : State :=
  let s1 := (s.modPath p (fun c => { c with retry := c.retry + 1 })).bump ctrHandshakeFailures 1
  let c := s1.paths[p]
  if c.retry = c.settings.retryLimit then
    (s1.modPath p (fun c =>
      { c with state := .failed, pacer := none, timer := none, slot := none, ownFault := rate && c.ownFault })).count
      ctrPathFailures .pathFailed p.val
  else
    s1.modPath p (fun c =>
      enterOffer s.ref.clock { c with timer := some (s.ref.clock + msSamples 1000), ownFault := rate })

/-! ## Handshake words (R96 to R99, R102) -/

/-- R96: two offer words have the same content, their acks left aside. -/
def sameContent (a b : OfferWord) : Bool := decide ({ a with ack := false } = { b with ack := false })

/-- R99: an accepted extra word acts by its code. -/
def actOnCode (w : ExtraWord) (c : PathCtl) : PathCtl :=
  match w.code with
  | 1 => { c with extras := { c.extras with latency := some (max 1 w.value) } }
  | 2 => { c with extras := { c.extras with mismatch := decide (w.value ≠ c.settings.channels) } }
  | 3 =>
    match boolOf w.value with
    | some b => { c with extras := { c.extras with labelOnly := b } }
    | none => c
  | _ => c

/-- R98: a far extra word in EXCHANGE. At a flip the word waiting in the control slot stays as it is; the next one
placed carries the new toggle (DESIGN CHOICE, notes/assumptions/68.md). -/
def extraInExchange (p : PathNo) (w : ExtraWord) (s : State) : State :=
  if w.toggle = s.paths[p].toggle then
    let s1 := s.modPath p (fun c => { actOnCode w c with lastRound := some w.toggle })
    let s2 := if 3 < w.code then s1.bump ctrHandshakeDiscarded 1 else s1
    if w.more then s2.modPath p (fun c => { c with toggle := !c.toggle }) else enterUp p s2
  else s.modPath p (fun c => { c with slot := some (.extra (nullWord w.toggle)) })

/-- R97: the offer completes; the extra word that completes it, if one does. An offer that fails on its rate leaves the
agreed hold as it was (DESIGN CHOICE, notes/assumptions/67.md). An own offer word that still waits in the control slot at
entry to EXCHANGE stays there and departs in EXCHANGE, unless another word replaces it (DESIGN CHOICE,
notes/assumptions/89.md). -/
def offerComplete (p : PathNo) (far : OfferWord) (extra : Option ExtraWord) (s : State) : State :=
  let rate := min s.paths[p].settings.rate far.rate
  if rate < 64 then attemptFailed p true s
  else
    let s1 := s.modPath p (fun c => { c with agreed := some rate, agreedHold := c.settings.holdCap && far.holdCap })
    if far.more || extra.isSome then
      let s2 := s1.modPath p (fun c => { c with state := .exchange, toggle := false, lastRound := none })
      match extra with
      | some w => extraInExchange p w s2
      | none => s2
    else enterUp p s1

/-- R96: a far offer word in OFFER. A fault byte that R187 does not list is a fault like the others, and is held as it
came (DESIGN CHOICE, notes/assumptions/66.md). An own offer word that waits in the control slot keeps the own ack of its
placing when own ack changes (R95; DESIGN CHOICE, notes/assumptions/84.md). -/
def offerInOffer (p : PathNo) (w : OfferWord) (s : State) : State :=
  let c := s.paths[p]
  if w.fault ≠ 0 then
    s.modPath p (fun c => { c with farFault := w.fault, run := 0, ownAck := false, farOffer := some w })
  else if c.farOffer.any (sameContent w) then
    let run := min 3 (c.run + 1)
    let s1 := s.modPath p (fun c => { c with run := run, ownAck := c.ownAck || decide (run = 3), farOffer := some w })
    if c.ownAck && w.ack then offerComplete p w none s1 else s1
  else s.modPath p (fun c => { c with farOffer := some w, run := 1, farFault := 0, ownAck := false })

/-- R96, R97: a far extra word in OFFER. -/
def extraInOffer (p : PathNo) (w : ExtraWord) (s : State) : State :=
  match s.paths[p].ownAck, s.paths[p].farOffer with
  | true, some far => offerComplete p far (some w) s
  | _, _ => s.bump ctrHandshakeDiscarded 1

/-- R102: the far end has restarted: the path returns to OFFER. The far restarts counter rises here, before the word is
weighed or discarded in OFFER (DESIGN CHOICE, notes/assumptions/88.md), and after the redispatch (DESIGN CHOICE,
notes/assumptions/90.md). -/
def farRestart (p : PathNo) (s : State) : State :=
  let s1 := redispatchPath p (leaveTraffic p s)
  (s1.modPath p (fun c => enterOffer s.ref.clock { c with holdTimer := none, retry := 0, timer := none })).bump
    ctrFarRestarts 1

/-- R96, R98, R102: a far offer word by the state of the path. -/
def takeOffer (p : PathNo) (w : OfferWord) (s : State) : State :=
  let c := s.paths[p]
  match c.state with
  | .offer => offerInOffer p w s
  | .exchange =>
    if w.ack then s else offerInOffer p w (s.modPath p (enterOffer s.ref.clock))
  | .up | .held =>
    if w.ack && c.farOffer.any (sameContent w) then
      s.modPath p (fun c => { c with slot := some (.offer { ownOffer c with ack := true }) })
    else offerInOffer p w (farRestart p s)
  | .disabled | .down | .failed => s

/-- R96, R98, R102: a far extra word by the state of the path. At a far restart the far restarts counter rises before the
handshake words discarded counter, an order that R102 leaves open (DESIGN CHOICE, notes/assumptions/88.md). -/
def takeExtra (p : PathNo) (w : ExtraWord) (s : State) : State :=
  let c := s.paths[p]
  match c.state with
  | .offer => extraInOffer p w s
  | .exchange => extraInExchange p w s
  | .up | .held =>
    if c.lastRound = some w.toggle then s.modPath p (fun c => { c with slot := some (.extra (nullWord w.toggle)) })
    else extraInOffer p w (farRestart p s)
  | .disabled | .down | .failed => s

/-- R102, R106, R187: a HANDSHAKE cell. -/
def handshakeCell (p : PathNo) (payload : List Byte) (s : State) : State :=
  let c := s.paths[p]
  if c.settings.fixed || decide (c.state = .down) then s.bump ctrHandshakeDiscarded 1
  else if byteAt payload 0 = 1 then takeOffer p (parseOffer payload) s
  else if byteAt payload 0 = 2 then takeExtra p (parseExtra payload) s
  else s.bump ctrHandshakeDiscarded 1

/-! ## Holds (R103, R104) -/

/-- R103: a HOLD cell with a hold time. A return from HELD to UP is no entry at which a format mismatch is latched again
(DESIGN CHOICE, notes/assumptions/74.md). PATH_HELD is latched before the redispatch and what that drops, an order that
R103 leaves open (DESIGN CHOICE, notes/assumptions/90.md). -/
def holdCell (p : PathNo) (t : Nat) (s : State) : State :=
  let c := s.paths[p]
  if !c.agreedHold || !carries c then s.bump ctrHoldsIgnored 1
  else if t = 0 then s.modPath p (fun c => { c with state := .up, holdTimer := none })
  else
    let s1 := s.modPath p (fun c => { c with state := .held, holdTimer := some (s.ref.clock + msSamples t) })
    let s2 := if c.state = .up then s1.latch .pathHeld p.val else s1
    if 100 ≤ t then redispatchPath p s2 else s2

/-! ## The events of a path -/

/-- CARRIER_PRESENT (R94). -/
def carrierPresent (p : PathNo) (s : State) : State := leaveDown p (s.modPath p (fun c => { c with carrier := true }))

/-- CARRIER_LOST (R94). The redispatch comes before the count and PATH_DOWN (DESIGN CHOICE, notes/assumptions/90.md). -/
def carrierLost (p : PathNo) (s : State) : State :=
  let s1 := s.modPath p (fun c => { c with carrier := false })
  match s.paths[p].state with
  | .offer | .exchange | .up | .held => (emptyPath p .down s1).count ctrPathDowns .pathDown p.val
  | .disabled | .down | .failed => s1

/-- OFFER_PACER (R95, R98): a period of the pacer. -/
def offerPacer (p : PathNo) (s : State) : State :=
  match s.paths[p].pacer with
  | none => s
  | some t =>
    (s.advanceTo t).modPath p (fun c =>
      { c with
        pacer := some (t + msSamples 10)
        slot := match c.state with
          | .offer => some (.offer (ownOffer c))
          | .exchange => some (.extra (nullWord c.toggle))
          | _ => c.slot })

/-- HANDSHAKE_TIMER_EXPIRY (R101). -/
def handshakeTimerExpiry (p : PathNo) (s : State) : State :=
  match s.paths[p].timer with
  | none => s
  | some t =>
    if s.paths[p].state = .offer ∨ s.paths[p].state = .exchange then attemptFailed p false (s.advanceTo t) else s

/-- HOLD_TIMER_EXPIRY (R104). A return from HELD to UP is no entry at which a format mismatch is latched again (DESIGN
CHOICE, notes/assumptions/74.md). -/
def holdTimerExpiry (p : PathNo) (s : State) : State :=
  match s.paths[p].holdTimer with
  | none => s
  | some t =>
    if s.paths[p].state = .held then
      (s.advanceTo t).modPath p (fun c => { c with state := .up, holdTimer := none })
    else s

/-- R105: a cell departs on the line. -/
def depart (x : Cell) (c : PathCtl) : PathCtl := { c with sent := some (cellBytes x c.seq), seq := c.seq + 1 }

/-- LINE_READY (R105): the controller gives the line one cell, chosen by the path state. A readiness at which the line
takes nothing is not kept for a cell that comes later (DESIGN CHOICE, notes/assumptions/76.md). -/
def lineReady (p : PathNo) (s : State) : State :=
  let c := s.paths[p]
  match c.state, c.slot, c.queue with
  | .disabled, _, _ | .down, _, _ | .failed, _, _ => s
  | _, some x, _ => s.modPath p (fun c => depart (slotCell x) { c with slot := none })
  | .up, none, x :: rest => openAfterFall (s.modPath p (fun c => depart x { c with queue := rest })) p
  | .held, none, _ => s
  | _, none, _ => s.modPath p (depart (plainCell .fill []))

/-! ## Directives of the path controllers (R92, R93) -/

/-- R92: the settings that PATH's words give, when they are in range. -/
def pathSettingsOf (ws : List Word) : Option PathSettings :=
  match boolOf (wordAt ws 1), boolOf (wordAt ws 3), boolOf (wordAt ws 5) with
  | some fixed, some hold, some label =>
    let rate := wordAt ws 2
    let ch := wordAt ws 4
    let limit := wordAt ws 6
    if 64 ≤ rate && rate ≤ 200000 && (ch == 1 || ch == 2 || ch == 4) && 1 ≤ limit && limit ≤ 15 then
      some ⟨fixed, rate, hold, ch, label, limit⟩
    else none
  | _, _, _ => none

/-- R92: PATH. -/
def actPath (ws : List Word) (s : State) : Answer :=
  match finOf 4 (wordAt ws 0), pathSettingsOf ws with
  | some p, some st =>
    if s.paths[p].state = .disabled then success (s.modPath p (fun c => { c with settings := st })) else refuse s .state
  | _, _ => refuse s .range

/-- R93: PENA. -/
def actPena (ws : List Word) (s : State) : Answer :=
  match finOf 4 (wordAt ws 0) with
  | none => refuse s .range
  | some p =>
    if s.paths[p].state = .disabled then
      success (leaveDown p (s.modPath p (fun c => { c with state := .down, retry := 0, seq := 0 })))
    else refuse s .state

/-- R93: PDIS. -/
def actPdis (ws : List Word) (s : State) : Answer :=
  match finOf 4 (wordAt ws 0) with
  | none => refuse s .range
  | some p => success (if s.paths[p].state = .disabled then s else emptyPath p .disabled s)

/-- R93: PRST. -/
def actPrst (ws : List Word) (s : State) : Answer :=
  match finOf 4 (wordAt ws 0) with
  | none => refuse s .range
  | some p =>
    if s.paths[p].state = .disabled then refuse s .state
    else success (leaveDown p ((emptyPath p .down s).modPath p (fun c => { c with retry := 0 })))

/-! ## The commands of the path controllers -/

/-- CARRIER_PRESENT (R94): the line's status stands outside the processor, so it changes without power too. -/
def execCarrierPresent (p : PathNo) (s : State) : Host.Outcome State Fault Refusal :=
  .next (if s.power then carrierPresent p s else s.modPath p (fun c => { c with carrier := true }))

/-- CARRIER_LOST (R94). -/
def execCarrierLost (p : PathNo) (s : State) : Host.Outcome State Fault Refusal :=
  .next (if s.power then carrierLost p s else s.modPath p (fun c => { c with carrier := false }))

/-- OFFER_PACER (R95, R98). -/
def execOfferPacer (p : PathNo) (s : State) : Host.Outcome State Fault Refusal := live s (offerPacer p)

/-- HANDSHAKE_TIMER_EXPIRY (R101). -/
def execHandshakeTimerExpiry (p : PathNo) (s : State) : Host.Outcome State Fault Refusal :=
  live s (handshakeTimerExpiry p)

/-- HOLD_TIMER_EXPIRY (R104). -/
def execHoldTimerExpiry (p : PathNo) (s : State) : Host.Outcome State Fault Refusal := live s (holdTimerExpiry p)

/-- LINE_READY (R105). -/
def execLineReady (p : PathNo) (s : State) : Host.Outcome State Fault Refusal := live s (lineReady p)

/-- PATH (R92). -/
def execPath (d : Directive) (s : State) : Host.Outcome State Fault Refusal := live s (takeDirective .path d actPath)

/-- PENA (R93). -/
def execPena (d : Directive) (s : State) : Host.Outcome State Fault Refusal := live s (takeDirective .pena d actPena)

/-- PDIS (R93). -/
def execPdis (d : Directive) (s : State) : Host.Outcome State Fault Refusal := live s (takeDirective .pdis d actPdis)

/-- PRST (R93). -/
def execPrst (d : Directive) (s : State) : Host.Outcome State Fault Refusal := live s (takeDirective .prst d actPrst)

end Sys2Proof.Machine
end

