-- ==== Sys2Proof/Machine/Return.lean ====
section
/-! DEFINITION. The return receiver (R108 to R111), and the cells received from a line (R106, R107). -/

namespace Sys2Proof.Machine

/-! ## Own holds (R111) -/

/-- R111: a HOLD word on every path that carries traffic and has its agreed hold set. -/
def placeHolds (ms : Nat) (s : State) : State :=
  s.withPaths (mapVec (fun _ c => if carries c && c.agreedHold then { c with slot := some (.hold ms) } else c) s.paths)

/-- R111: an insertion raises the queue to forty-eight. -/
def highMark (s : State) : State :=
  if s.ret.queue.length = 48 ∧ !s.ret.holdSent then
    let s1 := placeHolds s.ret.holdMs s
    s1.withRet { s1.ret with holdSent := true }
  else s

/-- R111: a removal lowers the queue to sixteen. -/
def lowMark (s : State) : State :=
  if s.ret.queue.length = 16 ∧ s.ret.holdSent then
    let s1 := if s.ret.endHold then placeHolds 0 s else s
    s1.withRet { s1.ret with holdSent := false }
  else s

/-! ## Arrivals (R109) -/

/-- R109: a cell that is not late: duplicate, full, or inserted. -/
def insertReturn (x : RetCell) (s : State) : State :=
  if s.ret.queue.any (fun c => decide (c.seq = x.seq)) then s.bump ctrReturnDuplicate 1
  else if 64 ≤ s.ret.queue.length then s.count ctrReturnOverruns .returnOverrun 0
  else
    highMark (s.withRet { s.ret with
      queue := insertSorted (fun a b => earlier a.seq b.seq) x s.ret.queue, lateRun := 0 })

/-- R109: the cell has been played, or passed over as a gap. -/
def isLate (r : ReturnReceiver) (x : RetCell) : Bool :=
  match r.lastPlayed with
  | some t => !later x.seq t
  | none => false

/-- R109: a RETURN_AUDIO cell reaches the receiver. -/
def returnArrival (x : RetCell) (s : State) : State :=
  if isLate s.ret x then
    let s1 := s.bump ctrReturnLate 1
    if s.ret.playing then s1
    else if s.ret.lateRun + 1 < 16 then s1.withRet { s1.ret with lateRun := s1.ret.lateRun + 1 }
    else insertReturn x (s1.withRet { s1.ret with lastPlayed := none, lateRun := 0 })
  else insertReturn x s

/-! ## Playout (R110) -/

/-- R110: the front cell of the queue becomes the current cell. -/
def takeFrontCell (x : RetCell) (rest : List RetCell) (s : State) : State :=
  lowMark (s.withRet { s.ret with queue := rest, current := some ⟨x.samples, 0⟩, lastPlayed := some x.seq })

/-- R110: the receiver needs the next cell. -/
def needCell (s : State) : State :=
  match s.ret.queue with
  | [] =>
    (s.withRet { s.ret with current := none, playing := false }).count ctrReturnUnderruns .returnUnderrun 0
  | x :: rest =>
    match s.ret.lastPlayed with
    | none => takeFrontCell x rest s
    | some t =>
      if x.seq = t + 1 then takeFrontCell x rest s
      else
        (s.withRet { s.ret with
          current := some ⟨List.replicate (80 / s.ret.channels * s.ret.channels) 0, 0⟩
          lastPlayed := some (t + 1) }).count ctrReturnGaps .returnGap 0

/-- R108: a frame of c samples as the four return channels. -/
def fourOf (l : List Sample) : List Sample := [l.getD 0 0, l.getD 1 0, l.getD 2 0, l.getD 3 0]

/-- R110: the current cell is absent or used up. -/
def usedUp (r : ReturnReceiver) : Bool :=
  match r.current with
  | some x => x.samples.isEmpty
  | none => true

/-- R110: `n` sample frames are handed; those after a fall to WAITING are 0. -/
def handFrames : Nat → State → List (List Sample) → State × List (List Sample)
  | 0, s, acc => (s, acc.reverse)
  | n + 1, s, acc =>
    let s1 := if s.ret.playing && usedUp s.ret then needCell s else s
    match s1.ret.playing, s1.ret.current with
    | true, some x =>
      let c := s1.ret.channels
      handFrames n (s1.withRet { s1.ret with current := some ⟨x.samples.drop c, x.pos + 1⟩ })
        (fourOf (x.samples.take c) :: acc)
    | _, _ => handFrames n s1 ([0, 0, 0, 0] :: acc)

/-- R110: from WAITING the receiver enters PLAYING at the start depth, with the front cell whatever its sequence. -/
def enterPlaying (s : State) : State :=
  if s.ret.playing || decide (s.ret.queue.length < s.ret.startDepth) then s
  else
    let s1 := s.withRet { s.ret with playing := true }
    match s1.ret.queue with
    | x :: rest => takeFrontCell x rest s1
    | [] => s1

/-- R110: the forty-eight sample frames of a block request. -/
def returnBlock (s : State) : State × List (List Sample) := handFrames 48 (enterPlaying s) []

/-! ## Cells from a line (R106, R107) -/

/-- R106 step 3: the format test of a RETURN_AUDIO cell, by the path's setting alone, whatever channel count the cell's
own Stream byte gives (DESIGN CHOICE, notes/assumptions/86.md). -/
def returnCell (p : PathNo) (x : InboundCell) (s : State) : State :=
  let c := s.paths[p]
  if c.extras.mismatch || decide (c.settings.channels ≠ s.ret.channels) then s.count ctrReturnFormat .pathFormat p.val
  else returnArrival ⟨x.seq, samplesOf x.payload⟩ s

/-- R107, R187: a DIRECTIVE cell. Its directive arrives, and is taken by its own command (DESIGN CHOICE,
notes/assumptions/8.md). -/
def directiveCell (p : PathNo) (x : InboundCell) (s : State) : State :=
  if x.payload.length < 8 then s.bump ctrOutOfState 1 else arrive (parseDirective (.home p) x.payload) s

/-- R106 step 2: a cell that passed its check goes on by its kind. -/
def checkedCell (p : PathNo) (x : InboundCell) (s : State) : State :=
  match x.kind with
  | .handshake => handshakeCell p x.payload s
  | .hold => holdCell p (get16 x.payload 0) s
  | .returnAudio => if carries s.paths[p] then returnCell p x s else s.bump ctrOutOfState 1
  | .directive => if carries s.paths[p] then directiveCell p x s else s.bump ctrOutOfState 1
  | .fill => s
  | .video | .audio | .label | .clip | .response => s.bump ctrOutOfState 1

/-- INBOUND_CELL (R106). In DISABLED and FAILED every cell is discarded without a count, a HANDSHAKE cell at a FIXED path
and a HOLD cell too, where R102 and R103 would count it (DESIGN CHOICE, notes/assumptions/69.md). -/
def inboundCell (p : PathNo) (bytes : List Byte) (s : State) : State :=
  if s.paths[p].state = .disabled ∨ s.paths[p].state = .failed then s
  else
    match parseCell bytes with
    | none => s.count ctrCellCheck .cellCheck p.val
    | some x => checkedCell p x s

/-! ## Directives (R108, R112) -/

/-- R108: RTRN. -/
def actRtrn (ws : List Word) (s : State) : Answer :=
  let c := wordAt ws 0
  let depth := wordAt ws 1
  let ms := wordAt ws 2
  match boolOf (wordAt ws 3) with
  | none => refuse s .range
  | some e =>
    if !(c == 1 || c == 2 || c == 4) || depth < 2 || 32 < depth || 1000 < ms then refuse s .range
    else
      let s1 := if s.ret.holdSent then placeHolds 0 s else s
      success (s1.withRet
        { channels := c, startDepth := depth, holdMs := max 2 ms, endHold := e, queue := [], lastPlayed := none
          playing := false, current := none, lateRun := 0, holdSent := false })

/-- R112: what RDPT gives. -/
def pathReport (s : State) (p : PathNo) : PathReport :=
  let c := s.paths[p]
  let left := fun t : Option Nat => match t with | some d => msLeft s.ref.clock d | none => 0
  { state := c.state, carrier := c.carrier, settings := c.settings, ownAck := c.ownAck, ownFault := c.ownFault
    farOffer := c.farOffer, run := c.run, farFault := c.farFault, toggle := c.toggle, extras := c.extras
    agreed := c.agreed, agreedHold := c.agreedHold, retry := c.retry, timerMs := left c.timer
    holdMs := left c.holdTimer, fill := c.queue.length, slotFull := c.slot.isSome, seq := c.seq
    channels := s.ret.channels, startDepth := s.ret.startDepth, ownHoldMs := s.ret.holdMs, endHold := s.ret.endHold
    jitter := s.ret.queue.length, frontSeq := s.ret.queue.head?.map RetCell.seq, lastPlayed := s.ret.lastPlayed
    playing := s.ret.playing, holdSent := s.ret.holdSent }

/-- R112: RDPT. -/
def actRdpt (ws : List Word) (s : State) : Answer :=
  match finOf 4 (wordAt ws 0) with
  | none => refuse s .range
  | some p => reply s (.path (pathReport s p))

/-- INBOUND_CELL (R106). -/
def execInboundCell (p : PathNo) (bytes : List Byte) (s : State) : Host.Outcome State Fault Refusal :=
  live s (inboundCell p bytes)

/-- RTRN (R108). -/
def execRtrn (d : Directive) (s : State) : Host.Outcome State Fault Refusal := live s (takeDirective .rtrn d actRtrn)

/-- RDPT (R112). -/
def execRdpt (d : Directive) (s : State) : Host.Outcome State Fault Refusal := live s (takeDirective .rdpt d actRdpt)

end Sys2Proof.Machine
end

