-- ==== Sys2Proof/Machine/Mixer.lean ====
section
/-! DEFINITION. The sound mixer (chapter 5): the source stage, the bus stage, takes and ramps, home channels and meters. -/

namespace Sys2Proof.Machine

/-- The greatest and the least sample (R1). -/
def sampleMax : Int := 8388607
def sampleMin : Int := -8388608

/-- A crosspoint's place in the tables (R74). -/
def xpIndex (src : Fin 36) (bus : Fin 8) : Fin 288 := ⟨src.val * 8 + bus.val, by omega⟩

/-! ## The source stage (R75 to R77) -/

/-- R75 step 1: the sample cut to the word length. -/
def cutWord (w : Nat) (x : Sample) : Sample := floorDiv x (2 ^ (24 - w)) * 2 ^ (24 - w)

/-- R75 step 2: the polarity. -/
def polarity (inverted : Bool) (x : Sample) : Sample :=
  if inverted then (if x = sampleMin then sampleMax else -x) else x

/-- R76: the sample of `t` read at a delay from a history whose newest sample is that of `t`. -/
def delayed (h : DelayHistory) (t d : Nat) : Sample := if h.start + d ≤ t then h.samples.getD d 0 else 0

/-- R77: the fade record and the history after the level has moved for the sample of `t`, before z is worked out; and
whether the fade jumps at this sample. -/
def fadeMove (f : Fade) : Fade × Bool :=
  match f.state with
  | .steady => ({ f with level := 48 }, false)
  | .fadingOut => ({ f with level := f.level - 1 }, decide (f.level - 1 = 0))
  | .fadingIn => ({ f with level := f.level + 1 }, false)

/-- R77: the state from the next sample on; at a jump the read delay becomes the live delay and the history start moves
(R76). -/
def fadeNext (live t : Nat) (f : Fade) (jump : Bool) (h : DelayHistory) : Fade × DelayHistory :=
  if jump then
    ({ f with readDelay := live, state := .fadingIn }, { h with start := max h.start (t + 1 - f.readDelay) })
  else if f.state = .fadingIn ∧ 48 ≤ f.level then ({ f with state := .steady }, h)
  else (f, h)

/-- R77: z. -/
def faded (y : Sample) (level : Nat) : Sample := trunc (y * (level : Int)) 48

/-- R75 to R77: the stage outputs of a source for the samples from that of `t` on. -/
def sourceStage (w : Nat) (inv : Bool) (live : Nat) : Nat → List Sample → Fade → DelayHistory →
    List Sample × Fade × DelayHistory
  | _, [], f, h => ([], f, h)
  | t, x :: xs, f, h =>
    let h1 := { h with samples := polarity inv (cutWord w x) :: h.samples }
    let m := fadeMove f
    let z := faded (delayed h1 t m.1.readDelay) m.1.level
    let n := fadeNext live t m.1 m.2 h1
    let r := sourceStage w inv live (t + 1) xs n.1 n.2
    (z :: r.1, r.2)

/-- R76: the samples that a delay of up to 9,600 may still read. -/
def trimHistory (h : DelayHistory) : DelayHistory := { h with samples := h.samples.take 9600 }

/-! ## Ramps (R86) -/

/-- R86: a ramp is running. -/
def ramping (c : Coef) : Bool := decide (c.step < c.length)

/-- R86: the value of a coefficient n samples on. -/
def coefAt (c : Coef) (n : Nat) : Int :=
  if ramping c then c.start + trunc ((c.target - c.start) * (min c.length (c.step + n) : Nat)) c.length else c.value

/-- R86: the coefficient record n samples on. -/
def coefAfter (n : Nat) (c : Coef) : Coef :=
  if ramping c then { c with value := coefAt c n, step := min c.length (c.step + n) } else c

/-- R85, R86: a take gives a coefficient a new looked-up value. -/
def retarget (ramp v : Nat) (c : Coef) : Coef :=
  if c.target = v then c
  else if ramp = 0 then { value := v, target := v, start := v, step := 0, length := 0 }
  else { value := c.value, target := v, start := c.value, step := 0, length := ramp }

/-! ## The bus stage (R79, R80) -/

/-- R79, R80: division by 16,384, rounded to the nearest with a half upward. -/
def roundUnity (x : Int) : Int := floorDiv (x + 8192) 16384

/-- R79: the sum of the sources of one sample for a bus. -/
def busSum (zs : List Sample) (cs : List Int) : Int := (List.zipWith (· * ·) zs cs).foldl (· + ·) 0

/-- R79, R80: the bus output of one sample before it is saturated. -/
def busOut (zs : List Sample) (cs : List Int) (master : Int) : Int := roundUnity (roundUnity (busSum zs cs) * master)

/-- R80: saturation, and whether the bus has clipped. -/
def saturate (o : Int) : Sample := clampInt sampleMin sampleMax o

def clips (o : Int) : Bool := decide (o < sampleMin) || decide (sampleMax < o)

/-- The coefficients of a bus's crosspoints at the n-th sample of a block, counted from 1. -/
def busCoefs (xp : Vector Coef 288) (b : Fin 8) (n : Nat) : List Int :=
  (List.finRange 36).map (fun src => coefAt xp[xpIndex src b] n)

/-- R79, R80: the unsaturated outputs of a bus over a block, given the stage outputs sample by sample. -/
def busBlock (m : Mixer) (b : Fin 8) : Nat → List (List Sample) → List Int
  | _, [] => []
  | n, zs :: rest => busOut zs (busCoefs m.xp b n) (coefAt m.masters[b] n) :: busBlock m b (n + 1) rest

/-! ## The take (R84, R85) -/

/-- R84: the take image of the cued bank and the law as they stand at a tick. -/
def takeImage (m : Mixer) (tick : Word) (sample : Nat) : TakeImage :=
  let look := fun p : Nat => m.law.toList.getD p 0
  { bank := m.cued, xpCoef := mapVec (fun _ p => look p) m.cued.xp, msCoef := mapVec (fun _ p => look p) m.cued.masters
    tick := tick, sample := sample }

/-- R84: at a tick a pending take is armed, unless one is armed already. -/
def armTake (tick : Word) (sample : Nat) (m : Mixer) : Mixer :=
  if m.takePending && m.takeArmed.isNone then
    { m with takePending := false, takeArmed := some (takeImage m tick sample) }
  else m

/-- R77, R85: a take block in which the live delay of a source changes begins a fade. -/
def beginFade (changed : Bool) (f : Fade) : Fade :=
  if !changed then f
  else
    match f.state with
    | .steady => { f with state := .fadingOut, level := 48 }
    | .fadingOut => f
    | .fadingIn => { f with state := .fadingOut }

/-- R85: the take is applied at the beginning of the take block. -/
def applyImage (x : TakeImage) (m : Mixer) : Mixer :=
  { m with
    live := x.bank
    xp := mapVec (fun i c => retarget m.ramp x.xpCoef[i] c) m.xp
    masters := mapVec (fun i c => retarget m.ramp x.msCoef[i] c) m.masters
    fades := mapVec (fun i f => beginFade (decide (x.bank.delays[i] ≠ m.live.delays[i])) f) m.fades
    takeArmed := none }

/-- R85: an armed take is applied at the first block that begins at or after the tick that armed it. A lock at 50 may put
a tick on the first sample of a block whose request has passed, which R85 does not settle: the take is then applied at
the next block request (DESIGN CHOICE, notes/assumptions/73.md). -/
def applyTake (m : Mixer) : Mixer :=
  match m.takeArmed with
  | some x => if x.sample ≤ 48 * m.block then applyImage x m else m
  | none => m

/-- R84: a TAKE, by directive or by contact. -/
def askTake (m : Mixer) : Mixer := { m with takePending := true }

/-! ## Home channels (R87, R88, R122) -/

/-- R88: the last tick at or before a sample, with the offset from it. -/
def stampOf (recent : List (Word × Nat)) (t : Nat) : Word × Nat :=
  match recent.find? (fun x => decide (x.2 ≤ t)) with
  | some x => (x.1, min 4095 (t - x.2))
  | none => (0, 4095)

/-- R87: one sample of every bus goes into the cell period; a period begins at a multiple of eighty, and one that is
finished comes out. -/
def periodStep (home : List (Fin 8)) (t : Nat) (outs : List Sample) (p : Option CellPeriod) :
    Option CellPeriod × Option CellPeriod :=
  let cur := if t % 80 = 0 then some ⟨home, t, []⟩ else p
  match cur with
  | none => (none, none)
  | some c =>
    let c1 := { c with samples := c.samples ++ [outs] }
    if t % 80 = 79 then (none, some c1) else (some c1, none)

/-- R87: the samples of a block go into the cell grid; with the period that ends in it, if one does. -/
def periodBlock (home : List (Fin 8)) : Nat → List (List Sample) → Option CellPeriod → Option CellPeriod →
    Option CellPeriod × Option CellPeriod
  | _, [], p, fin => (p, fin)
  | t, o :: os, p, fin =>
    let r := periodStep home t o p
    periodBlock home (t + 1) os r.1 (match r.2 with | some x => some x | none => fin)

/-- R88, R187: the AUDIO cell of a bus for a finished cell period. Its stamp is that of the period's first sample among
the ticks that have come when the cell is handed on: a tick may fall on that sample after the block that holds it has
completed. -/
def audioCell (recent : List (Word × Nat)) (c : CellPeriod) (b : Fin 8) (seq : Word) : Cell :=
  let stamp := stampOf recent c.start
  { kind := .audio, flags := noFlags, stream := b.val, unit := b.val * 4096 + stamp.2, tick := stamp.1, seq := seq
    payload := c.samples.flatMap (fun o => bytesSample (o.getD b.val 0)), gen := 0 }

/-- R122: a cell is handed to the audio list; at a full list the front cell is dropped first. -/
def handAudio (x : Cell) (s : State) : State :=
  if s.asm.audio.length < 48 then s.withAsm { s.asm with audio := s.asm.audio ++ [x] }
  else
    let s1 := s.withAsm { s.asm with audio := s.asm.audio.tail ++ [x] }
    s1.count ctrAudioDropped .audioDropped (match s.asm.audio.head? with | some c => c.stream | none => 0)

/-- R88: one cell for each bus of a finished period, in the order of its list. -/
def handPeriod (c : CellPeriod) : List (Fin 8) → State → State
  | [], s => s
  | b :: bs, s =>
    let seq := s.mixer.cellSeq[b]
    let s1 := s.withMixer { s.mixer with cellSeq := s.mixer.cellSeq.set b (seq + 1) }
    handPeriod c bs (handAudio (audioCell s.ref.recent c b seq) s1)

/-! ## The block (R72, R73, R89) -/

/-- The live values as they stand (R90). -/
def liveView (m : Mixer) : LiveView :=
  ⟨m.live, m.xp, m.masters, m.fades, m.takePending, m.takeArmed.map TakeImage.tick, m.wordLens, m.ramp⟩

/-- R13, R73: the port hands the front block of an audio lane, or the lane underruns. -/
def audioRequest (k : Fin 4) (s : State) : State × List Sample :=
  let v := s.port.audio[k]
  match v.blocks with
  | b :: rest => (s.setAudio k { v with blocks := rest }, b)
  | [] => (s.count ctrAudioUnderruns .audioUnderrun (8 + k.val), [])

/-- The 36 input samples of the i-th sample of a block. -/
def inputSample (lanes : List (List Sample)) (ret : List (List Sample)) (i : Nat) : List Sample :=
  lanes.flatMap (fun b => (List.range 8).map (fun c => b.getD (8 * i + c) 0)) ++ fourOf (ret.getD i [])

/-- R72, R73: the block request. Its notices come in the order of the lanes, the return receiver's after them (DESIGN
CHOICE, notes/assumptions/65.md). -/
def beginBlock (s : State) : State :=
  let s0 := s.advanceTo (48 * s.mixer.block)
  let a0 := audioRequest 0 (s0.withMixer (applyTake s0.mixer))
  let a1 := audioRequest 1 a0.1
  let a2 := audioRequest 2 a1.1
  let a3 := audioRequest 3 a2.1
  let r := returnBlock a3.1
  let input := (List.range 48).map (inputSample [a0.2, a1.2, a2.2, a3.2] r.2)
  r.1.withMixer { r.1.mixer with work := some ⟨input, r.1.mixer.wordLens⟩ }

/-- The greatest magnitude of a run of samples, with a peak before (R89). -/
def peakAfter (p : Nat) (l : List Int) : Nat := l.foldl (fun m x => max m x.natAbs) p

/-- The runs of a table sample by sample: 48 lists with one entry of each run. -/
def byRows (runs : List (List Sample)) : List (List Sample) :=
  (List.range 48).map (fun i => runs.map (fun r => r.getD i 0))

/-- R72, R80: the buses that clip over a block, in sample order, given the unsaturated outputs sample by sample; those of
one sample in the order of the buses (DESIGN CHOICE, notes/assumptions/44.md). -/
def clippedBuses (outs : List (List Int)) : List (Fin 8) :=
  outs.flatMap (fun o => (List.finRange 8).filter (fun b => clips (o.getD b.val 0)))

/-- R80: one clipped sample of a bus is counted and reported. -/
def countClip (b : Fin 8) (s : State) : State :=
  let m := s.mixer
  (s.withMixer { m with clipCount := m.clipCount.set b (min 4294967295 (m.clipCount[b] + 1)) }).count ctrBusClips
    .busClip b.val

/-- R80: clipped samples are counted one by one. -/
def countClips (bs : List (Fin 8)) (s : State) : State := bs.foldl (fun s b => countClip b s) s

/-- R72: the samples of the block in work go through the source stage and the bus stage, and the block completes.
The bus packet is handed on before the finished cells, an order that R72 leaves open (DESIGN CHOICE,
notes/assumptions/93.md). -/
def completeWork (w : BlockWork) (s : State) : State :=
  let m := s.mixer
  let t := 48 * m.block
  let stages := Vector.ofFn (fun i : Fin 36 =>
    sourceStage w.wordLens[i] m.live.invert[i] m.live.delays[i] t (w.input.map (fun x => x.getD i.val 0)) m.fades[i]
      m.history[i])
  let rows := byRows (stages.toList.map Prod.fst)
  let outs := Vector.ofFn (fun b : Fin 8 => busBlock m b 1 rows)
  let sats := outs.toList.map (fun l => l.map saturate)
  let frames := byRows sats
  let p := periodBlock m.live.home t frames m.period none
  let m1 : Mixer := { m with
    fades := mapVec (fun _ r => r.2.1) stages, history := mapVec (fun _ r => trimHistory r.2.2) stages
    xp := mapVec (fun _ c => coefAfter 48 c) m.xp, masters := mapVec (fun _ c => coefAfter 48 c) m.masters
    srcPeak := mapVec (fun i x => peakAfter x stages[i].1) m.srcPeak
    busPeak := mapVec (fun b x => peakAfter x (outs[b].map saturate)) m.busPeak
    block := m.block + 1, work := none, period := p.1 }
  let s1 := countClips (clippedBuses (byRows outs.toList)) (s.withMixer { m1 with lastView := liveView m1 })
  let s2 := buildBusPacket m.block frames.flatten s1
  match p.2 with
  | some c => handPeriod c c.buses s2
  | none => s2

/-- BLOCK_COMPLETION (R72). -/
def blockCompletion (s : State) : State :=
  match s.mixer.work with
  | some w => completeWork w s
  | none => s

/-- BLOCK_REQUEST (R72): the block before it is wholly done (notes/assumptions/12.md). -/
def blockRequest (s : State) : State := beginBlock (blockCompletion s)

/-! ## Directives of the mixer -/

def sumOf (v : Vector Nat 36) : Nat := v.toList.foldl (· + ·) 0

/-- R82: XPNT. -/
def actXpnt (ws : List Word) (s : State) : Answer :=
  match finOf 36 (wordAt ws 0), finOf 8 (wordAt ws 1) with
  | some src, some b =>
    if 255 < wordAt ws 2 then refuse s .range
    else
      let m := s.mixer
      success (s.withMixer { m with cued := { m.cued with xp := m.cued.xp.set (xpIndex src b) (wordAt ws 2) } })
  | _, _ => refuse s .range

/-- R82: BMST. -/
def actBmst (ws : List Word) (s : State) : Answer :=
  match finOf 8 (wordAt ws 0) with
  | some b =>
    if 255 < wordAt ws 1 then refuse s .range
    else
      let m := s.mixer
      success (s.withMixer { m with cued := { m.cued with masters := m.cued.masters.set b (wordAt ws 1) } })
  | none => refuse s .range

/-- R78: SRCE. -/
def actSrce (ws : List Word) (s : State) : Answer :=
  let w := wordAt ws 1
  let d := wordAt ws 3
  match finOf 36 (wordAt ws 0), boolOf (wordAt ws 2) with
  | some src, some inv =>
    if !(w == 16 || w == 20 || w == 24) || 9600 < d then refuse s .range
    else
      let m := s.mixer
      let delays := m.cued.delays.set src d
      if 131072 < sumOf delays then refuse s .full
      else
        reply (s.withMixer { m with
          wordLens := m.wordLens.set src w
          cued := { m.cued with delays := delays, invert := m.cued.invert.set src inv } })
          (.words [BitVec.ofNat 32 (sumOf delays)])
  | _, _ => refuse s .range

/-- R83: HOME. -/
def actHome (ws : List Word) (s : State) : Answer :=
  match allSome (ws.map (fun w => finOf 8 w.toNat)) with
  | some l =>
    if distinct l then
      let m := s.mixer
      success (s.withMixer { m with cued := { m.cued with home := l } })
    else refuse s .range
  | none => refuse s .range

/-- R84: TAKE. -/
def actTake (_ : List Word) (s : State) : Answer :=
  reply (s.withMixer (askTake s.mixer)) (.takeState s.mixer.takePending)

/-- R86: RAMP. -/
def actRamp (ws : List Word) (s : State) : Answer :=
  if 4800 < wordAt ws 0 then refuse s .range
  else
    let m := s.mixer
    success (s.withMixer { m with ramp := wordAt ws 0 })

/-- R81: entries do not fall. -/
def nonDecreasing : List Nat → Bool
  | a :: b :: l => decide (a ≤ b) && nonDecreasing (b :: l)
  | _ => true

/-- R81: FLAW. -/
def actFlaw (ws : List Word) (s : State) : Answer :=
  let l := ws.map (fun w => w.toNat)
  if l.any (fun x => decide (65535 < x)) || !nonDecreasing l then refuse s .range
  else
    let m := s.mixer
    success (s.withMixer { m with law := Vector.ofFn (fun i : Fin 256 => l.getD i.val 0) })

/-- R89: RDMT. -/
def actRdmt (_ : List Word) (s : State) : Answer :=
  let m := s.mixer
  reply (s.withMixer { m with
      srcPeak := Vector.replicate 36 0, busPeak := Vector.replicate 8 0, clipCount := Vector.replicate 8 0 })
    (.meters m.srcPeak.toList m.busPeak.toList m.clipCount.toList)

/-- R90: the items that selectors 0 and 1 give of a bank, with the word lengths and the ramp length. -/
def bankReport (b : Bank) (wordLens : Vector Nat 36) (ramp : Nat) : BankReport := ⟨b, sumOf b.delays, wordLens, ramp⟩

/-- R90: the items of the live bank. -/
def liveReport (v : LiveView) : LiveReport :=
  { xp := mapVec (fun _ c => (c.value, c.target, c.length - c.step)) v.xp
    masters := mapVec (fun _ c => (c.value, c.target, c.length - c.step)) v.masters
    fades := v.fades, takePending := v.takePending, takeArmed := v.takeArmed }

/-- R90: the live values that a read gives: during a block those of the completion of the last block
(notes/assumptions/45.md). A block counts as going on from its request to its completion; between its completion and the
next request a read gives the values as they stand (DESIGN CHOICE, notes/assumptions/87.md). -/
def viewNow (m : Mixer) : LiveView := if m.work.isSome then m.lastView else liveView m

/-- R90: RDMX. -/
def actRdmx (ws : List Word) (s : State) : Answer :=
  let m := s.mixer
  let v := viewNow m
  match wordAt ws 0 with
  | 0 => reply s (.cuedBank (bankReport m.cued m.wordLens m.ramp))
  | 1 => reply s (.liveBank (bankReport v.bank v.wordLens v.ramp) (liveReport v))
  | 2 => reply s (.law m.law.toList)
  | _ => refuse s .range

/-! ## The commands of the mixer -/

/-- BLOCK_REQUEST (R72). -/
def execBlockRequest (s : State) : Host.Outcome State Fault Refusal := live s blockRequest

/-- BLOCK_COMPLETION (R72). -/
def execBlockCompletion (s : State) : Host.Outcome State Fault Refusal := live s blockCompletion

/-- XPNT (R82). -/
def execXpnt (d : Directive) (s : State) : Host.Outcome State Fault Refusal := live s (takeDirective .xpnt d actXpnt)

/-- BMST (R82). -/
def execBmst (d : Directive) (s : State) : Host.Outcome State Fault Refusal := live s (takeDirective .bmst d actBmst)

/-- SRCE (R78). -/
def execSrce (d : Directive) (s : State) : Host.Outcome State Fault Refusal := live s (takeDirective .srce d actSrce)

/-- HOME (R83). -/
def execHome (d : Directive) (s : State) : Host.Outcome State Fault Refusal := live s (takeDirective .home d actHome)

/-- TAKE (R84). -/
def execTake (d : Directive) (s : State) : Host.Outcome State Fault Refusal := live s (takeDirective .take d actTake)

/-- RAMP (R86). -/
def execRamp (d : Directive) (s : State) : Host.Outcome State Fault Refusal := live s (takeDirective .ramp d actRamp)

/-- FLAW (R81). -/
def execFlaw (d : Directive) (s : State) : Host.Outcome State Fault Refusal := live s (takeDirective .flaw d actFlaw)

/-- RDMT (R89). -/
def execRdmt (d : Directive) (s : State) : Host.Outcome State Fault Refusal := live s (takeDirective .rdmt d actRdmt)

/-- RDMX (R90). -/
def execRdmx (d : Directive) (s : State) : Host.Outcome State Fault Refusal := live s (takeDirective .rdmx d actRdmx)

end Sys2Proof.Machine
end

