-- ==== Sys2Proof/Machine/Reference.lean ====
section
/-! DEFINITION. The reference unit, the timecode and the contact inputs (chapter 10). -/

namespace Sys2Proof.Machine

/-! ## The frame timer (R164, R169) -/

/-- R1, R164: the frame period P. -/
def framePeriod : FrameRate → Nat
  | .fps50 => 960
  | .fps60 => 800

/-- R169: the timecode one frame on. -/
def nextTimecode (fps : Nat) (t : Timecode) : Timecode :=
  if t.ff + 1 < fps then { t with ff := t.ff + 1 }
  else if t.ss + 1 < 60 then { t with ff := 0, ss := t.ss + 1 }
  else if t.mm + 1 < 60 then { t with ff := 0, ss := 0, mm := t.mm + 1 }
  else if t.hh + 1 < 24 then { hh := t.hh + 1, mm := 0, ss := 0, ff := 0 }
  else ⟨0, 0, 0, 0⟩

/-- R169, R170: a timecode whose frames are not below the rate. -/
def cutFrames (fps : Nat) (t : Timecode) : Timecode := if fps ≤ t.ff then { t with ff := fps - 1 } else t

/-- R164, R169: the reference unit's part of a tick. -/
def tickUnit (r : ReferenceUnit) : ReferenceUnit :=
  { r with
    tick := r.tick + 1, lastTickSample := r.nextTick, nextTick := r.nextTick + framePeriod r.rate
    clock := max r.clock r.nextTick
    timecode := (match r.heldTimecode with
      | some t => cutFrames (fpsOf r.rate) t
      | none => nextTimecode (fpsOf r.rate) r.timecode)
    heldTimecode := none, recent := ((r.tick + 1, r.nextTick) :: r.recent).take 8 }

/-- R32: a lane in CODING or DRAINING adds one to its idle ticks; a stall that is due comes first
(notes/assumptions/11.md). -/
def idleTick (s : State) (l : Lane) : State :=
  (settleStall l s).modLane l (fun c =>
    if c.state = .coding ∨ c.state = .draining then { c with idle := min 2 (c.idle + 1) } else c)

/-- FRAME_TICK (R164): the count rises, the timecode is set, idle ticks rise and a pending take is armed. -/
def frameTick (s : State) : State :=
  let s1 := s.withRef (tickUnit s.ref)
  let s2 := (List.finRange 6).foldl idleTick s1
  s2.withMixer (armTake s2.ref.tick s2.ref.lastTickSample s2.mixer)

/-! ## Pulses and lock (R165 to R168) -/

/-- Two sample numbers differ by no more than two. -/
def withinTwo (a b : Int) : Bool := decide (a - b ≤ 2) && decide (b - a ≤ 2)

/-- R165: the interval of a pulse is within tolerance; without a last pulse there is none (notes/assumptions/18.md). -/
def goodInterval (r : ReferenceUnit) (stamp : Nat) : Bool :=
  match r.lastPulse with
  | some p => withinTwo ((stamp : Int) - (p : Int)) (framePeriod r.rate)
  | none => false

/-- R166: the pulse lies within two samples of the expected pulse of the nearest tick. -/
def goodPulse (r : ReferenceUnit) (stamp : Nat) : Bool :=
  withinTwo stamp (r.lastTickSample + r.phase) || withinTwo stamp (r.nextTick + r.phase)

/-- R167: the lock sample of a pulse. -/
def lockSample (rate : FrameRate) (stamp : Nat) : Nat :=
  match rate with
  | .fps60 => stamp
  | .fps50 => if stamp % 48 < 24 then stamp / 48 * 48 else (stamp / 48 + 1) * 48

/-- R168 steps 2 to 4: the sample of the next tick at a lock. -/
def lockTick (rate : FrameRate) (last l : Nat) : Nat :=
  if framePeriod rate ≤ 2 * (l - last) then l else l + framePeriod rate

/-- R168: the unit locks at a pulse. The run stays at three until the loss of the reference (DESIGN CHOICE,
notes/assumptions/79.md). -/
def lockUnit (stamp : Nat) (r : ReferenceUnit) : ReferenceUnit :=
  let l := lockSample r.rate stamp
  { r with
    state := .locked, originHoldover := true, run := 3, lastPulse := some stamp, lastGood := some stamp
    phase := (stamp : Int) - (l : Int), nextTick := lockTick r.rate r.lastTickSample l }

/-- R165: a pulse that takes the unit to LOCKING. -/
def startLocking (holdover : Bool) (stamp : Nat) (r : ReferenceUnit) : ReferenceUnit :=
  { r with state := .locking, originHoldover := holdover, run := 0, lastPulse := some stamp }

/-- REFERENCE_PULSE (R165, R166): a pulse with its stamp, by the state of the unit. -/
def referencePulse (stamp : Nat) (s : State) : State :=
  let s1 := s.advanceTo stamp
  let r := s1.ref
  match r.state with
  | .absent => s1.withRef (startLocking false stamp r)
  | .holdover => s1.withRef (startLocking true stamp r)
  | .locking =>
    if goodInterval r stamp then
      if r.run + 1 < 3 then s1.withRef { r with run := r.run + 1, lastPulse := some stamp }
      else (s1.withRef (lockUnit stamp r)).count ctrReferenceLocks .refLocked 0
    else s1.withRef { r with run := 0, lastPulse := some stamp }
  | .locked =>
    if goodPulse r stamp then s1.withRef { r with lastGood := some stamp, lastPulse := some stamp }
    else (s1.withRef { r with lastPulse := some stamp }).bump ctrPulsesMisplaced 1

/-- LOCKING_LOSS (R165): the loss watch of a LOCKING unit ends. -/
def lockingLoss (s : State) : State :=
  match s.ref.state, s.ref.lastPulse with
  | .locking, some p =>
    let s1 := s.advanceTo (p + framePeriod s.ref.rate * 3 / 2)
    s1.withRef { s1.ref with
      state := if s1.ref.originHoldover then .holdover else .absent, run := 0, lastPulse := none }
  | _, _ => s

/-- REFERENCE_LOSS (R166): the loss watch of a LOCKED unit ends. -/
def referenceLoss (s : State) : State :=
  match s.ref.state, s.ref.lastGood with
  | .locked, some p =>
    let s1 := s.advanceTo (p + framePeriod s.ref.rate * 3 / 2)
    (s1.withRef { s1.ref with state := .holdover, run := 0 }).count ctrReferenceLosses .refLost 0
  | _, _ => s

/-! ## Contact inputs (R171, R172) -/

/-- R172: an accepted edge matches the edge setting. -/
def wanted (e : EdgeSetting) (closed : Bool) : Bool :=
  match e with
  | .rising => closed
  | .falling => !closed
  | .both => true

/-- A template number of a contact's parameter. -/
def templateOf (param : Nat) : Fin 4 := Fin.ofNat 4 param

/-- R172: an accepted edge of an input, with its stamp tick, is handed to the owner of its function when it is wanted. -/
def acceptedEdge (c : Contact) (closed : Bool) (stamp : Word) (s : State) : State :=
  if !wanted c.edge closed then s
  else
    match c.fn with
    | .none | .tally => s
    | .markIn => contactMarkIn (templateOf c.param) stamp s
    | .markOut => contactMarkOut stamp s
    | .markToggle => contactToggle (templateOf c.param) stamp s
    | .take => s.withMixer (askTake s.mixer)

/-- CONTACT_RAW_CHANGE (R171): the raw level of an input becomes `closed`. -/
def contactRawChange (i : ContactNo) (closed : Bool) (s : State) : State :=
  let c := s.contacts[i]
  if c.raw = closed then s
  else if closed ≠ c.accepted then
    if c.filterMs = 0 then
      acceptedEdge c closed s.ref.tick (s.setContact i { c with raw := closed, accepted := closed, filter := none })
    else
      s.setContact i { c with raw := closed, filter := some ⟨s.ref.clock + msSamples c.filterMs, s.ref.tick⟩ }
  else
    let s1 := s.setContact i { c with raw := closed, filter := none }
    if c.filter.isSome then s1.bump ctrContactFiltered 1 else s1

/-- FILTER_RUNS_OUT (R171). -/
def filterRunsOut (i : ContactNo) (s : State) : State :=
  let c := s.contacts[i]
  match c.filter with
  | none => s
  | some f =>
    acceptedEdge c c.raw f.stamp ((s.advanceTo f.due).setContact i { c with accepted := c.raw, filter := none })

/-! ## Directives (R169, R170, R173, R174) -/

/-- R169: TCOD. -/
def actTcod (ws : List Word) (s : State) : Answer :=
  let t : Timecode := ⟨wordAt ws 0, wordAt ws 1, wordAt ws 2, wordAt ws 3⟩
  if 23 < t.hh || 59 < t.mm || 59 < t.ss || fpsOf s.ref.rate ≤ t.ff then refuse s .range
  else success (s.withRef { s.ref with heldTimecode := some t })

/-- R170: the next tick after a change of rate. -/
def rateTick (rate : FrameRate) (last clock : Nat) : Nat :=
  let t := last + framePeriod rate
  match rate with
  | .fps60 => if t < clock then clock + 1 else t
  | .fps50 =>
    let b := (t + 47) / 48 * 48
    if b < clock then (clock / 48 + 1) * 48 else b

/-- R170: the reference unit after a change of rate. The phase offset, of which R170 says nothing, stays as it is until
the next lock (DESIGN CHOICE, notes/assumptions/81.md). -/
def changeRate (rate : FrameRate) (r : ReferenceUnit) : ReferenceUnit :=
  { r with
    rate := rate, timecode := cutFrames (fpsOf rate) r.timecode, nextTick := rateTick rate r.lastTickSample r.clock
    originHoldover := decide (r.state = .locked) || decide (r.state = .holdover), state := .locking, run := 0
    lastPulse := none }

/-- R170: the rate that REFR's word names. -/
def rateOf : Nat → Option FrameRate
  | 50 => some .fps50
  | 60 => some .fps60
  | _ => none

/-- R170: REFR. Its checks go in the order in which R170 tells them: a rate that is neither 50 nor 60, then a lane out of
OFF, and then the rate in force (DESIGN CHOICE, notes/assumptions/80.md). -/
def actRefr (ws : List Word) (s : State) : Answer :=
  match rateOf (wordAt ws 0) with
  | none => refuse s .range
  | some rate =>
    if s.lanes.toList.any (fun c => decide (c.state ≠ .off)) then refuse s .state
    else if rate = s.ref.rate then success s
    else success (s.withRef (changeRate rate s.ref))

/-- R173: the functions in their order. -/
def fnOf : Nat → Option ContactFn
  | 0 => some .none
  | 1 => some .markIn
  | 2 => some .markOut
  | 3 => some .markToggle
  | 4 => some .take
  | 5 => some .tally
  | _ => none

def edgeOf : Nat → Option EdgeSetting
  | 0 => some .rising
  | 1 => some .falling
  | 2 => some .both
  | _ => none

/-- R173: the parameter suits the function. -/
def paramOk (f : ContactFn) (p : Nat) : Bool :=
  match f with
  | .markIn | .markToggle => decide (p ≤ 3)
  | .tally => decide (p ≤ 5)
  | .none | .markOut | .take => decide (p = 0)

/-- R173: the input after CONT. -/
def setContactFn (f : ContactFn) (param : Nat) (e : EdgeSetting) (ms clock : Nat) (tick : Word) (c : Contact) : Contact :=
  { fn := f, param := param, edge := e, filterMs := ms, accepted := c.accepted, raw := c.raw
    filter := if c.raw ≠ c.accepted then some ⟨clock + msSamples ms, tick⟩ else none }

/-- R173: CONT. A filter that starts again with the filter time 0 accepts the change at once (R171). -/
def actCont (ws : List Word) (s : State) : Answer :=
  match finOf 8 (wordAt ws 0), fnOf (wordAt ws 1), edgeOf (wordAt ws 3) with
  | some i, some f, some e =>
    if !paramOk f (wordAt ws 2) || 255 < wordAt ws 4 then refuse s .range
    else
      let c := setContactFn f (wordAt ws 2) e (wordAt ws 4) s.ref.clock s.ref.tick s.contacts[i]
      if c.filter.isSome && decide (c.filterMs = 0) then
        success (acceptedEdge c c.raw s.ref.tick (s.setContact i { c with accepted := c.raw, filter := none }))
      else success (s.setContact i c)
  | _, _, _ => refuse s .range

/-- R164: how the sample clock is governed. -/
def governanceOf : RefState → Governance
  | .absent | .locking => .freeRunning
  | .locked => .steered
  | .holdover => .held

/-- R174: what RDRF gives. -/
def referenceReport (s : State) : ReferenceReport :=
  let r := s.ref
  { state := r.state, originHoldover := r.originHoldover, rate := r.rate, governance := governanceOf r.state
    tick := r.tick, lastTickSample := r.lastTickSample, clock := r.clock, run := r.run, lastPulse := r.lastPulse
    lastGood := r.lastGood, phase := r.phase, timecode := r.timecode, heldTimecode := r.heldTimecode
    contacts := mapVec (fun _ c => ⟨c.fn, c.param, c.edge, c.filterMs, c.raw, c.accepted,
      c.filter.map (fun f => (msLeft r.clock f.due, f.stamp))⟩) s.contacts
    onAir := Vector.ofFn (fun l => tallyActive s.contacts l) }

/-- R174: RDRF. -/
def actRdrf (_ : List Word) (s : State) : Answer := reply s (.reference (referenceReport s))

/-! ## The commands of the reference unit and the contact inputs -/

/-- FRAME_TICK (R164). -/
def execFrameTick (s : State) : Host.Outcome State Fault Refusal := live s frameTick

/-- REFERENCE_PULSE (R165). -/
def execReferencePulse (stamp : Nat) (s : State) : Host.Outcome State Fault Refusal := live s (referencePulse stamp)

/-- LOCKING_LOSS (R165). -/
def execLockingLoss (s : State) : Host.Outcome State Fault Refusal := live s lockingLoss

/-- REFERENCE_LOSS (R166). -/
def execReferenceLoss (s : State) : Host.Outcome State Fault Refusal := live s referenceLoss

/-- CONTACT_RAW_CHANGE (R171): the level stands outside the processor, so it changes without power too. -/
def execContactRawChange (i : ContactNo) (closed : Bool) (s : State) : Host.Outcome State Fault Refusal :=
  .next (if s.power then kick (contactRawChange i closed s) else s.setContact i { s.contacts[i] with raw := closed })

/-- FILTER_RUNS_OUT (R171). -/
def execFilterRunsOut (i : ContactNo) (s : State) : Host.Outcome State Fault Refusal :=
  live s (fun s => kick (filterRunsOut i s))

/-- TCOD (R169). -/
def execTcod (d : Directive) (s : State) : Host.Outcome State Fault Refusal := live s (takeDirective .tcod d actTcod)

/-- REFR (R170). -/
def execRefr (d : Directive) (s : State) : Host.Outcome State Fault Refusal := live s (takeDirective .refr d actRefr)

/-- CONT (R173). -/
def execCont (d : Directive) (s : State) : Host.Outcome State Fault Refusal :=
  live s (fun s => kick (takeDirective .cont d actCont s))

/-- RDRF (R174). -/
def execRdrf (d : Directive) (s : State) : Host.Outcome State Fault Refusal := live s (takeDirective .rdrf d actRdrf)

end Sys2Proof.Machine
end

