-- ==== Sys2Proof/Machine/Assembly.lean ====
section
/-! DEFINITION. Cell assembly and dispatch (chapter 7): the classes, the candidate paths, the path-choice arbiter and the
cutting of live and clip picture. -/

namespace Sys2Proof.Machine

/-! ## Candidates and placing (R116, R118) -/

/-- R116: picture cells are placed only on open queues of paths that are not label-only. -/
def isPicture (k : CellKind) : Bool := decide (k = .video) || decide (k = .clip)

/-- R116: the path is a candidate for a cell, a picture cell or another. -/
def isCandidate (s : State) (picture : Bool) (p : PathNo) : Bool :=
  let c := s.paths[p]
  decide (c.state = .up) && decide (c.queue.length < 128) && (!picture || (s.asm.opened[p] && !labelOnly c))

/-- R118: the load figure of a path. -/
def loadFigure (c : PathCtl) : Nat := c.queue.length * 1000000 / c.agreed.getD 0

/-- R118: of some paths in rising order, the one with the least load figure, the lower path number on a tie. -/
def leastLoaded (s : State) : List PathNo → Option PathNo
  | [] => none
  | p :: ps =>
    match leastLoaded s ps with
    | none => some p
    | some q => if loadFigure s.paths[q] < loadFigure s.paths[p] then some q else some p

/-- R118: the path that the arbiter chooses for a cell. -/
def choosePath (s : State) (picture : Bool) : Option PathNo :=
  leastLoaded s ((List.finRange 4).filter (isCandidate s picture))

/-- R115, R116: a cell is placed at the back of a path's send queue. -/
def placeCell (p : PathNo) (x : Cell) (s : State) : State :=
  let s1 := s.modPath p (fun c => { c with queue := c.queue ++ [x] })
  if s1.asm.marks[p].high < s1.paths[p].queue.length then
    s1.withAsm { s1.asm with opened := s1.asm.opened.set p false }
  else s1

/-! ## Labels (R123) -/

/-- R123, R187: a LABEL cell with the next LABEL stream sequence. -/
def labelCell (s : State) (record : List Byte) : Cell :=
  { kind := .label, flags := noFlags, stream := 0, unit := 0, tick := s.ref.tick, seq := s.asm.labelSeq
    payload := record, gen := 0 }

/-- R123: the text of a tag code. -/
def tagText (s : State) (code : Nat) : List Byte :=
  match finOf 64 (code - 1) with
  | some i => s.clips.tags[i].getD []
  | none => []

/-- R123: the label record of a clip id. -/
def clipLabel (s : State) (id : Nat) : List Byte :=
  match findClip s id with
  | some c => clipRecord c c.wseq
  | none => discardedRecord id none

/-- R123: the record of the front of the stale-tag list, or else of the stale-label list. -/
def labelRecordOf (s : State) : Option (List Byte) :=
  match s.asm.staleTags, s.asm.staleLabels with
  | code :: _, _ => some (tagRecord code (tagText s code))
  | [], id :: _ => some (clipLabel s id)
  | [], [] => none

/-- R123: the entry served leaves its list. -/
def popStale (s : State) : State :=
  match s.asm.staleTags with
  | _ :: rest => s.withAsm { s.asm with staleTags := rest, labelSeq := s.asm.labelSeq + 1 }
  | [] => staleEmptied (s.withAsm { s.asm with staleLabels := s.asm.staleLabels.tail, labelSeq := s.asm.labelSeq + 1 })

/-! ## Live picture (R124 to R126) -/

/-- R126: the piece of a lane that has live data: its cursor, record and slice entry. -/
def livePiece (s : State) (l : Lane) : Option (Cursor × FrameRecord × SliceEntry) :=
  match s.asm.cursors[l] with
  | none => none
  | some c =>
    match findRecord s.store l c.tick with
    | none => none
    | some r =>
      match r.slices[c.slice]? with
      | none => none
      | some e => some (c, r, e)

/-- R126: the lanes in the order of the turn. -/
def turnOrder (rot : Lane) : List Lane := (List.range 6).map (fun i => Fin.ofNat 6 (rot.val + 1 + i))

/-- R126: the lane whose VIDEO turn it is. -/
def videoTurn (s : State) : Option Lane := (turnOrder s.asm.laneRot).find? (fun l => (livePiece s l).isSome)

/-- R124, R187: the VIDEO cell of a piece. -/
def videoCell (s : State) (l : Lane) (c : Cursor) (r : FrameRecord) (e : SliceEntry) : Cell :=
  { kind := .video, flags := pieceFlags r e c.piece, stream := l.val, unit := c.slice, tick := r.tick
    seq := s.asm.videoSeq[l], payload := pieceBytes s.store.dram r e c.piece, gen := s.asm.gen[l] }

/-- R57, R124, R126: the cursor moves on after a cut, and the record's live state with it. -/
def cutVideo (l : Lane) (c : Cursor) (r : FrameRecord) (e : SliceEntry) (s : State) : State :=
  let s1 := s.withAsm { s.asm with videoSeq := s.asm.videoSeq.set l (s.asm.videoSeq[l] + 1), laneRot := l }
  match nextPiece r e c.slice c.piece with
  | some (sl, pc) =>
    (s1.withStore (setLive s1.store l r.tick .sending)).setCursor l (some { c with slice := sl, piece := pc })
  | none => seekOnward l r.tick (s1.withStore (setLive s1.store l r.tick .done))

/-! ## Clip picture (R129) -/

/-- R129: the engine whose CLIP turn it is. -/
def clipTurn (s : State) : Option EngineNo :=
  [Fin.ofNat 2 (s.asm.engineRot.val + 1), s.asm.engineRot].find? (fun e => (engineOffer s e).isSome)

/-- R129, R187: the CLIP cell of a piece. -/
def clipCell (s : State) (e : EngineNo) (c : ClipCursor) (r : FrameRecord) (x : SliceEntry) : Cell :=
  { kind := .clip, flags := pieceFlags r x c.piece, stream := e.val * 16 + c.lane.val, unit := c.slice, tick := r.tick
    seq := s.asm.clipSeq[e], payload := pieceBytes s.store.dram r x c.piece, gen := 0 }

/-- R129: the CLIP class takes its turn. -/
def cutClip (e : EngineNo) (s : State) : State :=
  engineAdvance e (s.withAsm { s.asm with clipSeq := s.asm.clipSeq.set e (s.asm.clipSeq[e] + 1), engineRot := e })

/-! ## The classes (R115) -/

/-- R115, R120: the CONTROL class. -/
def serveControl (s : State) : Option State :=
  match s.asm.control, choosePath s false with
  | x :: rest, some p => some (placeCell p x (s.withAsm { s.asm with control := rest }))
  | _, _ => none

/-- R115, R121: the REDISPATCH class. -/
def serveRedispatch (s : State) : Option State :=
  match s.asm.redispatch with
  | x :: rest =>
    match choosePath s (isPicture x.kind) with
    | some p => some (placeCell p x (s.withAsm { s.asm with redispatch := rest }))
    | none => none
  | [] => none

/-- R115, R122: the AUDIO class. -/
def serveAudio (s : State) : Option State :=
  match s.asm.audio, choosePath s false with
  | x :: rest, some p => some (placeCell p x (s.withAsm { s.asm with audio := rest }))
  | _, _ => none

/-- R115, R123: the LABEL class. -/
def serveLabel (s : State) : Option State :=
  match labelRecordOf s, choosePath s false with
  | some rec, some p => some (placeCell p (labelCell s rec) (popStale s))
  | _, _ => none

/-- R115, R126: the VIDEO class. -/
def serveVideo (s : State) : Option State :=
  match choosePath s true, videoTurn s with
  | some p, some l =>
    match livePiece s l with
    | some (c, r, e) => some (placeCell p (videoCell s l c r e) (cutVideo l c r e s))
    | none => none
  | _, _ => none

/-- R115, R129: the CLIP class. -/
def serveClip (s : State) : Option State :=
  match choosePath s true, clipTurn s with
  | some p, some e =>
    match engineOffer s e with
    | some (c, r, x) => some (cutClip e (placeCell p (clipCell s e c r x) s))
    | none => none
  | _, _ => none

/-- The first of some services that has both a cell and a path. -/
def firstServed : List (State → Option State) → State → State
  | [], s => s
  | f :: fs, s =>
    match f s with
    | some t => t
    | none => firstServed fs s

/-- CELL_ASSEMBLY (R115): one cell of the first class that has both a cell to offer and a candidate path. -/
def cellAssembly (s : State) : State :=
  settleRedispatch (firstServed [serveControl, serveRedispatch, serveAudio, serveLabel, serveVideo, serveClip]
    (settleRedispatch s))

/-! ## Directives (R117, R130) -/

/-- R117: the queue's open state against new marks. -/
def weighOpen (m : Marks) (fill : Nat) (was : Bool) : Bool :=
  if m.high < fill then false else if fill ≤ m.low then true else was

/-- R117: PMRK. -/
def actPmrk (ws : List Word) (s : State) : Answer :=
  let m : Marks := ⟨wordAt ws 1, wordAt ws 2⟩
  match finOf 4 (wordAt ws 0) with
  | none => refuse s .range
  | some p =>
    if m.high < 2 || 128 < m.high || m.high ≤ m.low then refuse s .range
    else
      let o := weighOpen m s.paths[p].queue.length s.asm.opened[p]
      success (s.withAsm { s.asm with marks := s.asm.marks.set p m, opened := s.asm.opened.set p o })

/-- R130: what RDAS gives. A path has a load figure when it is a candidate for a cell that is no picture (DESIGN CHOICE,
notes/assumptions/70.md). -/
def assemblyReport (s : State) : AssemblyReport :=
  let a := s.asm
  { control := a.control.length, redispatch := a.redispatch.length, audio := a.audio.length
    staleTags := a.staleTags.length, staleLabels := a.staleLabels.length
    lanes := Vector.ofFn (fun l => ⟨a.cursors[l].map (fun c => (c.tick, c.slice)), a.awaiting[l], a.gen[l], a.effLimit[l]⟩)
    laneRot := a.laneRot, engineRot := a.engineRot
    paths := Vector.ofFn (fun p => ⟨a.marks[p].high, a.marks[p].low, a.opened[p], s.paths[p].queue.length,
      if isCandidate s false p then some (loadFigure s.paths[p]) else none⟩)
    pathsUp := a.pathsUp, labelRes := a.labelReserve, clipRes := a.clipReserve, videoSeq := a.videoSeq
    clipSeq := a.clipSeq, labelSeq := a.labelSeq, controlSeq := a.controlSeq }

/-- R130: RDAS. -/
def actRdas (_ : List Word) (s : State) : Answer := reply s (.assembler (assemblyReport s))

/-! ## The commands of the cell assembler -/

/-- CELL_ASSEMBLY (R115). -/
def execCellAssembly (s : State) : Host.Outcome State Fault Refusal := live s (fun s => kick (cellAssembly s))

/-- PMRK (R117). -/
def execPmrk (d : Directive) (s : State) : Host.Outcome State Fault Refusal := live s (takeDirective .pmrk d actPmrk)

/-- RDAS (R130). -/
def execRdas (d : Directive) (s : State) : Host.Outcome State Fault Refusal := live s (takeDirective .rdas d actRdas)

end Sys2Proof.Machine
end

