-- ==== Sys2Proof/Machine/Handler.lean ====
section
/-! DEFINITION. The directive handler's own directives (R178, R180, R182, R183), unknown directives (R175), and power-on,
the reset line, the restart and the loss of power (R183, R153). -/

namespace Sys2Proof.Machine

/-! ## Directives of the handler -/

/-- R178: SCOP. -/
def actScop (ws : List Word) (s : State) : Answer :=
  match boolOf (wordAt ws 0), boolOf (wordAt ws 1) with
  | some r, some c => success (s.withHandler { s.handler with scopeRead := r, scopeClip := c })
  | _, _ => refuse s .range

/-- R180: EMSK. -/
def actEmsk (ws : List Word) (s : State) : Answer := success (s.withHandler { s.handler with mask := ws.getD 0 0 })

/-- R180: ECLR. -/
def actEclr (ws : List Word) (s : State) : Answer :=
  let w := ws.getD 0 0
  let gone := s.handler.flags.filter (fun f => inKindSet w f.1)
  reply (s.withHandler { s.handler with flags := s.handler.flags.filter (fun f => !inKindSet w f.1) })
    (.words [BitVec.ofNat 32 gone.length])

/-- R180: what STAT gives. -/
def statusReport (s : State) : StatusReport :=
  { identity := Config.partIdentity, revision := Config.partRevision, station := s.port.station
    latched := s.handler.flags.map (fun f => (eventNumber f.1, f.2)), mask := s.handler.mask, refState := s.ref.state
    scanning := !s.labels.ready, queue := s.handler.queue.length, held := s.port.held.isSome }

/-- R180: STAT. -/
def actStat (_ : List Word) (s : State) : Answer := reply s (.status (statusReport s))

/-- R182: the counters from the first, `n` of them. -/
def counterWords (h : Handler) (first n : Nat) : List Word := (h.counters.toList.drop first).take n

/-- R182: the counters named become 0. -/
def clearCounters (first n : Nat) (h : Handler) : Handler :=
  { h with counters := mapVec (fun i w => if first ≤ i.val ∧ i.val < first + n then 0 else w) h.counters }

/-- R182: CNTR. -/
def actCntr (ws : List Word) (s : State) : Answer :=
  let first := wordAt ws 0
  let n := wordAt ws 1
  match boolOf (wordAt ws 2) with
  | none => refuse s .range
  | some clear =>
    if 39 < first || n < 1 || 40 < n || 40 < first + n then refuse s .range
    else
      reply (if clear then s.withHandler (clearCounters first n s.handler) else s) (.words (counterWords s.handler first n))

/-- R183: RSTR: the handler takes no further directive. -/
def actRstr (_ : List Word) (s : State) : Answer := success (s.withHandler { s.handler with stopped := true })

/-! ## Power, reset and restart (R183) -/

/-- R183: every block returns to the state its chapter gives for power-on; the non-volatile memory, the pins and the
model's own queue stand as they are. -/
def resetBlocks (s : State) : State :=
  { pending := s.pending, power := true, straps := s.straps, freeSeed := s.freeSeed, port := resetPort s.straps
    handler := resetHandler, ref := resetRef, contacts := mapVec (fun _ c => resetContact c.raw) s.contacts
    lanes := Vector.replicate 6 resetLane, store := resetStore, mixer := resetMixer
    paths := mapVec (fun _ c => resetPath c.carrier) s.paths, ret := resetRet, asm := resetAsm, clips := resetClips
    engines := Vector.replicate 2 none, labels := resetLabels s.labels.mem }

/-- POWER_LOSS (R153): a write and an erase in progress are cut off. -/
def powerLoss (s : State) : State := (cutErasing (cutWriting s)).withPower false

/-- POWER_ON (R183). A machine that has power loses it first (notes/assumptions/9.md). -/
def powerOn (straps : Byte) (s : State) : State :=
  resetBlocks ((if s.power then powerLoss s else s).withStraps straps)

/-- RESET_LINE (R183): it acts as power-on. -/
def resetLine (s : State) : State := resetBlocks (cutErasing (cutWriting s))

/-- R183: the response to a taken RSTR. -/
def isRestartResponse (r : Response) : Bool := decide (r.name = dirWord .rstr) && decide (r.result = .success)

/-- R18, R183: the response to RSTR has left the egress queue. -/
def restartDue (s : State) : Bool :=
  s.handler.stopped && !s.port.held.any isRestartResponse &&
    !s.port.egress.any (fun x => match x with | .response r => isRestartResponse r | .notice _ _ _ => false)

/-- R153: at a restart a write in progress is let finish. -/
def finishWriting (s : State) : State :=
  match s.labels.writing with
  | none => s
  | some w =>
    s.withLabels { s.labels with
      mem := Memory.writeRun labelDefault s.labels.mem (slotAddress w.sector w.slot) w.bytes, writing := none }

/-- RESTART (R183). -/
def restart (s : State) : State := if restartDue s then resetBlocks (cutErasing (finishWriting s)) else s

/-! ## The commands -/

/-- POWER_ON (R183). -/
def execPowerOn (straps : Byte) (s : State) : Host.Outcome State Fault Refusal := .next (powerOn straps s)

/-- RESET_LINE (R183). -/
def execResetLine (s : State) : Host.Outcome State Fault Refusal := live s resetLine

/-- RESTART (R183). -/
def execRestart (s : State) : Host.Outcome State Fault Refusal := live s restart

/-- POWER_LOSS (R153). -/
def execPowerLoss (s : State) : Host.Outcome State Fault Refusal := live s powerLoss

/-- UNKNOWN_DIRECTIVE (R175): a name that is not in the summary table is refused UNKNOWN; one that is there makes no
such event. -/
def execUnknownDirective (name : Word) (d : Directive) (s : State) : Host.Outcome State Fault Refusal :=
  if knownName name then .fault .knownName
  else live s (takeFront ⟨name, d⟩ (fun s => refuse s .unknown))

/-- SCOP (R178). -/
def execScop (d : Directive) (s : State) : Host.Outcome State Fault Refusal := live s (takeDirective .scop d actScop)

/-- EMSK (R180). -/
def execEmsk (d : Directive) (s : State) : Host.Outcome State Fault Refusal := live s (takeDirective .emsk d actEmsk)

/-- ECLR (R180). -/
def execEclr (d : Directive) (s : State) : Host.Outcome State Fault Refusal := live s (takeDirective .eclr d actEclr)

/-- STAT (R180). -/
def execStat (d : Directive) (s : State) : Host.Outcome State Fault Refusal := live s (takeDirective .stat d actStat)

/-- CNTR (R182). -/
def execCntr (d : Directive) (s : State) : Host.Outcome State Fault Refusal := live s (takeDirective .cntr d actCntr)

/-- RSTR (R183). -/
def execRstr (d : Directive) (s : State) : Host.Outcome State Fault Refusal := live s (takeDirective .rstr d actRstr)

end Sys2Proof.Machine
end

