-- ==== Sys2Proof/Machine/Dispatch.lean ====
section
/-! DEFINITION. What each command does: one arm for each constructor of `Instr`. -/

namespace Sys2Proof.Machine

def exec (i : Instr) (s : State) : Host.Outcome State Fault Refusal :=
  match i with
  | .powerOn straps => Sys2Proof.Machine.execPowerOn straps s
  | .resetLine => Sys2Proof.Machine.execResetLine s
  | .restart => Sys2Proof.Machine.execRestart s
  | .frameReceived frame => Sys2Proof.Machine.execFrameReceived frame s
  | .linePlaced lane => Sys2Proof.Machine.execLinePlaced lane s
  | .sliceCoded lane coded => Sys2Proof.Machine.execSliceCoded lane coded s
  | .laneStall lane => Sys2Proof.Machine.execLaneStall lane s
  | .blockRequest => Sys2Proof.Machine.execBlockRequest s
  | .blockCompletion => Sys2Proof.Machine.execBlockCompletion s
  | .transmitterFree => Sys2Proof.Machine.execTransmitterFree s
  | .frameTick => Sys2Proof.Machine.execFrameTick s
  | .referencePulse stamp => Sys2Proof.Machine.execReferencePulse stamp s
  | .lockingLoss => Sys2Proof.Machine.execLockingLoss s
  | .referenceLoss => Sys2Proof.Machine.execReferenceLoss s
  | .contactRawChange input closed => Sys2Proof.Machine.execContactRawChange input closed s
  | .filterRunsOut input => Sys2Proof.Machine.execFilterRunsOut input s
  | .carrierPresent path => Sys2Proof.Machine.execCarrierPresent path s
  | .carrierLost path => Sys2Proof.Machine.execCarrierLost path s
  | .offerPacer path => Sys2Proof.Machine.execOfferPacer path s
  | .handshakeTimerExpiry path => Sys2Proof.Machine.execHandshakeTimerExpiry path s
  | .holdTimerExpiry path => Sys2Proof.Machine.execHoldTimerExpiry path s
  | .lineReady path => Sys2Proof.Machine.execLineReady path s
  | .inboundCell path bytes => Sys2Proof.Machine.execInboundCell path bytes s
  | .cellAssembly => Sys2Proof.Machine.execCellAssembly s
  | .recordWriteEnd => Sys2Proof.Machine.execRecordWriteEnd s
  | .eraseEnd => Sys2Proof.Machine.execEraseEnd s
  | .startUpScan => Sys2Proof.Machine.execStartUpScan s
  | .unknownDirective name d => Sys2Proof.Machine.execUnknownDirective name d s
  | .lsta d => Sys2Proof.Machine.execLsta d s
  | .lstp d => Sys2Proof.Machine.execLstp d s
  | .lfmt d => Sys2Proof.Machine.execLfmt d s
  | .lkey d => Sys2Proof.Machine.execLkey d s
  | .rdln d => Sys2Proof.Machine.execRdln d s
  | .lrat d => Sys2Proof.Machine.execLrat d s
  | .lshr d => Sys2Proof.Machine.execLshr d s
  | .rsrv d => Sys2Proof.Machine.execRsrv d s
  | .pmrk d => Sys2Proof.Machine.execPmrk d s
  | .rdas d => Sys2Proof.Machine.execRdas d s
  | .ceil d => Sys2Proof.Machine.execCeil d s
  | .rdst d => Sys2Proof.Machine.execRdst d s
  | .xpnt d => Sys2Proof.Machine.execXpnt d s
  | .bmst d => Sys2Proof.Machine.execBmst d s
  | .srce d => Sys2Proof.Machine.execSrce d s
  | .home d => Sys2Proof.Machine.execHome d s
  | .take d => Sys2Proof.Machine.execTake d s
  | .ramp d => Sys2Proof.Machine.execRamp d s
  | .flaw d => Sys2Proof.Machine.execFlaw d s
  | .rdmt d => Sys2Proof.Machine.execRdmt d s
  | .rdmx d => Sys2Proof.Machine.execRdmx d s
  | .path d => Sys2Proof.Machine.execPath d s
  | .pena d => Sys2Proof.Machine.execPena d s
  | .pdis d => Sys2Proof.Machine.execPdis d s
  | .prst d => Sys2Proof.Machine.execPrst d s
  | .rtrn d => Sys2Proof.Machine.execRtrn d s
  | .rdpt d => Sys2Proof.Machine.execRdpt d s
  | .mkin d => Sys2Proof.Machine.execMkin d s
  | .mkot d => Sys2Proof.Machine.execMkot d s
  | .tmpl d => Sys2Proof.Machine.execTmpl d s
  | .send d => Sys2Proof.Machine.execSend d s
  | .keep d => Sys2Proof.Machine.execKeep d s
  | .disc d => Sys2Proof.Machine.execDisc d s
  | .tagd d => Sys2Proof.Machine.execTagd d s
  | .tagc d => Sys2Proof.Machine.execTagc d s
  | .rdcl d => Sys2Proof.Machine.execRdcl d s
  | .lscl d => Sys2Proof.Machine.execLscl d s
  | .rdls d => Sys2Proof.Machine.execRdls d s
  | .tcod d => Sys2Proof.Machine.execTcod d s
  | .refr d => Sys2Proof.Machine.execRefr d s
  | .cont d => Sys2Proof.Machine.execCont d s
  | .rdrf d => Sys2Proof.Machine.execRdrf d s
  | .scop d => Sys2Proof.Machine.execScop d s
  | .emsk d => Sys2Proof.Machine.execEmsk d s
  | .eclr d => Sys2Proof.Machine.execEclr d s
  | .stat d => Sys2Proof.Machine.execStat d s
  | .cntr d => Sys2Proof.Machine.execCntr d s
  | .rstr d => Sys2Proof.Machine.execRstr d s
  | .powerLoss => Sys2Proof.Machine.execPowerLoss s

end Sys2Proof.Machine
end

