-- ==== Sys2Proof/WellFormed.lean ====
section
/-! DEFINITION. Which commands the spec's events and directives can be: the check that an operand stays in the range that
its rule gives it. -/

namespace Sys2Proof

open Machine

/-- Why a command is ill-formed. -/
inductive IllFormed where
  /-- A coded size that no coding gives: not from 32 to 1,920 times 48 bytes (R28). -/
  | codedSize
  /-- An unknown directive with a name of the summary table (R175). -/
  | knownName
  /-- A cell that is not 256 bytes (R187). -/
  | cellLength
  /-- More parameter words than a packet of 9,000 bytes (R3, R185) or a cell's payload of 240 bytes (R107, R187) holds. -/
  | directiveLength
deriving DecidableEq, Repr

/-- The parameter words that the packet or the cell of a directive has room for (R3, R185, R187). -/
def wordRoom : Side → Nat
  | .van => (9000 - 12 - 8) / 4
  | .home _ => (240 - 8) / 4

/-- A directive fits the packet or the cell that brings it; bytes left over take room too. -/
def checkDirective (d : Directive) : Option IllFormed :=
  if wordRoom d.side < d.words.length + (if d.ragged then 1 else 0) then some .directiveLength else none

/-- The reason a command is ill-formed, or none. -/
def Instr.check : Instr → Option IllFormed
  | .sliceCoded _ coded => if coded.length < 32 || decide (1920 * 48 < coded.length) then some .codedSize else none
  | .inboundCell _ bytes => if bytes.length = 256 then none else some .cellLength
  | .unknownDirective name d => if knownName name then some .knownName else checkDirective d
  | .powerOn _ | .resetLine | .restart | .frameReceived _ | .linePlaced _ | .laneStall _ | .blockRequest
  | .blockCompletion | .transmitterFree | .frameTick | .referencePulse _ | .lockingLoss | .referenceLoss
  | .contactRawChange _ _ | .filterRunsOut _ | .carrierPresent _ | .carrierLost _ | .offerPacer _
  | .handshakeTimerExpiry _ | .holdTimerExpiry _ | .lineReady _ | .cellAssembly | .recordWriteEnd | .eraseEnd
  | .startUpScan | .powerLoss => none
  | .lsta d | .lstp d | .lfmt d | .lkey d | .rdln d | .lrat d | .lshr d | .rsrv d | .pmrk d | .rdas d | .ceil d
  | .rdst d | .xpnt d | .bmst d | .srce d | .home d | .take d | .ramp d | .flaw d | .rdmt d | .rdmx d | .path d
  | .pena d | .pdis d | .prst d | .rtrn d | .rdpt d | .mkin d | .mkot d | .tmpl d | .send d | .keep d | .disc d
  | .tagd d | .tagc d | .rdcl d | .lscl d | .rdls d | .tcod d | .refr d | .cont d | .rdrf d | .scop d | .emsk d
  | .eclr d | .stat d | .cntr d | .rstr d => checkDirective d

/-- The command is well-formed. -/
def Instr.wellFormed (i : Instr) : Bool := i.check.isNone

end Sys2Proof
end

