-- ==== Sys2Proof/Safety.lean ====
section
/-! DEFINITION. The words that the statements use: when a directive is taken and how it is answered, the canonical form of
the two memories, and the capacities that the spec gives the lists. -/

namespace Sys2Proof.Machine

/-! ## A directive that is taken (R175 to R178) -/

/-- The machine with the directive in the handler's hand: it has arrived, if it was not at the front already, and it has
left the input queue. -/
def inHand (q : QueuedDirective) (s : State) : State :=
  let s1 := present q s
  s1.withHandler { s1.handler with queue := s1.handler.queue.tail }

/-- R176: the machine has power, no response is held, no restart is waited for, and the directive is at the front. -/
def atHand (q : QueuedDirective) (s : State) : Bool :=
  s.power && canTake (present q s) && decide ((present q s).handler.queue.head? = some q)

/-- R175: a directive of the summary table is taken and passes the first four checks, so that its owner is asked. -/
def reachesOwner (n : DirName) (d : Directive) (s : State) : Bool :=
  atHand ⟨dirWord n, d⟩ s && (vet n d (inHand ⟨dirWord n, d⟩ s)).isNone

/-- The machine with a directive of the summary table in the handler's hand. -/
def taking (n : DirName) (d : Directive) (s : State) : State := inHand ⟨dirWord n, d⟩ s

/-- R177: the machine `t` with the response to the directive offered. -/
def answered (n : DirName) (d : Directive) (r : Result) (report : Report) (t : State) : State :=
  respond d.side ⟨dirWord n, d.tag, r, report⟩ t

/-- The command that is the directive with a name. -/
def directiveCommand : DirName → Directive → Instr
  | .lsta => .lsta | .lstp => .lstp | .lfmt => .lfmt | .lkey => .lkey | .rdln => .rdln | .lrat => .lrat
  | .lshr => .lshr | .rsrv => .rsrv | .pmrk => .pmrk | .rdas => .rdas | .ceil => .ceil | .rdst => .rdst
  | .xpnt => .xpnt | .bmst => .bmst | .srce => .srce | .home => .home | .take => .take | .ramp => .ramp
  | .flaw => .flaw | .rdmt => .rdmt | .rdmx => .rdmx | .path => .path | .pena => .pena | .pdis => .pdis
  | .prst => .prst | .rtrn => .rtrn | .rdpt => .rdpt | .mkin => .mkin | .mkot => .mkot | .tmpl => .tmpl
  | .send => .send | .keep => .keep | .disc => .disc | .tagd => .tagd | .tagc => .tagc | .rdcl => .rdcl
  | .lscl => .lscl | .rdls => .rdls | .tcod => .tcod | .refr => .refr | .cont => .cont | .rdrf => .rdrf
  | .scop => .scop | .emsk => .emsk | .eclr => .eclr | .stat => .stat | .cntr => .cntr | .rstr => .rstr

/-- The name and the directive of a command that is one of the summary table; none for an event or an unknown name. -/
def directiveOf : Instr → Option (DirName × Directive)
  | .lsta d => some (.lsta, d) | .lstp d => some (.lstp, d) | .lfmt d => some (.lfmt, d) | .lkey d => some (.lkey, d)
  | .rdln d => some (.rdln, d) | .lrat d => some (.lrat, d) | .lshr d => some (.lshr, d) | .rsrv d => some (.rsrv, d)
  | .pmrk d => some (.pmrk, d) | .rdas d => some (.rdas, d) | .ceil d => some (.ceil, d) | .rdst d => some (.rdst, d)
  | .xpnt d => some (.xpnt, d) | .bmst d => some (.bmst, d) | .srce d => some (.srce, d) | .home d => some (.home, d)
  | .take d => some (.take, d) | .ramp d => some (.ramp, d) | .flaw d => some (.flaw, d) | .rdmt d => some (.rdmt, d)
  | .rdmx d => some (.rdmx, d) | .path d => some (.path, d) | .pena d => some (.pena, d) | .pdis d => some (.pdis, d)
  | .prst d => some (.prst, d) | .rtrn d => some (.rtrn, d) | .rdpt d => some (.rdpt, d) | .mkin d => some (.mkin, d)
  | .mkot d => some (.mkot, d) | .tmpl d => some (.tmpl, d) | .send d => some (.send, d) | .keep d => some (.keep, d)
  | .disc d => some (.disc, d) | .tagd d => some (.tagd, d) | .tagc d => some (.tagc, d) | .rdcl d => some (.rdcl, d)
  | .lscl d => some (.lscl, d) | .rdls d => some (.rdls, d) | .tcod d => some (.tcod, d) | .refr d => some (.refr, d)
  | .cont d => some (.cont, d) | .rdrf d => some (.rdrf, d) | .scop d => some (.scop, d) | .emsk d => some (.emsk, d)
  | .eclr d => some (.eclr, d) | .stat d => some (.stat, d) | .cntr d => some (.cntr, d) | .rstr d => some (.rstr, d)
  | .powerOn _ | .resetLine | .restart | .frameReceived _ | .linePlaced _ | .sliceCoded _ _ | .laneStall _
  | .blockRequest | .blockCompletion | .transmitterFree | .frameTick | .referencePulse _ | .lockingLoss
  | .referenceLoss | .contactRawChange _ _ | .filterRunsOut _ | .carrierPresent _ | .carrierLost _
  | .offerPacer _ | .handshakeTimerExpiry _ | .holdTimerExpiry _ | .lineReady _ | .inboundCell _ _
  | .cellAssembly | .recordWriteEnd | .eraseEnd | .startUpScan | .unknownDirective _ _ | .powerLoss => none

/-! ## The label store at the end of a command -/

/-- The directives after which the label writer looks for work: those that may mark a clip (notes/assumptions/19.md). -/
def mayMark : DirName → Bool
  | .mkin | .mkot | .send | .keep | .disc | .tagc | .cont => true
  | .lsta | .lstp | .lfmt | .lkey | .rdln | .lrat | .lshr | .rsrv | .pmrk | .rdas | .ceil | .rdst | .xpnt | .bmst
  | .srce | .home | .take | .ramp | .flaw | .rdmt | .rdmx | .path | .pena | .pdis | .prst | .rtrn | .rdpt | .tmpl
  | .tagd | .rdcl | .lscl | .rdls | .tcod | .refr | .rdrf | .scop | .emsk | .eclr | .stat | .cntr | .rstr => false

/-- The machine at the end of a directive's command. -/
def settled (n : DirName) (t : State) : State := if mayMark n then kick t else t

/-- A directive reaches its owner, which is asked in the state `u`. -/
def reaches (n : DirName) (d : Directive) (s u : State) : Prop := reachesOwner n d s = true ∧ taking n d s = u

/-- R175, R177: the machine `u` after it has refused a directive: nothing but the response. -/
def refused (n : DirName) (d : Directive) (r : Result) (u : State) : State := settled n (answered n d r .empty u)

/-- R133: between `u` and `t` the clips with some ids have been marked, in this order, and no other: both lists and
their overflow flags are as that leaves them. -/
def marked (ids : List Nat) (u t : State) : Prop :=
  let v := ids.foldl (fun s id => mark id s) u
  t.clips.dirty = v.clips.dirty ∧ t.clips.dirtyOverflow = v.clips.dirtyOverflow ∧
    t.asm.staleLabels = v.asm.staleLabels ∧ t.clips.staleOverflow = v.clips.staleOverflow

/-- The writer, the compaction and the erase list have nothing to begin: the scan is not done, or a record is being
written. -/
def writerBusy (g : LabelStore) : Bool := !g.ready || g.writing.isSome

/-! ## Power -/

/-- R183: the machine as power-on leaves it: all at reset but for what stands outside or outlasts power: the straps, the
levels of the contacts and the carriers, and the non-volatile memory; with the model's own queue and seed. -/
def freshFrom (s : State) (straps : Byte) (mem : Memory) : State :=
  { State.reset with
    pending := s.pending, straps := straps, freeSeed := s.freeSeed, port := resetPort straps
    contacts := mapVec (fun _ c => resetContact c.raw) s.contacts
    paths := mapVec (fun _ c => resetPath c.carrier) s.paths, labels := resetLabels mem }

/-- R153, R158: no erase has begun. -/
def noEraseBegun (g : LabelStore) : Bool := g.eraseList.all (fun e => decide (e.done = 0) && e.since.isNone)

/-- Every byte outside a slot of the label memory reads in `m'` as it does in `m`. -/
def sameOutsideSlot (m m' : Memory) (sector slot : Nat) : Prop :=
  ∀ a, a < slotAddress sector slot ∨ slotAddress sector slot + 128 ≤ a →
    Memory.read labelDefault m' a = Memory.read labelDefault m a

/-! ## Invariants -/

/-- Both addressed memories keep their canonical form. -/
def canonicalMemories (s : State) : Bool :=
  Memory.wf dramDefault s.store.dram && Memory.wf labelDefault s.labels.mem

/-- The remote directives in the input queue. -/
def remoteWaiting (l : List QueuedDirective) : Nat := (l.filter (fun q => decide (q.body.side ≠ .van))).length

/-- R16, R120, R176, R178: the input queue holds at most sixteen directives and the egress queue at most thirty-two
packets; a response is held only outside a full egress queue; each remote directive that waits has a place reserved in
the control list, and the control list's cells and its reserved places number at most eight. -/
def handlerBounds (s : State) : Bool :=
  decide (s.handler.queue.length ≤ 16) && decide (s.port.egress.length ≤ 32)
    && (s.port.held.isNone || decide (s.port.egress.length = 32))
    && decide (s.handler.reserved = remoteWaiting s.handler.queue)
    && decide (s.asm.control.length + s.handler.reserved ≤ 8)

/-- R9, R12, R55, R91, R108, R113, R131, R133: the capacities of the intake buffers, the frame index, the send queues, the
jitter queue, the redispatch list, the audio list, the stale lists, the store-dirty list and the clip log; and the
stale-tag list holds tag codes, none twice. -/
def listBounds (s : State) : Bool :=
  s.port.video.toList.all (fun v => decide (v.lines.length ≤ 32))
    && s.port.audio.toList.all (fun v => decide (v.blocks.length ≤ 4))
    && s.paths.toList.all (fun c => decide (c.queue.length ≤ 128)) && decide (s.ret.queue.length ≤ 64)
    && decide (s.asm.redispatch.length ≤ 512) && decide (s.asm.audio.length ≤ 48)
    && decide (s.asm.staleLabels.length ≤ 256) && decide (s.clips.dirty.length ≤ 256)
    && decide (s.clips.clips.length ≤ 256) && decide (recordsInUse s.store ≤ 4096)
    && decide (s.asm.staleTags.length ≤ 64) && decide s.asm.staleTags.Nodup
    && s.asm.staleTags.all (fun k => decide (1 ≤ k ∧ k ≤ 64))

/-- The blocks on the free list and in the block lists of all records. -/
def allBlocks (st : CodedStore) : List Nat := st.free ++ (allRecords st).flatMap (fun p => p.2.blocks)

/-- R67: the blocks that the pinned records count together. -/
def pinnedSum (st : CodedStore) : Nat :=
  ((allRecords st).map (fun p => if 0 < p.2.pins then pinWeight p.2 else 0)).sum

/-- The store's invariant. R53: the free list and the records share out the 16,384 blocks, none twice. R55: the ticks of
each lane's records rise. R56, R60: a record's blocks are at most sixty-four. R67: the pinned blocks are those that the
pinned records count, and at most the ceiling, which R69 keeps within 1,024 to 16,384. -/
def storeSound (st : CodedStore) : Prop :=
  ((allBlocks st).Nodup ∧ (allBlocks st).length = 16384 ∧ ∀ b ∈ allBlocks st, b < 16384) ∧
  (∀ l : Lane, (st.records[l].map FrameRecord.tick).Pairwise (fun a b => earlier a b = true)) ∧
  (∀ l : Lane, ∀ r ∈ st.records[l], r.blocks.length ≤ 64) ∧
  st.pinned = pinnedSum st ∧ st.pinned ≤ st.ceiling ∧ 1024 ≤ st.ceiling ∧ st.ceiling ≤ 16384

/-- Every record is younger than 2^31 ticks, within which the order of ticks is the order of age (R1, R59, R64). -/
def recordsYoung (s : State) : Prop :=
  ∀ l : Lane, ∀ r ∈ s.store.records[l], (s.ref.tick - r.tick).toNat < 2 ^ 31

/-- R37, R51: rate settings that LRAT may load. -/
def settingsInRange (r : RateSettings) : Bool :=
  decide (r.qmin ≤ r.qref) && decide (r.qref ≤ r.qmax) && decide (r.qmax ≤ 63) && decide (r.gain ≤ 64)
    && decide (4096 ≤ r.cb) && decide (r.cb ≤ 4194304) && decide (2 ≤ r.capF) && decide (r.capF ≤ 16)
    && decide (1 ≤ r.kw) && decide (r.kw ≤ 8) && decide (1 ≤ r.latency) && decide (r.latency ≤ 50)

/-- R37, R46, R50: of every lane the rate settings, in force and held, are in range, the fullness is at most Cb, and the
index, and the greatest index of every frame allotment, are at most 63. -/
def rateInRange (s : State) : Bool :=
  s.lanes.toList.all (fun c =>
    settingsInRange c.rate.settings && (match c.rate.held with | some h => settingsInRange h | none => true)
      && decide (c.rate.fullness ≤ c.rate.settings.cb) && decide (c.rate.q ≤ 63)
      && c.rate.allots.all (fun a => decide (a.qmin ≤ a.qmax) && decide (a.qmax ≤ 63)))

end Sys2Proof.Machine
end

