-- ==== Sys2Proof/Certificates/Slice0/Obligations.lean ====
section
/-! DEFINITION. The statements for the provers. -/

open Sys2Proof Sys2Proof.Machine

/-! ## The queue of commands -/

/-- A step runs the command at the front of the queue on the machine with the queue's rest. -/
def Obligations.StepRunsFrontCommand : Prop :=
  ∀ (s : State) (c : Instr) (rest : List Instr), step (s.withPending (c :: rest)) = exec c (s.withPending rest)

/-- On an empty queue a machine with power lets one sample pass, and one without stands still (the model's choice,
notes/assumptions/2.md; a directive that waits is not taken by it, notes/assumptions/8.md); and without power every
command but POWER_ON and those that carry a pin's level leaves the machine as it is (the model's choice,
notes/assumptions/6.md). -/
def Obligations.IdleAndUnpoweredMachines : Prop :=
  (∀ s : State, s.pending = [] →
    (s.power = true → step s = .next (s.withRef { s.ref with clock := s.ref.clock + 1 })) ∧
    (s.power = false → step s = .next s)) ∧
  (∀ (c : Instr) (s t : State), s.power = false → exec c s = .next t →
    (∀ st, c ≠ .powerOn st) → (∀ i b, c ≠ .contactRawChange i b) → (∀ p, c ≠ .carrierPresent p) →
    (∀ p, c ≠ .carrierLost p) → t = s)

/-- Every well-formed command answers a next state; a SLICE_CODED also needs a size that the width of the slice in
work allows (R28). No command, well-formed or not, is ever refused. -/
def Obligations.WellFormedCommandsAnswer : Prop :=
  (∀ (c : Instr) (s : State), c.wellFormed = true →
    (∀ l bytes, c = .sliceCoded l bytes → bytes.length ≤ codingWidth s.lanes[l] * 48 ∨ s.lanes[l].engine = none) →
    ∃ t, exec c s = .next t) ∧
  (∀ (c : Instr) (s : State) (r : Refusal), exec c s ≠ .refused r)

/-! ## The directive handler: arrival, checks and answer -/

/-- At an idle handler with an empty queue a directive that its class, its scope and its shape allow reaches its owner:
a van directive at once, a remote one with a place reserved, which it still holds while it is acted on (R175, R176,
R178). The checks of R175 before the owner's, in their order: BUSY for a clip directive during the scan, SCOPE for a
remote directive of a class that is not allowed, MALFORMED for a wrong shape. The refused directive changes nothing but
the queue it leaves and the response it gets. An unknown directive is answered UNKNOWN before all of these; a known
name is no such command. (Where the model settles what the rules leave open: log entries 8 and 52.) -/
def Obligations.DirectivesAreChecked : Prop :=
  (∀ (n : DirName) (d : Directive) (s : State), s.power = true → s.handler.stopped = false → s.port.held = none →
    s.handler.queue = [] → (isClipDirective n = true → s.labels.ready = true) → d.ragged = false →
    shapeOk n d.words = true →
    (d.side = .van → reachesOwner n d s = true ∧ taking n d s = s) ∧
    (∀ p, d.side = .home p → s.asm.control.length + s.handler.reserved < 8 → scopeOk s.handler n d.side = true →
      reachesOwner n d s = true ∧
      taking n d s = s.withHandler { s.handler with reserved := s.handler.reserved + 1 })) ∧
  (∀ (n : DirName) (d : Directive) (s : State), atHand ⟨dirWord n, d⟩ s = true →
    ((isClipDirective n = true ∧ s.labels.ready = false) →
      exec (directiveCommand n d) s = .next (settled n (answered n d .busy .empty (taking n d s)))) ∧
    (¬(isClipDirective n = true ∧ s.labels.ready = false) → d.side ≠ .van →
      (dirClass n = .vanOnly ∨ (dirClass n = .read ∧ s.handler.scopeRead = false) ∨
        (dirClass n = .clip ∧ s.handler.scopeClip = false)) →
      exec (directiveCommand n d) s = .next (settled n (answered n d .scope .empty (taking n d s)))) ∧
    (¬(isClipDirective n = true ∧ s.labels.ready = false) → scopeOk s.handler n d.side = true →
      (d.ragged = true ∨ shapeOk n d.words = false) →
      exec (directiveCommand n d) s = .next (settled n (answered n d .malformed .empty (taking n d s))))) ∧
  (∀ (name : Word) (d : Directive) (s : State),
    (knownName name = false → atHand ⟨name, d⟩ s = true →
      exec (.unknownDirective name d) s
        = .next (respond d.side ⟨name, d.tag, .unknown, .empty⟩ (inHand ⟨name, d⟩ s))) ∧
    (knownName name = true → exec (.unknownDirective name d) s = .fault .knownName))

/-- R176, R178: a directive that finds the input queue full, or a remote one that finds the control list and its
reserved places at eight, is dropped, counted and reported; the queue stays as it is. R16, R177, R178: a van response
joins the egress queue, or is held outside a full one; a remote response becomes a CONTROL cell at the back of the
control list with the next CONTROL sequence, and its reserved place ends. -/
def Obligations.DirectivesArriveAndResponsesLeave : Prop :=
  (∀ (q : QueuedDirective) (s : State),
    (q.body.side = .van → s.handler.queue.length = 16 →
      arrive q s = s.count ctrDirectivesDropped .directiveDropped 0) ∧
    (∀ p, q.body.side = .home p → 8 ≤ s.asm.control.length + s.handler.reserved →
      arrive q s = s.count ctrRemoteDropped .directiveDropped 1) ∧
    (∀ p, q.body.side = .home p → s.asm.control.length + s.handler.reserved < 8 → s.handler.queue.length = 16 →
      arrive q s = s.count ctrDirectivesDropped .directiveDropped 1) ∧
    (∀ p, q.body.side = .home p → s.asm.control.length + s.handler.reserved < 8 → s.handler.queue.length < 16 →
      arrive q s = s.withHandler
        { s.handler with queue := s.handler.queue ++ [q], reserved := s.handler.reserved + 1 })) ∧
  (∀ (r : Response) (s : State),
    (s.port.egress.length < 32 →
      respond .van r s = s.withPort { s.port with egress := s.port.egress ++ [.response r] }) ∧
    (32 ≤ s.port.egress.length → respond .van r s = s.withPort { s.port with held := some r }) ∧
    (∀ p, ∃ c : Cell, c.kind = .response ∧ c.stream = 0 ∧ c.unit = 0 ∧ c.tick = s.ref.tick ∧
      c.seq = s.asm.controlSeq ∧ c.payload = responsePayload r 58 ∧
      (c.flags.last = true ↔ (reportWords r.report).length ≤ 58) ∧
      respond (.home p) r s =
        (s.withAsm { s.asm with control := s.asm.control ++ [c], controlSeq := s.asm.controlSeq + 1 }).withHandler
          { s.handler with reserved := s.handler.reserved - 1 }))

/-- R178, R180, R182, R183: SCOP, EMSK, ECLR, STAT, RSTR and CNTR act on the handler alone. CNTR answers the values of
the counters it names, in order, and with clear at 1 makes each of them 0, and no other; a word out of range, or a
first counter and a number that pass forty, is refused RANGE. It takes three words and is a READ directive. (Where the
model settles what the rules leave open: log entries 13 and 15.) -/
def Obligations.HandlerDirectivesAct : Prop :=
  (dirClass .cntr = .read ∧ ∀ ws, shapeOk .cntr ws = true ↔ ws.length = 3) ∧
  (∀ (d : Directive) (s u : State),
    (reaches .scop d s u → ∀ r c : Bool, wordAt d.words 0 = r.toNat → wordAt d.words 1 = c.toNat →
      exec (.scop d) s = .next (answered .scop d .success .empty
        (u.withHandler { u.handler with scopeRead := r, scopeClip := c }))) ∧
    (reaches .scop d s u → (1 < wordAt d.words 0 ∨ 1 < wordAt d.words 1) →
      exec (.scop d) s = .next (refused .scop d .range u)) ∧
    (reaches .emsk d s u →
      exec (.emsk d) s = .next (answered .emsk d .success .empty
        (u.withHandler { u.handler with mask := BitVec.ofNat 32 (wordAt d.words 0) }))) ∧
    (reaches .eclr d s u →
      exec (.eclr d) s = .next (answered .eclr d .success
        (.words [BitVec.ofNat 32
          ((u.handler.flags.filter (fun f => (wordAt d.words 0).testBit (eventNumber f.1))).length)])
        (u.withHandler { u.handler with
          flags := u.handler.flags.filter (fun f => !(wordAt d.words 0).testBit (eventNumber f.1)) }))) ∧
    (reaches .stat d s u →
      exec (.stat d) s = .next (answered .stat d .success (.status
        { identity := Config.partIdentity, revision := Config.partRevision, station := s.port.station
          latched := u.handler.flags.map (fun f => (eventNumber f.1, f.2)), mask := s.handler.mask
          refState := s.ref.state, scanning := !s.labels.ready, queue := u.handler.queue.length, held := false }) u)) ∧
    (reaches .rstr d s u →
      exec (.rstr d) s = .next (answered .rstr d .success .empty
        (u.withHandler { u.handler with stopped := true })))) ∧
  (∀ (d : Directive) (s u : State), reaches .cntr d s u →
    (∀ clear : Bool, wordAt d.words 2 = clear.toNat → 1 ≤ wordAt d.words 1 →
      wordAt d.words 0 + wordAt d.words 1 ≤ 40 →
      ∃ (ws : List Word) (counters : Vector Word 40),
        exec (.cntr d) s = .next (answered .cntr d .success (.words ws)
          (u.withHandler { u.handler with counters := counters })) ∧
        ws.length = wordAt d.words 1 ∧
        (∀ j : Fin 40, wordAt d.words 0 ≤ j.val → j.val < wordAt d.words 0 + wordAt d.words 1 →
          ws[j.val - wordAt d.words 0]? = some u.handler.counters[j]) ∧
        (∀ j : Fin 40, counters[j] =
          if clear = true ∧ wordAt d.words 0 ≤ j.val ∧ j.val < wordAt d.words 0 + wordAt d.words 1 then 0
          else u.handler.counters[j])) ∧
    ((1 < wordAt d.words 2 ∨ 39 < wordAt d.words 0 ∨ wordAt d.words 1 < 1 ∨ 40 < wordAt d.words 1 ∨
        40 < wordAt d.words 0 + wordAt d.words 1) →
      exec (.cntr d) s = .next (refused .cntr d .range u)))

/-- R179: latching a pair. One already latched changes nothing; a masked kind joins without a notice; an unmasked one
joins with one notice that carries the kind, the unit and the current tick; at a full egress queue the notice is lost
and the pair stays latched. R181: a counter rises by n modulo 2^32; every other counter but that of the notices lost
stays; and a rise through 2^31 latches COUNTER_HALF for the counter. (Where the model settles what the rules leave
open: log entry 29.) -/
def Obligations.EventsLatchAndCountersRise : Prop :=
  (∀ (s : State) (k : EventKind) (u : Nat),
    ((k, u) ∈ s.handler.flags → s.latch k u = s) ∧
    ((k, u) ∉ s.handler.flags →
      ((k, u) ∈ (s.latch k u).handler.flags ∧
        (∀ f, f ∈ s.handler.flags → f ∈ (s.latch k u).handler.flags) ∧
        (s.handler.mask.getLsbD (eventNumber k) = true → (s.latch k u).port = s.port ∧
          (s.latch k u).handler.counters = s.handler.counters) ∧
        (s.handler.mask.getLsbD (eventNumber k) = false → s.port.egress.length < 32 →
          (s.latch k u).port = { s.port with egress := s.port.egress ++ [.notice k u s.ref.tick] } ∧
          (s.latch k u).handler.counters = s.handler.counters) ∧
        (s.handler.mask.getLsbD (eventNumber k) = false → 32 ≤ s.port.egress.length →
          (s.latch k u).port = s.port ∧
          ∀ j : Fin 40, j ≠ ctrNoticesLost → (s.latch k u).handler.counters[j] = s.handler.counters[j])))) ∧
  (∀ (s : State) (c : Fin 40) (n : Nat), c ≠ ctrNoticesLost → n < 2 ^ 31 →
    (s.bump c n).handler.counters[c] = s.handler.counters[c] + BitVec.ofNat 32 n ∧
    (∀ j : Fin 40, j ≠ c → j ≠ ctrNoticesLost → (s.bump c n).handler.counters[j] = s.handler.counters[j]) ∧
    (s.handler.counters[c].toNat < 2 ^ 31 → 2 ^ 31 ≤ s.handler.counters[c].toNat + n →
      (.counterHalf, c.val) ∈ (s.bump c n).handler.flags) ∧
    (¬(s.handler.counters[c].toNat < 2 ^ 31 ∧ 2 ^ 31 ≤ s.handler.counters[c].toNat + n) →
      (s.bump c n).handler.flags = s.handler.flags ∧ (s.bump c n).port = s.port))

/-! ## Power, reset and restart -/

/-- R183: with no write and no erase to cut short, POWER_ON, the reset line and a restart that is due leave every block
as its chapter gives it for power-on, with the pins and the non-volatile memory as they stood; and the loss of power
changes nothing but the power. The label store's items before its scan, the bytes of the stacked DRAM and the model's
own queue, seed and last outputs stand as the model chooses (log entries 4, 5 and 28); it also settles what the rules
leave open in log entries 9, 16 and 71. -/
def Obligations.ResetEventsStartAfresh : Prop :=
  ∀ s : State, s.labels.writing = none → noEraseBegun s.labels = true →
    (∀ straps, exec (.powerOn straps) s = .next (freshFrom s straps s.labels.mem)) ∧
    (s.power = true → exec .resetLine s = .next (freshFrom s s.straps s.labels.mem)) ∧
    (s.power = true → restartDue s = true → exec .restart s = .next (freshFrom s s.straps s.labels.mem)) ∧
    (s.power = true → restartDue s = false → exec .restart s = .next s) ∧
    (s.power = true → exec .powerLoss s = .next (s.withPower false))

/-- The values that the chapters give for power-on (R19, R37, R69, R74, R91, R108, R113, R164, R178 to R181); and the
machine after power-on meets the invariants below. (Where the model settles what the rules leave open: log entries 3
and 5.) -/
def Obligations.PowerOnValues : Prop :=
  State.reset.pending = [] ∧
  (∀ l : Lane, State.reset.lanes[l].state = .off ∧ State.reset.lanes[l].format = ⟨1920, 1080, 50⟩ ∧
    State.reset.lanes[l].rate.settings = ⟨24, 8, 52, 16, 262144, 4, 4, 12⟩ ∧ State.reset.lanes[l].rate.wOn = 8 ∧
    State.reset.lanes[l].rate.wOff = 4) ∧
  State.reset.store.free.length = 16384 ∧ State.reset.store.ceiling = 12288 ∧ State.reset.store.pinned = 0 ∧
  (∀ src : Fin 36, State.reset.mixer.wordLens[src] = 24) ∧ State.reset.mixer.ramp = 480 ∧
  State.reset.mixer.live.home = [0, 1] ∧
  (∀ p : PathNo, State.reset.paths[p].state = .disabled ∧
    State.reset.paths[p].settings = ⟨false, 2000, true, 2, false, 7⟩ ∧ State.reset.asm.marks[p] = ⟨96, 32⟩) ∧
  State.reset.ret.channels = 2 ∧ State.reset.ret.startDepth = 8 ∧ State.reset.ret.holdMs = 20 ∧
  State.reset.ret.endHold = true ∧ State.reset.asm.labelReserve = 64 ∧ State.reset.asm.clipReserve = 0 ∧
  State.reset.ref.state = .absent ∧ State.reset.ref.rate = .fps50 ∧ State.reset.ref.tick = 0 ∧
  State.reset.handler.scopeRead = false ∧ State.reset.handler.scopeClip = false ∧ State.reset.handler.mask = 0 ∧
  State.reset.handler.flags = [] ∧ (∀ j : Fin 40, State.reset.handler.counters[j] = 0) ∧
  canonicalMemories State.reset = true ∧ handlerBounds State.reset = true ∧ listBounds State.reset = true ∧
  storeSound State.reset.store ∧ recordsYoung State.reset ∧ rateInRange State.reset = true

/-! ## The fabric port -/

/-- R3, R4, R10: a frame that is no lane packet for this station is discarded and counted; so is a lane packet on a
lane that has no owner, and a video packet on a lane that is OFF. R5, R6: the sequence check: any packet passes when
there is no expectation; in order at 0; a gap of d up to 32,767 is counted and reported and the packet goes on; above,
the packet is late, counted and reported, and taken on lane 63 or at the eighth in a row, dropped otherwise. R7, R14,
R176: a packet on lane 63 of the directive kind, with room for a name and a tag, brings its directive from the van to
the handler's queue. That the frame brings the directive and does not take it, also at an idle handler, is the model's
choice: the taking of R176 is the directive's own command (log entry 8). (Where the model settles what the rules leave
open: log entry 31.) -/
def Obligations.FramesGoToTheirLane : Prop :=
  (∀ (f : EthFrame) (s : State), s.power = true →
    ((f.fcsOk = false ∨ f.etherType ≠ 0x88B6 ∨ f.payload.length < 12 ∨ 9000 < f.payload.length ∨
        (f.payload.getD 0 0 ≠ s.port.station ∧ f.payload.getD 0 0 ≠ 255)) →
      exec (.frameReceived f) s = .next (kick (s.bump ctrForeign 1))) ∧
    (isLanePacket s.port.station f = true →
      ((6 ≤ (f.payload.getD 1 0).toNat ∧ (f.payload.getD 1 0).toNat < 8) ∨
        (12 ≤ (f.payload.getD 1 0).toNat ∧ (f.payload.getD 1 0).toNat ≠ 63)) →
      exec (.frameReceived f) s = .next (kick (s.bump ctrUnknownLane 1))) ∧
    (isLanePacket s.port.station f = true →
      ∀ l : Lane, (f.payload.getD 1 0).toNat = l.val → s.lanes[l].state = .off →
      exec (.frameReceived f) s = .next (kick (s.bump ctrIdleLane 1)))) ∧
  (∀ (mgmt : Bool) (e seq : Half) (late d : Nat),
    seqVerdict mgmt ⟨none, late⟩ seq = .inOrder ∧
    seqVerdict mgmt ⟨some e, late⟩ e = .inOrder ∧
    (1 ≤ d → d ≤ 32767 → seqVerdict mgmt ⟨some e, late⟩ (e + BitVec.ofNat 16 d) = .gap d) ∧
    (32768 ≤ d → d ≤ 65535 →
      (mgmt = true → seqVerdict mgmt ⟨some e, late⟩ (e + BitVec.ofNat 16 d) = .lateTaken) ∧
      (mgmt = false → 7 ≤ late → seqVerdict mgmt ⟨some e, late⟩ (e + BitVec.ofNat 16 d) = .lateTaken) ∧
      (mgmt = false → late < 7 → seqVerdict mgmt ⟨some e, late⟩ (e + BitVec.ofNat 16 d) = .lateDropped)) ∧
    (∀ v v' : SeqState, seqAfter v seq (seqVerdict mgmt v' seq) =
      if seqVerdict mgmt v' seq = .lateDropped then ⟨v.expect, v.late + 1⟩ else ⟨some (seq + 1), 0⟩)) ∧
  (∀ (f : EthFrame) (p : LanePacket) (s s0 s1 : State), s.power = true → isLanePacket s.port.station f = true →
    parseLanePacket f.payload = p → p.lane = 63 →
    s0 = s.withPort { s.port with mgmt := ⟨some (p.seq + 1), 0⟩ } →
    s1 = (match seqVerdict true s.port.mgmt p.seq with
      | .gap n => (s0.bump ctrLaneGaps n).latch .laneGap 63
      | .lateTaken => s0.count ctrLateLane .laneGap 63
      | _ => s0) →
    ((p.kind ≠ 4 ∨ p.payload = none ∨ p.length < 8) →
      exec (.frameReceived f) s = .next (kick (s1.count ctrLaneLength .laneLength 63))) ∧
    (∀ bytes, p.kind = 4 → p.payload = some bytes → 8 ≤ p.length → s.handler.queue.length < 16 →
      exec (.frameReceived f) s = .next (kick (s1.withHandler { s1.handler with
        queue := s.handler.queue ++
          [⟨BitVec.ofNat 32 (get32 bytes 0), ⟨.van, BitVec.ofNat 16 (get16 bytes 4), wordsOf (bytes.drop 8),
            decide ((bytes.length - 8) % 4 ≠ 0)⟩⟩] })))) ∧
  (∀ (f : EthFrame) (p : LanePacket) (s : State), s.power = true → isLanePacket s.port.station f = true →
    parseLanePacket f.payload = p →
    (∀ l : Lane, p.lane = l.val → s.lanes[l].state ≠ .off →
      seqVerdict false s.port.video[l].seq p.seq = .lateDropped →
      exec (.frameReceived f) s = .next (kick ((s.setVideo l { s.port.video[l] with
        seq := ⟨s.port.video[l].seq.expect, s.port.video[l].seq.late + 1⟩ }).count ctrLateLane .laneGap l.val))) ∧
    (∀ k : Fin 4, p.lane = 8 + k.val → seqVerdict false s.port.audio[k].seq p.seq = .lateDropped →
      exec (.frameReceived f) s = .next (kick ((s.setAudio k { s.port.audio[k] with
        seq := ⟨s.port.audio[k].seq.expect, s.port.audio[k].seq.late + 1⟩ }).count ctrLateLane .laneGap
          (8 + k.val)))))

/-- R6 to R9: a packet that passes the sequence check, in order, after a gap or late and taken, on the lane of a coder
that is placing a line. One that fails the length check is counted, one that finds thirty-two lines is an overrun, and
any other line joins the back of the intake buffer. R6, R7, R12: such a packet on an audio lane. Its one to four blocks
of 1,152 bytes join the lane's buffer when it holds at most four blocks with them; otherwise the packet is an overrun,
and one of the wrong kind or length is counted. (Where the model settles what the rules leave open: log entries 30 and
32.) -/
def Obligations.LinesAndBlocksJoinTheirBuffers : Prop :=
  (∀ (f : EthFrame) (p : LanePacket) (s s0 s1 : State) (l : Lane) (v : VideoIntake) (x : Line) (fmt : Format),
    s.power = true → isLanePacket s.port.station f = true → parseLanePacket f.payload = p → p.lane = l.val →
    s.lanes[l].state ≠ .off → seqVerdict false s.port.video[l].seq p.seq ≠ .lateDropped →
    v = { s.port.video[l] with seq := ⟨some (p.seq + 1), 0⟩ } → s0 = s.setVideo l v →
    s1 = (match seqVerdict false s.port.video[l].seq p.seq with
      | .gap n => (s0.bump ctrLaneGaps n).latch .laneGap l.val
      | .lateTaken => s0.count ctrLateLane .laneGap l.val
      | _ => s0) →
    x = ⟨p.number, p.extra != 0, p.payload.getD []⟩ → fmt = applicableFormat s.lanes[l] v x →
    (videoLengthOk fmt p = false →
      exec (.frameReceived f) s = .next (kick (s1.count ctrLaneLength .laneLength l.val))) ∧
    (videoLengthOk fmt p = true → 32 ≤ v.lines.length →
      exec (.frameReceived f) s = .next (kick (s1.count ctrLaneOverruns .laneOverrun l.val))) ∧
    (videoLengthOk fmt p = true → v.lines.length < 32 → s.lanes[l].placing.isSome = true →
      exec (.frameReceived f) s = .next (kick (s1.setVideo l
        { v with lines := v.lines ++ [x], prevHanded := some x.number
                 frameFormat := if beginsFrame v.prevHanded x then some fmt else v.frameFormat })))) ∧
  (∀ (f : EthFrame) (p : LanePacket) (s s0 s1 : State) (k : Fin 4) (v : AudioIntake) (bytes : List Byte),
    s.power = true → isLanePacket s.port.station f = true → parseLanePacket f.payload = p → p.lane = 8 + k.val →
    seqVerdict false s.port.audio[k].seq p.seq ≠ .lateDropped →
    v = { s.port.audio[k] with seq := ⟨some (p.seq + 1), 0⟩ } → s0 = s.setAudio k v →
    s1 = (match seqVerdict false s.port.audio[k].seq p.seq with
      | .gap n => (s0.bump ctrLaneGaps n).latch .laneGap (8 + k.val)
      | .lateTaken => s0.count ctrLateLane .laneGap (8 + k.val)
      | _ => s0) →
    ((p.kind ≠ 2 ∨ p.extra = 0 ∨ 4 < p.extra.toNat ∨ p.payload = none ∨ p.length ≠ 1152 * p.extra.toNat) →
      exec (.frameReceived f) s = .next (kick (s1.count ctrLaneLength .laneLength (8 + k.val)))) ∧
    (p.kind = 2 → 1 ≤ p.extra.toNat → p.extra.toNat ≤ 4 → p.payload = some bytes →
      p.length = 1152 * p.extra.toNat →
      (4 < v.blocks.length + p.extra.toNat →
        exec (.frameReceived f) s = .next (kick (s1.count ctrLaneOverruns .laneOverrun (8 + k.val)))) ∧
      (v.blocks.length + p.extra.toNat ≤ 4 → ∃ blocks : List (List Sample),
        exec (.frameReceived f) s = .next (kick (s1.setAudio k { v with blocks := v.blocks ++ blocks })) ∧
        blocks.length = p.extra.toNat ∧
        ∀ n i, n < p.extra.toNat → i < 384 → ∃ b, blocks[n]? = some b ∧ b.length = 384 ∧
          b[i]? = some (sampleOf (bytes.getD (1152 * n + 3 * i) 0) (bytes.getD (1152 * n + 3 * i + 1) 0)
            (bytes.getD (1152 * n + 3 * i + 2) 0)))))

/-- R16, R17: when the transmitter is free the bus packet leaves first, and then the front of the egress queue with
the next sequence; at that departure a held response enters the back of the queue. With nothing to send nothing
changes. The input queue and the handler stay as they were in every clause, also where the held response enters the
egress queue; this is the model's choice (log entry 8): R176 has the handler take the next front directive when the
held response enters, and the model leaves that taking to the directive's own command. (Where the model settles what
the rules leave open besides: log entries 28 and 60.) -/
def Obligations.TransmitterSendsTheBusPacketFirst : Prop :=
  ∀ s : State, s.power = true →
    (∀ b, s.port.bus = some b →
      exec .transmitterFree s
        = .next (s.withPort { s.port with sent := some (busBytes s.port.station b), bus := none })) ∧
    (∀ x rest, s.port.bus = none → s.port.egress = x :: rest → s.port.held = none →
      exec .transmitterFree s = .next (s.withPort { s.port with
        sent := some (egressBytes s.port.station s.port.mgmtSeq x), mgmtSeq := s.port.mgmtSeq + 1, egress := rest })) ∧
    (∀ x rest r, s.port.bus = none → s.port.egress = x :: rest → s.port.held = some r →
      exec .transmitterFree s = .next (s.withPort { s.port with
        sent := some (egressBytes s.port.station s.port.mgmtSeq x), mgmtSeq := s.port.mgmtSeq + 1
        egress := rest ++ [.response r], held := none })) ∧
    (s.port.bus = none → s.port.egress = [] → exec .transmitterFree s = .next s)

/-! ## The lane coders -/

/-- R20, R25, R33, R35: LSTA, LSTP, LFMT and LKEY, each by the state of its lane, or refused RANGE where there is no
such lane. R40, R42, R51: RSRV, LSHR and LRAT load what they name when every word is in range, and are refused RANGE
otherwise. LRAT's settings take effect at once on a lane in OFF and are held on any other. (Where the model settles
what the rules leave open: log entry 34.) -/
def Obligations.LaneAndRateDirectivesAct : Prop :=
  (∀ (d : Directive) (s u : State) (l : Lane), wordAt d.words 0 = l.val →
    (reaches .lsta d s u →
      (u.lanes[l].state = .off → exec (.lsta d) s = .next (answered .lsta d .success .empty
        ((u.setLane l { u.lanes[l] with
          state := .acquire, keyReq := true, delta := 0, lastTick := none, prev := none, fill := none, idle := 0
          rate := { u.lanes[l].rate with
            fullness := u.lanes[l].rate.settings.cb / 2, q := u.lanes[l].rate.settings.qref, force := false
            tallyOn := false, rate := 0, capacity := ⟨0, 0, 0, 0⟩, allots := [] } }).setVideo l
          ⟨⟨none, 0⟩, [], none, none⟩))) ∧
      (u.lanes[l].state ≠ .off → exec (.lsta d) s = .next (refused .lsta d .state u))) ∧
    (reaches .lstp d s u →
      (u.lanes[l].state = .off → exec (.lstp d) s = .next (refused .lstp d .state u)) ∧
      (u.lanes[l].state ≠ .off → (u.lanes[l].frame.isSome = true ∨ u.lanes[l].pass ≠ []) →
        exec (.lstp d) s = .next (answered .lstp d .success .empty
          (u.setLane l { u.lanes[l] with state := .draining, rate := { u.lanes[l].rate with rate := 0 } }))) ∧
      (u.lanes[l].state ≠ .off → u.lanes[l].frame = none → u.lanes[l].pass = [] → ∃ c : LaneCoder,
        exec (.lstp d) s = .next (answered .lstp d .success .empty
          ((u.setLane l c).setVideo l ⟨⟨none, 0⟩, [], none, none⟩)) ∧
        c.state = .off ∧ c.keyReq = false ∧ c.held = none ∧ c.format = u.lanes[l].held.getD u.lanes[l].format ∧
        c.frame = none ∧ c.pass = [] ∧ c.engine = none ∧ c.fill = none ∧ c.prev = none ∧ c.rate.rate = 0 ∧
        c.rate.allots = [])) ∧
    (reaches .lfmt d s u → ∀ w n k, wordAt d.words 1 = w → wordAt d.words 2 = n → wordAt d.words 3 = k →
      (64 ≤ w → w ≤ 1920 → w % 16 = 0 → 16 ≤ n → n ≤ 1088 → 1 ≤ k → k ≤ 255 →
        (u.lanes[l].state = .off → exec (.lfmt d) s = .next (answered .lfmt d .success .empty
          (u.setLane l { u.lanes[l] with format := ⟨w, n, k⟩ }))) ∧
        (u.lanes[l].state ≠ .off → exec (.lfmt d) s = .next (answered .lfmt d .success .empty
          (u.setLane l { u.lanes[l] with held := some ⟨w, n, k⟩ })))) ∧
      ((w < 64 ∨ 1920 < w ∨ w % 16 ≠ 0 ∨ n < 16 ∨ 1088 < n ∨ k < 1 ∨ 255 < k) →
        exec (.lfmt d) s = .next (refused .lfmt d .range u))) ∧
    (reaches .lkey d s u →
      (u.lanes[l].state = .off → exec (.lkey d) s = .next (refused .lkey d .state u)) ∧
      (u.lanes[l].state ≠ .off → exec (.lkey d) s = .next (answered .lkey d .success .empty
        (u.setLane l { u.lanes[l] with keyReq := true }))))) ∧
  (∀ (d : Directive) (s u : State) (l : Lane),
    (reaches .rsrv d s u →
      (wordAt d.words 0 ≤ 2000 → wordAt d.words 1 ≤ 200000 →
        exec (.rsrv d) s = .next (answered .rsrv d .success .empty
          (u.withAsm { u.asm with labelReserve := wordAt d.words 0, clipReserve := wordAt d.words 1 }))) ∧
      ((2000 < wordAt d.words 0 ∨ 200000 < wordAt d.words 1) →
        exec (.rsrv d) s = .next (refused .rsrv d .range u))) ∧
    (reaches .lshr d s u →
      (wordAt d.words 0 = l.val → wordAt d.words 1 ≤ 15 → wordAt d.words 2 ≤ 15 →
        exec (.lshr d) s = .next (answered .lshr d .success .empty (u.setLane l { u.lanes[l] with
          rate := { u.lanes[l].rate with wOn := wordAt d.words 1, wOff := wordAt d.words 2 } }))) ∧
      ((5 < wordAt d.words 0 ∨ 15 < wordAt d.words 1 ∨ 15 < wordAt d.words 2) →
        exec (.lshr d) s = .next (refused .lshr d .range u))) ∧
    (reaches .lrat d s u → ∀ r : RateSettings,
      r = ⟨wordAt d.words 1, wordAt d.words 2, wordAt d.words 3, wordAt d.words 4, wordAt d.words 5, wordAt d.words 6,
        wordAt d.words 7, wordAt d.words 8⟩ →
      (wordAt d.words 0 = l.val → r.qmax ≤ 63 → r.qmin ≤ r.qref → r.qref ≤ r.qmax → r.gain ≤ 64 → 4096 ≤ r.cb →
        r.cb ≤ 4194304 → 2 ≤ r.capF → r.capF ≤ 16 → 1 ≤ r.kw → r.kw ≤ 8 → 1 ≤ r.latency → r.latency ≤ 50 →
        (u.lanes[l].state = .off → exec (.lrat d) s = .next (answered .lrat d .success .empty
          (u.setLane l { u.lanes[l] with
            rate := { u.lanes[l].rate with settings := r, fullness := min r.cb u.lanes[l].rate.fullness } }))) ∧
        (u.lanes[l].state ≠ .off → exec (.lrat d) s = .next (answered .lrat d .success .empty
          (u.setLane l { u.lanes[l] with rate := { u.lanes[l].rate with held := some r } })))) ∧
      ((5 < wordAt d.words 0 ∨ 63 < r.qmax ∨ r.qref < r.qmin ∨ r.qmax < r.qref ∨ 64 < r.gain ∨ r.cb < 4096 ∨
          4194304 < r.cb ∨ r.capF < 2 ∨ 16 < r.capF ∨ r.kw < 1 ∨ 8 < r.kw ∨ r.latency < 1 ∨ 50 < r.latency) →
        exec (.lrat d) s = .next (refused .lrat d .range u)))) ∧
  (∀ (d : Directive) (s u : State), 5 < wordAt d.words 0 →
    (reaches .lsta d s u → exec (.lsta d) s = .next (refused .lsta d .range u)) ∧
    (reaches .lstp d s u → exec (.lstp d) s = .next (refused .lstp d .range u)) ∧
    (reaches .lfmt d s u → exec (.lfmt d) s = .next (refused .lfmt d .range u)) ∧
    (reaches .lkey d s u → exec (.lkey d) s = .next (refused .lkey d .range u)))

/-- R9, R21: a line at an empty intake buffer is taken at once when the coder is not placing. What the coder makes of
a line by its state: ACQUIRE and STALLED wait for a frame start, and a STALLED lane goes to ACQUIRE with its key
request set, where a line with the frame-start flag then begins a frame; a line that begins a frame in DRAINING ends
the frame in progress, and no frame begins: the lane is OFF when its pass list is empty; a line of the wrong length
is counted, and neither begins a frame nor becomes the previous line; a line of a DROPPED or DISCARDED frame, or of
none, is discarded; one that repeats the previous line is counted; any other line of the STORED frame is placed in
its slice and becomes the fill line. R26, R27: the first line of a slice claims a FREE buffer; a line of a later
slice first makes every slice before it ready, in index order, with its missing lines filled, or as an overrun slice.
R26, R29: where no buffer is FREE the slice is an overrun slice, counted and reported; its lines become the fill line
alone, and its last line puts it on the pass list, done, as BLANK in a KEY frame and REPEAT in a DELTA frame, of size
16; at the front of the list it is passed at once (R30), and the last slice of a frame ends it. R22, R23: a frame
that starts in the tick of the previous lane frame start is DISCARDED, in the held format. (Where the model settles
what the rules leave open: log entries 14, 61, 62 and 63.) -/
def Obligations.LinesAreTakenByState : Prop :=
  (∀ (f : EthFrame) (p : LanePacket) (s : State) (l : Lane) (v : VideoIntake) (x : Line) (fmt : Format),
    s.power = true → isLanePacket s.port.station f = true → parseLanePacket f.payload = p → p.lane = l.val →
    s.lanes[l].state ≠ .off → seqVerdict false s.port.video[l].seq p.seq = .inOrder →
    v = { s.port.video[l] with seq := ⟨some (p.seq + 1), 0⟩ } → x = ⟨p.number, p.extra != 0, p.payload.getD []⟩ →
    fmt = applicableFormat s.lanes[l] v x → videoLengthOk fmt p = true → v.lines = [] → s.lanes[l].placing = none →
    exec (.frameReceived f) s = .next (kick (takeLine l x (s.setVideo l { v with
      prevHanded := some x.number
      frameFormat := if beginsFrame v.prevHanded x then some fmt else v.frameFormat })))) ∧
  (∀ (s : State) (l : Lane) (x : Line) (c : LaneCoder) (fmt : Format), s.lanes[l] = c → c.idle < 2 →
    fmt = c.held.getD c.format →
    (c.state = .acquire → beginsFrame c.prev x = false →
      takeLine l x s = s.setLane l { c with idle := 0, prev := some x.number }) ∧
    (c.state = .stalled → x.start = false →
      takeLine l x s = s.setLane l { c with state := .acquire, keyReq := true, idle := 0, prev := some x.number }) ∧
    ((c.state = .acquire ∨ c.state = .coding) → beginsFrame c.prev x = true → x.pixels.length ≠ 2 * fmt.width →
      takeLine l x s = (s.setLane l { c with idle := 0 }).count ctrLaneLength .laneLength l.val) ∧
    ((c.state = .acquire ∨ c.state = .coding) → beginsFrame c.prev x = true → x.pixels.length = 2 * fmt.width →
      c.frame = none → c.lastTick = some s.ref.tick →
      takeLine l x s = (s.setLane l { c with
        state := .coding, idle := 0, prev := some x.number, format := fmt, held := none
        frame := some ⟨fmt, s.ref.tick, s.ref.timecode, .discarded, none, none, 0, none⟩ }).count
          ctrDiscardedForRate .laneRate l.val) ∧
    (c.state = .coding → beginsFrame c.prev x = false → c.frame = none →
      takeLine l x s = s.setLane l { c with idle := 0, prev := some x.number }) ∧
    (c.state = .stalled → x.start = true →
      takeLine l x s = takeLine l x (s.setLane l { c with
        state := .acquire, keyReq := true, idle := 0, prev := none })) ∧
    (∀ u, c.state = .draining → beginsFrame c.prev x = true → endFrame l (s.setLane l { c with idle := 0 }) = u →
      (u.lanes[l].state = .off → takeLine l x s = u) ∧
      (u.lanes[l].state ≠ .off → u.lanes[l].pass ≠ [] →
        takeLine l x s = u.setLane l { u.lanes[l] with prev := some x.number })) ∧
    (c.state = .draining → beginsFrame c.prev x = true → c.frame = none → c.pass ≠ [] →
      takeLine l x s = s.setLane l { c with idle := 0, prev := some x.number }) ∧
    (∀ f, (c.state = .coding ∨ c.state = .draining) → beginsFrame c.prev x = false → c.frame = some f →
      (f.disposition ≠ .stored → takeLine l x s = s.setLane l { c with idle := 0, prev := some x.number }) ∧
      (f.disposition = .stored → c.prev = some x.number →
        takeLine l x s = (s.setLane l { c with idle := 0 }).bump ctrOutOfOrder 1) ∧
      (f.disposition = .stored → c.prev ≠ some x.number → x.pixels.length ≠ 2 * f.format.width →
        takeLine l x s = (s.setLane l { c with idle := 0 }).count ctrLaneLength .laneLength l.val) ∧
      (f.disposition = .stored → c.prev ≠ some x.number → x.pixels.length = 2 * f.format.width →
        (f.format.lines ≤ x.number → c.fill.isSome = true →
          takeLine l x s = s.setLane l { c with idle := 0, prev := some x.number }) ∧
        (∀ b, x.number < f.format.lines → x.number / 16 = f.next → f.begun = some ⟨f.next, some b⟩ →
          takeLine l x s = s.setLane l { c with
            idle := 0, prev := some x.number, fill := some x.pixels, placing := some ⟨f.tick, x.number⟩
            buffers := c.buffers.set b { c.buffers[b] with
              lines := c.buffers[b].lines ++ [(x.number, x.pixels)] } }) ∧
        (x.number < f.format.lines → x.number / 16 = f.next → f.begun = none →
          (∃ b : Fin 2, c.buffers[b].state = .free) → ∃ b : Fin 2, c.buffers[b].state = .free ∧
          takeLine l x s = s.setLane l { c with
            idle := 0, prev := some x.number, fill := some x.pixels, placing := some ⟨f.tick, x.number⟩
            frame := some { f with begun := some ⟨f.next, some b⟩ }
            buffers := c.buffers.set b
              ⟨.filling, f.tick, f.next, [(x.number, x.pixels)], some (c.fill.getD x.pixels)⟩ }) ∧
        (∀ k e rest, x.number < f.format.lines → x.number / 16 = k → f.next < k → x.number ≠ lastLineOf f.format k →
          (∀ g, f.begun = some g → g.index = f.next) → c.placing = none → c.engine.isSome = true →
          c.pass = e :: rest → e.done = none → ∃ (t : State) (late : List PassEntry) (mine : Option (Fin 2)),
          takeLine l x s = t ∧ t.lanes[l].frame = some { f with next := k, begun := some ⟨k, mine⟩ } ∧
          t.lanes[l].prev = some x.number ∧ t.lanes[l].fill = some x.pixels ∧ t.lanes[l].idle = 0 ∧
          t.lanes[l].pass = c.pass ++ late ∧
          late.map (fun y => (y.tick, y.index)) = (List.range (k - f.next)).map (fun i => (f.tick, f.next + i)) ∧
          (∀ y ∈ late, (∀ b, y.buffer = some b → y.done = none ∧ t.lanes[l].buffers[b].state = .ready ∧
              t.lanes[l].buffers[b].lines.map Prod.fst = (List.range 16).map (fun i => 16 * y.index + i)) ∧
            (y.buffer = none →
              y.done = some ⟨if f.kind = some .key then .blank else .repeated, none, 16, []⟩)) ∧
          (∀ b, mine = some b → t.lanes[l].placing = some ⟨f.tick, x.number⟩ ∧
            t.lanes[l].buffers[b] = ⟨.filling, f.tick, k, [(x.number, x.pixels)], some (c.fill.getD x.pixels)⟩) ∧
          (mine = none → t.lanes[l].placing = none ∧ (.laneOverrun, l.val) ∈ t.handler.flags) ∧
          t.store = s.store ∧ (∀ m, m ≠ l → t.lanes[m] = s.lanes[m])) ∧
        (x.number < f.format.lines → x.number / 16 = f.next → f.begun = none →
          (∀ b : Fin 2, c.buffers[b].state ≠ .free) → x.number ≠ lastLineOf f.format f.next →
          takeLine l x s = (s.setLane l { c with
            idle := 0, prev := some x.number, fill := some x.pixels
            frame := some { f with begun := some ⟨f.next, none⟩ } }).count ctrSliceOverruns .laneOverrun l.val) ∧
        (x.number < f.format.lines → x.number / 16 = f.next → f.begun = some ⟨f.next, none⟩ →
          (x.number ≠ lastLineOf f.format f.next → takeLine l x s = s.setLane l { c with
            idle := 0, prev := some x.number, fill := some x.pixels }) ∧
          (∀ e rest, x.number = lastLineOf f.format f.next → f.next + 1 < sliceCount f.format → c.placing = none →
            c.engine.isSome = true → c.pass = e :: rest → e.done = none →
            takeLine l x s = s.setLane l { c with
              idle := 0, prev := some x.number, fill := some x.pixels
              frame := some { f with next := f.next + 1, begun := none }
              pass := c.pass ++ [⟨f.tick, f.next, none,
                some ⟨if f.kind = some .key then .blank else .repeated, none, 16, []⟩⟩] }) ∧
          (∀ v, x.number = lastLineOf f.format f.next → c.placing = none → (c.engine.isSome = true ∨ c.pass = []) →
            passReady l (s.setLane l { c with
              idle := 0
              fill := if f.next + 1 < sliceCount f.format then some x.pixels else none
              frame := if f.next + 1 < sliceCount f.format then some { f with next := f.next + 1, begun := none }
                else none
              pass := c.pass ++ [⟨f.tick, f.next, none,
                some ⟨if f.kind = some .key then .blank else .repeated, none, 16, []⟩⟩] }) = v →
            ((c.state = .coding ∨ f.next + 1 < sliceCount f.format ∨ v.lanes[l].pass ≠ []) →
              takeLine l x s = v.setLane l { v.lanes[l] with prev := some x.number }) ∧
            (c.state = .draining → sliceCount f.format ≤ f.next + 1 → v.lanes[l].pass = [] → ∃ t : State,
              takeLine l x s = t ∧ t.lanes[l].state = .off ∧ t.store = v.store))))))

/-- R22, R24, R43, R125: the first line of a frame in CODING or ACQUIRE, no frame in progress. Held rate settings
take effect, and the lane rates and the capacity are worked with the lane in CODING (R39 to R41). The frame is KEY
when the key request is set or the delta count has reached the key interval less one. Its budget Bf is the lane rate
over the frames of a second, within N × 64 and 1,048,576, and its total Bf, or Bf × kw for a KEY frame. R58: the
frame is offered to the store. When the store takes it, it is STORED: a KEY clears the request, the allotment is
made, its record joins the newest end of the lane's list with the block at the head of the free list, the record is
handed to the clip log (R138), a cursor that names no record then weighs it, and the line is placed in slice 0. When
the store refuses it, it is DROPPED: the key request is set, the delta count stays, the allotment is removed and the
bucket is left as it was. R119, R128: in either case the lag is tested last, against the effective limit under the
settings now in force. R22, R31: a frame in progress ends first, and the frame starts in what that leaves. (Where the
model settles what the rules leave open: log entries 11 and 14.) -/
def Obligations.FrameStartsMakeRecords : Prop :=
  (∀ (s t : State) (l : Lane) (x : Line) (c : LaneCoder) (fmt : Format) (kind : FrameKind) (on : Bool)
    (r : RateSettings) (bf : Nat),
    s.lanes[l] = c → (c.state = .acquire ∨ c.state = .coding) → c.idle < 2 → beginsFrame c.prev x = true →
    fmt = c.held.getD c.format → x.pixels.length = 2 * fmt.width → c.frame = none → c.lastTick ≠ some s.ref.tick →
    (kind = .key ↔ c.keyReq = true ∨ fmt.keyInterval ≤ c.delta + 1) → on = tallyActive s.contacts l →
    takeLine l x s = t → r = c.rate.held.getD c.rate.settings →
    bf = max (sliceCount fmt * 64)
      (min 1048576 (t.lanes[l].rate.rate * 125 / (match s.ref.rate with | .fps50 => 50 | .fps60 => 60))) →
    (t.lanes[l].state = .coding ∧ t.lanes[l].format = fmt ∧ t.lanes[l].held = none ∧
      t.lanes[l].prev = some x.number ∧ t.lanes[l].lastTick = some s.ref.tick ∧ t.lanes[l].idle = 0 ∧
      t.lanes[l].rate.tallyOn = on ∧ t.lanes[l].rate.settings = r ∧ t.lanes[l].rate.held = none) ∧
    (∀ u, workShares l on (s.setLane l { c with state := .coding }) = u → ∀ m : Lane,
      t.lanes[m].rate.rate = u.lanes[m].rate.rate ∧ t.lanes[m].rate.capacity = u.lanes[m].rate.capacity) ∧
    (∀ limit, limit = effectiveLimit (s.setLane l { c with rate := { c.rate with settings := r } }) l →
      16 ≤ fmt.lines → ∃ (s3 s4 t5 : State) (o : State × Bool),
      s3 = { s with lanes := s3.lanes, asm := { s.asm with effLimit := s.asm.effLimit.set l limit } } ∧
      s3.lanes[l].state = .coding ∧ s3.lanes[l].keyReq = c.keyReq ∧
      (∀ m : Lane, m ≠ l → s3.lanes[m] = { s.lanes[m] with rate := s3.lanes[m].rate }) ∧
      o = offerFrame l s.ref.tick s.ref.timecode kind (sliceCount fmt) s3 ∧ s4 = { o.1 with lanes := s4.lanes } ∧
      (∀ m : Lane, m ≠ l → s4.lanes[m] = o.1.lanes[m]) ∧ s4.lanes[l].state = .coding ∧
      (s4.lanes[l].keyReq = true ↔ o.2 = false ∨ (kind = .delta ∧ o.1.lanes[l].keyReq = true)) ∧
      t5 = liveSkip l limit (if o.2 = true then weighNew l s.ref.tick (newRecord l s.ref.tick s4) else s4) ∧
      (o.2 = false ∨ x.number < 15 →
        t.lanes[l].frame.map FrameInProgress.disposition = some (if o.2 = true then .stored else .dropped) ∧
        t.store = t5.store ∧ t.asm = t5.asm ∧ t.clips = t5.clips ∧ t.paths = t5.paths ∧
        t.engines = t5.engines ∧ t.labels = t5.labels ∧ t.mixer = t5.mixer ∧ t.contacts = t5.contacts ∧
        ∀ m : Lane, t.lanes[m].keyReq = t5.lanes[m].keyReq) ∧
      (o.2 = false → t = { t5 with lanes := t.lanes })) ∧
    (tickTest s.store l s.ref.tick = false → s.asm.cursors[l] = none →
      t.lanes[l].frame = some ⟨fmt, s.ref.tick, s.ref.timecode, .dropped, some kind, some on, 0, none⟩ ∧
      t.lanes[l].keyReq = true ∧ t.lanes[l].delta = c.delta ∧ t.store = s.store ∧
      t.lanes[l].rate.allots = c.rate.allots.filter (fun a => decide (a.tick ≠ s.ref.tick)) ∧
      (c.rate.held = none → t.lanes[l].rate.fullness = c.rate.fullness) ∧
      (.frameDropped, l.val) ∈ t.handler.flags) ∧
    (∀ b rest, tickTest s.store l s.ref.tick = true → storeSound s.store → reserveMet s.store = true →
      s.store.free = b :: rest → s.asm.cursors[l] = none → s.clips.clips = [] → x.number < 15 → 16 ≤ fmt.lines →
      fmt.lines ≤ 1088 → c.placing = none → c.buffers[(0 : Fin 2)].state = .free → c.engine.isSome = true →
      t.lanes[l].frame = some ⟨fmt, s.ref.tick, s.ref.timecode, .stored, some kind, some on, 0, some ⟨0, some 0⟩⟩ ∧
      t.lanes[l].keyReq = false ∧ t.lanes[l].delta = (if kind = .key then 0 else c.delta + 1) ∧
      t.lanes[l].placing = some ⟨s.ref.tick, x.number⟩ ∧ t.lanes[l].fill = some x.pixels ∧
      t.lanes[l].buffers[(0 : Fin 2)].state = .filling ∧
      t.lanes[l].buffers[(0 : Fin 2)].lines = [(x.number, x.pixels)] ∧
      t.lanes[l].rate.allots = c.rate.allots ++ [⟨s.ref.tick, kind, sliceCount fmt, bf,
        if kind = .key then bf * r.kw else bf, r.kw, r.capF, r.qmin, r.qmax⟩] ∧
      t.store.free = rest ∧ t.store.pinned = s.store.pinned ∧ t.store.dram = s.store.dram ∧
      (∃ r : FrameRecord, t.store.records[l] = s.store.records[l] ++ [r] ∧ r.tick = s.ref.tick ∧
        r.timecode = s.ref.timecode ∧ r.kind = kind ∧ r.complete = false ∧ r.n = sliceCount fmt ∧ r.blocks = [b] ∧
        r.bytes = 0 ∧ r.slices = [] ∧ r.pins = 0 ∧
        (s.asm.awaiting[l] = true → kind = .delta → r.live = .abandoned ∧ t.asm.cursors[l] = none) ∧
        ((s.asm.awaiting[l] = false ∨ kind = .key) → r.live = .pending ∧
          t.asm.cursors[l] = some ⟨s.ref.tick, 0, 0⟩ ∧ t.asm.awaiting[l] = false)) ∧
      (∀ m, m ≠ l → t.store.records[m] = s.store.records[m]))) ∧
  (∀ (s : State) (l : Lane) (x : Line) (c : LaneCoder), s.lanes[l] = c → c.state = .coding → c.idle < 2 →
    beginsFrame c.prev x = true → x.pixels.length = 2 * (c.held.getD c.format).width →
    takeLine l x s = takeLine l x (endFrame l (s.setLane l { c with idle := 0 })))

/-- R9, R26, R28, R32: the placing of a line that is not its slice's last ends; the placing of the last line of a
slice makes the slice READY, with its missing lines filled, and with the frame's last slice the frame ends. Done
slices at the front of the pass list are then passed (R30), and an idle engine begins the coding of the slice that
became ready first; with a busy engine, and a front entry not done, nothing more happens, and an idle engine with an
empty pass list begins the slice just made READY, at q within the range of its frame, or as O17 states under a force.
R9: the coder then takes the line at the front of its intake buffer, line after line, until one is being placed or
the buffer is empty. A lane stall before the second idle tick changes nothing; at the second, a CODING lane becomes
STALLED, its frame in progress ended. R31: a DROPPED or DISCARDED frame only ends; at the end of a STORED frame every
slice not yet ready joins the pass list, in index order, with a READY buffer or as an overrun slice, each slice with
the passing and the engine's start behind it. R32, R33, R34: a DRAINING lane whose idle ticks run out ends its frame
and stays until its pass list is empty; it is then OFF. R27: the filled slice holds every line of its range in order:
the line taken where there is one; a copy of the nearest earlier line where there is none. (Where the model settles
what the rules leave open: log entries 11, 16, 20 and 34.) -/
def Obligations.PlacedLinesAndStalls : Prop :=
  (∀ (s : State) (l : Lane) (c : LaneCoder), s.power = true → s.lanes[l] = c →
    (∀ p f, c.placing = some p → c.frame = some f → f.disposition = .stored → f.tick = p.tick →
      p.number / 16 = f.next →
      (p.number ≠ lastLineOf f.format f.next →
        exec (.linePlaced l) s = .next (kick (pump l (s.setLane l { c with placing := none })))) ∧
      (∀ b u, p.number = lastLineOf f.format f.next → f.next + 1 < sliceCount f.format →
        f.begun = some ⟨f.next, some b⟩ → u = s.setLane l { c with
          placing := none, frame := some { f with next := f.next + 1, begun := none }
          buffers := c.buffers.set b { c.buffers[b] with
            state := .ready, lines := filledSlice f.format f.next c.buffers[b] }
          pass := c.pass ++ [⟨f.tick, f.next, some b, none⟩] } →
        exec (.linePlaced l) s = .next (kick (pump l (startEngine l 3 (passReady l u)))) ∧
        (c.engine.isSome = true → (∀ e, c.pass.head? = some e → e.done = none) →
          exec (.linePlaced l) s = .next (kick (pump l u))) ∧
        (c.engine = none → c.pass = [] →
          exec (.linePlaced l) s = .next (kick (pump l (beginCoding l b u))) ∧
          (∀ a, findAllotment c.rate f.tick = some a → c.rate.force = false →
            exec (.linePlaced l) s = .next (kick (pump l (u.setLane l { u.lanes[l] with
              engine := some ⟨b, clampNat a.qmin a.qmax c.rate.q⟩
              buffers := u.lanes[l].buffers.set b { u.lanes[l].buffers[b] with state := .coding } })))))) ∧
      (∀ b u w, p.number = lastLineOf f.format f.next → f.next + 1 = sliceCount f.format →
        f.begun = some ⟨f.next, some b⟩ → u = s.setLane l { c with
          placing := none, frame := none, fill := none
          buffers := c.buffers.set b { c.buffers[b] with
            state := .ready, lines := filledSlice f.format f.next c.buffers[b] }
          pass := c.pass ++ [⟨f.tick, f.next, some b, none⟩] } →
        startEngine l 3 (passReady l u) = w →
        ((c.state ≠ .draining ∨ w.lanes[l].pass ≠ []) →
          exec (.linePlaced l) s = .next (kick (pump l w))) ∧
        (c.state = .draining → w.lanes[l].pass = [] → ∃ t, exec (.linePlaced l) s = .next t ∧
          t.lanes[l].state = .off) ∧
        (c.engine.isSome = true → (∀ e, c.pass.head? = some e → e.done = none) →
          exec (.linePlaced l) s = .next (kick (pump l u))) ∧
        (c.engine = none → c.pass = [] → w = beginCoding l b u ∧
          (∀ a, findAllotment c.rate f.tick = some a → c.rate.force = false →
            exec (.linePlaced l) s = .next (kick (pump l (u.setLane l { u.lanes[l] with
              engine := some ⟨b, clampNat a.qmin a.qmax c.rate.q⟩
              buffers := u.lanes[l].buffers.set b { u.lanes[l].buffers[b] with state := .coding } }))))))) ∧
    (∀ p, c.placing = some p → (c.state ≠ .draining ∨ c.frame.isSome = true ∨ c.pass ≠ []) →
      (∀ f, c.frame = some f → f.disposition ≠ .stored ∨ f.tick ≠ p.tick ∨ p.number / 16 ≠ f.next) →
      exec (.linePlaced l) s = .next (kick (pump l (s.setLane l { c with placing := none })))) ∧
    (c.placing = none → exec (.linePlaced l) s = .next (kick s)) ∧
    (c.placing.isSome = true → pump l s = s) ∧ (s.port.video[l].lines = [] → pump l s = s) ∧
    (∀ x rest, c.placing = none → s.port.video[l].lines = x :: rest →
      pump l s = pump l (takeLine l x (s.setVideo l { s.port.video[l] with lines := rest }))) ∧
    (c.idle < 2 → c.state ≠ .draining → exec (.laneStall l) s = .next s) ∧
    (2 ≤ c.idle → c.state = .coding → c.frame = none →
      exec (.laneStall l) s = .next ((s.setLane l { c with
        state := .stalled, idle := 0, rate := { c.rate with rate := 0 } }).count ctrLaneStalls
          .laneStalled l.val)) ∧
    (∀ u, 2 ≤ c.idle → c.state = .coding → endFrame l s = u →
      exec (.laneStall l) s = .next ((u.setLane l { u.lanes[l] with
        state := .stalled, idle := 0, rate := { u.lanes[l].rate with rate := 0 } }).count ctrLaneStalls
          .laneStalled l.val)) ∧
    (∀ u, 2 ≤ c.idle → c.state = .draining → endFrame l (s.setLane l { c with idle := 0 }) = u →
      (u.lanes[l].pass ≠ [] → exec (.laneStall l) s = .next u) ∧
      ((c.frame = none ∨ ∃ f, c.frame = some f ∧ f.disposition ≠ .stored) → c.pass = [] → ∃ k : LaneCoder,
        exec (.laneStall l) s = .next ((s.setLane l k).setVideo l ⟨⟨none, 0⟩, [], none, none⟩) ∧ k.state = .off ∧
        k.format = c.held.getD c.format ∧ k.held = none ∧ k.keyReq = false ∧ k.idle = 0 ∧ k.prev = none ∧
        k.fill = none ∧ k.frame = none ∧ k.pass = [] ∧ k.engine = none ∧ k.rate.rate = 0 ∧ k.rate.allots = []))) ∧
  (∀ (s : State) (l : Lane) (c : LaneCoder), s.lanes[l] = c →
    (c.frame = none → endFrame l s = s) ∧
    (∀ f, c.frame = some f → f.disposition ≠ .stored → (c.state ≠ .draining ∨ c.pass ≠ []) →
      endFrame l s = s.setLane l { c with frame := none, fill := none }) ∧
    (∀ f buf u, c.frame = some f → f.disposition = .stored → f.next + 1 < sliceCount f.format →
      f.begun = some ⟨f.next, buf⟩ →
      u = s.setLane l { c with
        frame := some { f with next := f.next + 1, begun := none }
        buffers := match buf with
          | some b => c.buffers.set b { c.buffers[b] with
              state := .ready, lines := filledSlice f.format f.next c.buffers[b] }
          | none => c.buffers
        pass := c.pass ++ [match buf with
          | some b => ⟨f.tick, f.next, some b, none⟩
          | none => ⟨f.tick, f.next, none,
              some ⟨if f.kind = some .key then .blank else .repeated, none, 16, []⟩⟩] } →
      endFrame l s = endFrame l (startEngine l 3 (passReady l u))) ∧
    (∀ f buf u w, c.frame = some f → f.disposition = .stored → f.next + 1 = sliceCount f.format →
      f.begun = some ⟨f.next, buf⟩ →
      u = s.setLane l { c with
        frame := none, fill := none
        buffers := match buf with
          | some b => c.buffers.set b { c.buffers[b] with
              state := .ready, lines := filledSlice f.format f.next c.buffers[b] }
          | none => c.buffers
        pass := c.pass ++ [match buf with
          | some b => ⟨f.tick, f.next, some b, none⟩
          | none => ⟨f.tick, f.next, none,
              some ⟨if f.kind = some .key then .blank else .repeated, none, 16, []⟩⟩] } →
      w = startEngine l 3 (passReady l u) →
      ((c.state ≠ .draining ∨ w.lanes[l].pass ≠ []) → endFrame l s = w) ∧
      (c.state = .draining → w.lanes[l].pass = [] → ∃ t : State,
        endFrame l s = t ∧ t.lanes[l].state = .off ∧ t.store = w.store)) ∧
    (∀ f, c.frame = some f → f.disposition = .stored → f.next < sliceCount f.format → f.begun = none →
      ((∃ b : Fin 2, c.buffers[b].state = .free) → ∃ b : Fin 2, c.buffers[b].state = .free ∧
        endFrame l s = endFrame l (s.setLane l { c with
          frame := some { f with begun := some ⟨f.next, some b⟩ }
          buffers := c.buffers.set b ⟨.filling, f.tick, f.next, [], c.fill⟩ })) ∧
      ((∀ b : Fin 2, c.buffers[b].state ≠ .free) →
        endFrame l s = endFrame l ((s.setLane l { c with
          frame := some { f with begun := some ⟨f.next, none⟩ } }).count ctrSliceOverruns .laneOverrun l.val))) ∧
    (∀ f e rest, c.frame = some f → f.disposition = .stored → f.next < sliceCount f.format →
      (∀ g, f.begun = some g → g.index = f.next) → c.engine.isSome = true → c.pass = e :: rest → e.done = none →
      ∃ (t : State) (late : List PassEntry), endFrame l s = t ∧ t.lanes[l].frame = none ∧ t.lanes[l].fill = none ∧
        t.lanes[l].state = c.state ∧ t.lanes[l].rate = c.rate ∧ t.lanes[l].engine = c.engine ∧
        t.lanes[l].pass = c.pass ++ late ∧ t.store = s.store ∧ (∀ m, m ≠ l → t.lanes[m] = s.lanes[m]) ∧
        late.map (fun y => (y.tick, y.index))
          = (List.range (sliceCount f.format - f.next)).map (fun i => (f.tick, f.next + i)) ∧
        ∀ y ∈ late, (∀ b, y.buffer = some b → y.done = none ∧ t.lanes[l].buffers[b].state = .ready) ∧
          (y.buffer = none →
            y.done = some ⟨if f.kind = some .key then .blank else .repeated, none, 16, []⟩))) ∧
  (∀ (taken : List (Nat × List Byte)) (near : Option (List Byte)) (n m k : Nat), k < m → ∃ p : List Byte,
    (fillLines taken n m near).length = m ∧ (fillLines taken n m near)[k]? = some (n + k, p) ∧
    (∀ x, taken.find? (fun y => decide (y.1 = n + k)) = some x → p = x.2) ∧
    (taken.find? (fun y => decide (y.1 = n + k)) = none →
      (1 ≤ k → (fillLines taken n m near)[k - 1]? = some (n + (k - 1), p)) ∧
      (k = 0 → (∀ q, near = some q → p = q) ∧ (near = none → ∀ x, taken.head? = some x → p = x.2))))

/-- R28, R30, R45, R46, R48, R50, R62: the slice at the front of the pass list is coded. In a DELTA frame, above its
allotment times the cap factor, it is replaced by a REPEAT slice of size 16, counted and reported. The bucket and the
index take its size, an overflow counted and reported; the buffer is FREE, and the slice goes to the store. The last
slice of its frame makes the record COMPLETE, adds the key debt and removes the allotment. R30: every done slice then
at the front of the pass list is passed in its turn, in the same way. The engine then begins the slice that became
ready first, with q clamped into the range of that slice's frame, or is idle. A DRAINING lane without a frame whose
last slice is passed is OFF (R33, R34). A size that no coding gives is no such event. R47: at the beginning of a
slice's coding the force is cleared: a forced slice of a KEY frame is coded at its qmax, and one of a DELTA frame
goes through the slice-coded steps as REPEAT of size 16, wherever it stands in the pass list, the done slices at the
front passed; the engine, idle, then looks for the next READY slice. (Where the model settles what the rules leave
open: log entries 20 and 52.) -/
def Obligations.CodedSlicesArePassed : Prop :=
  (∀ (s : State) (l : Lane) (bytes : List Byte) (c c1 : LaneCoder) (j : CodingJob) (e : PassEntry)
    (rest : List PassEntry) (a : Allotment) (y : SliceResult) (r1 r2 : RateContext) (st : CodedStore) (u w : State),
    s.power = true → s.lanes[l] = c → c.engine = some j →
    ((bytes.length < 32 ∨ codingWidth c * 48 < bytes.length) → exec (.sliceCoded l bytes) s = .fault .codedSize) ∧
    (32 ≤ bytes.length → bytes.length ≤ codingWidth c * 48 → c.pass = e :: rest → e.buffer = some j.buffer →
      e.done = none → (∀ z ∈ rest, z.done = none → z.buffer ≠ some j.buffer) →
      findAllotment c.rate e.tick = some a →
      y = (if a.kind = .delta ∧ sliceAllotment a e.index * a.capF < bytes.length then ⟨.repeated, none, 16, []⟩
        else ⟨.coded, some j.q, bytes.length, bytes⟩) →
      r1 = rateAfterSlice y.size (sliceAllotment a e.index) c.rate →
      r2 = (if e.index + 1 = a.n then dropAllotment e.tick (addDebt a r1) else r1) →
      st = (if e.index + 1 = a.n then completeRecord (appendSlice l e.tick y s).store l e.tick
        else (appendSlice l e.tick y s).store) →
      c1 = { c with engine := none, buffers := c.buffers.set j.buffer freeBuffer, pass := rest, rate := r2 } →
      u = passReady l ((s.withStore st).setLane l c1) → w = startEngine l 3 u →
      ((c.state ≠ .draining ∨ c.frame.isSome = true ∨ w.lanes[l].pass ≠ []) →
        ∃ t, exec (.sliceCoded l bytes) s = .next t ∧ t.lanes[l] = w.lanes[l] ∧ t.store = w.store ∧
        ((∀ z, rest.head? = some z → z.done = none) → u.lanes[l] = c1 ∧ u.store = st) ∧
        (firstReady u.lanes[l] = none → t.lanes[l] = u.lanes[l] ∧ t.store = u.store) ∧
        (∀ b f z, r1.force = false → firstReady u.lanes[l] = some b → entryIn u.lanes[l] b = some f →
          findAllotment u.lanes[l].rate f.tick = some z → t.store = u.store ∧
          t.lanes[l] = { u.lanes[l] with
            engine := some ⟨b, clampNat z.qmin z.qmax u.lanes[l].rate.q⟩
            buffers := u.lanes[l].buffers.set b { u.lanes[l].buffers[b] with state := .coding } }) ∧
        (∀ m, m ≠ l → t.lanes[m] = s.lanes[m]) ∧
        (y.kind = .repeated → (.sliceCapped, l.val) ∈ t.handler.flags ∧
          t.handler.counters[ctrSlicesCapped] = s.handler.counters[ctrSlicesCapped] + 1) ∧
        (c.rate.settings.cb < c.rate.fullness + y.size - sliceAllotment a e.index →
          (.bucketOverflow, l.val) ∈ t.handler.flags ∧ (firstReady u.lanes[l] = none →
            t.handler.counters[ctrBucketOverflows] = s.handler.counters[ctrBucketOverflows] + 1)) ∧
        t.mixer = s.mixer ∧ t.paths = s.paths ∧ t.asm = s.asm ∧ t.clips = s.clips ∧ t.labels = s.labels ∧
        t.ref = s.ref) ∧
      (c.state = .draining → c.frame = none → w.lanes[l].pass = [] → ∃ t, exec (.sliceCoded l bytes) s = .next t ∧
        t.lanes[l].state = .off ∧ t.lanes[l].pass = [] ∧ t.lanes[l].engine = none ∧ t.lanes[l].keyReq = false ∧
        t.lanes[l].format = c.held.getD c.format ∧ t.lanes[l].held = none ∧ t.lanes[l].rate.allots = [] ∧
        t.port.video[l] = ⟨⟨none, 0⟩, [], none, none⟩ ∧ t.store = w.store))) ∧
  (∀ (s : State) (l : Lane) (b : Fin 2) (c : LaneCoder) (e : PassEntry) (a : Allotment), s.lanes[l] = c →
    entryIn c b = some e → findAllotment c.rate e.tick = some a →
    (c.rate.force = false → beginCoding l b s = s.setLane l { c with
      engine := some ⟨b, clampNat a.qmin a.qmax c.rate.q⟩
      buffers := c.buffers.set b { c.buffers[b] with state := .coding } }) ∧
    (c.rate.force = true → a.kind = .key → beginCoding l b s = s.setLane l { c with
      engine := some ⟨b, a.qmax⟩, buffers := c.buffers.set b { c.buffers[b] with state := .coding }
      rate := { c.rate with force := false, q := a.qmax } }) ∧
    (∀ v, c.rate.force = true → a.kind = .delta →
      passReady l (s.setLane l { c with
        engine := none, buffers := c.buffers.set b freeBuffer
        pass := c.pass.map (fun z =>
          if z.buffer = some b ∧ z.done = none then { z with done := some ⟨.repeated, none, 16, []⟩ } else z)
        rate := rateAfterSlice 16 (sliceAllotment a e.index) { c.rate with force := false } }) = v →
      ∃ t : State, beginCoding l b s = t ∧ t.lanes = v.lanes ∧ t.store = v.store ∧
      (c.pass = [e] → e.index + 1 < a.n →
        t.lanes[l] = { c with
          engine := none, buffers := c.buffers.set b freeBuffer, pass := []
          rate := rateAfterSlice 16 (sliceAllotment a e.index) { c.rate with force := false } } ∧
        t.store = (appendSlice l e.tick ⟨.repeated, none, 16, []⟩ s).store) ∧
      (c.rate.settings.cb < c.rate.fullness + 16 - sliceAllotment a e.index →
        (.bucketOverflow, l.val) ∈ t.handler.flags) ∧
      (∀ m, m ≠ l → t.lanes[m] = s.lanes[m]))) ∧
  (∀ (s : State) (l : Lane) (c : LaneCoder), s.lanes[l] = c →
    (c.pass = [] → passReady l s = s) ∧
    (∀ e rest, c.pass = e :: rest → (e.done = none → passReady l s = s) ∧
      (∀ x s1, e.done = some x → s1 = appendSlice l e.tick x (s.setLane l { c with pass := rest }) →
        ((∀ a, findAllotment c.rate e.tick = some a → e.index + 1 ≠ a.n) → passReady l s = passReady l s1) ∧
        (∀ a, findAllotment c.rate e.tick = some a → e.index + 1 = a.n →
          passReady l s = passReady l ((s1.withStore (completeRecord s1.store l e.tick)).setLane l { c with
            pass := rest, rate := dropAllotment e.tick (addDebt a c.rate) })))) ∧
    (∀ b, firstReady c = some b → ∃ before e behind, c.pass = before ++ e :: behind ∧ e.done = none ∧
      e.buffer = some b ∧ c.buffers[b].state = .ready ∧
      ∀ z ∈ before, z.done = none → ∀ k, z.buffer = some k → c.buffers[k].state ≠ .ready) ∧
    (firstReady c = none → ∀ z ∈ c.pass, z.done = none → ∀ k, z.buffer = some k → c.buffers[k].state ≠ .ready) ∧
    (∀ n : Nat, ((c.engine.isSome = true ∨ firstReady c = none) → startEngine l n s = s) ∧
      (∀ b, c.engine = none → firstReady c = some b → startEngine l (n + 1) s = startEngine l n (beginCoding l b s))))

/-! ## Rate control -/

/-- R44: slice i of an allotment has T / N bytes, and one more when it is among the first T mod N; the allotments of a
frame sum to T; none is below 64 in a frame that is made, and none of a KEY frame below 64 × kw. New rate settings
change no allotment that is made. -/
def Obligations.SliceAllotmentsSumToTotal : Prop :=
  (∀ (r : RateContext) (x : RateSettings) (tick : Word),
    findAllotment { r with settings := x } tick = findAllotment r tick) ∧
  ∀ a : Allotment, 1 ≤ a.n →
    (∀ i, i < a.t % a.n → sliceAllotment a i = a.t / a.n + 1) ∧
    (∀ i, a.t % a.n ≤ i → sliceAllotment a i = a.t / a.n) ∧
    ((List.range a.n).map (sliceAllotment a)).sum = a.t ∧
    (∀ tick kind fps (r : RateContext), a.n ≤ 68 → a = makeAllotment tick kind a.n fps r →
      (kind = .delta → ∀ i, 64 ≤ sliceAllotment a i) ∧ (kind = .key → ∀ i, 64 * r.settings.kw ≤ sliceAllotment a i))

/-- R39 to R41: at a lane frame start R is the sum of the agreed rates of the paths in UP, A is 1,152 times the home
channels, and V is R less A and the two reserves, or 0 below it. The starting lane records its tally. W is the sum of
the weights of the lanes in CODING, by their tallies; each has the floor of V times its weight over W, or 0 with W at
0, and every other lane 0. So the lane rates sum to no more than V, and V is no more than R. R46, R50: after a slice
the bucket takes the size less the allotment and lies within Cb; above Cb the force is set. The index is q_ref +
trunc(G × (F − H) / Cb), limited to four either side of q and clamped into the range. With gain 0 it walks toward
q_ref. R48: the key debt of a KEY frame, clamped to Cb. -/
def Obligations.RatesStayInRange : Prop :=
  (∀ (s t : State) (l : Lane) (on : Bool) (k : Capacity) (weight : Lane → Nat), workShares l on s = t →
    k = t.lanes[l].rate.capacity →
    (∀ m : Lane, weight m = if s.lanes[m].state = .coding
      then (if t.lanes[m].rate.tallyOn = true then s.lanes[m].rate.wOn else s.lanes[m].rate.wOff) else 0) →
    (t.lanes.toList.map (fun c => c.rate.rate)).sum ≤ k.v ∧ k.v ≤ k.r ∧
    k.r = ((List.finRange 4).map (fun p => if s.paths[p].state = .up then s.paths[p].agreed.getD 0 else 0)).sum ∧
    k.a = 1152 * s.mixer.live.home.length ∧
    k.v = k.r - k.a - s.asm.labelReserve - s.asm.clipReserve ∧
    k.w = ((List.finRange 6).map weight).sum ∧
    (∀ m : Lane, t.lanes[m].rate.rate = if k.w = 0 then 0 else k.v * weight m / k.w) ∧
    t.lanes[l].rate.tallyOn = on ∧
    (∀ m : Lane, m ≠ l → t.lanes[m].rate.tallyOn = s.lanes[m].rate.tallyOn ∧
      t.lanes[m].rate.capacity = s.lanes[m].rate.capacity) ∧
    (∀ m : Lane, t.lanes[m].rate.fullness = s.lanes[m].rate.fullness ∧ t.lanes[m].rate.q = s.lanes[m].rate.q ∧
      t.lanes[m].rate.allots = s.lanes[m].rate.allots ∧ t.lanes[m].state = s.lanes[m].state) ∧
    t.store = s.store ∧ t.paths = s.paths ∧ t.asm = s.asm) ∧
  (∀ (r : RateContext) (size a : Nat) (raw : Int), r.settings.qmin ≤ r.settings.qmax →
    raw = r.settings.qref + Int.tdiv (r.settings.gain *
      (((min r.settings.cb (r.fullness + size - a) : Nat) : Int) - ((r.settings.cb / 2 : Nat) : Int))) r.settings.cb →
    (rateAfterSlice size a r).fullness ≤ r.settings.cb ∧
    (rateAfterSlice size a r).fullness = min r.settings.cb (r.fullness + size - a) ∧
    ((rateAfterSlice size a r).q : Int)
      = max (r.settings.qmin : Int) (min (r.settings.qmax : Int) (max ((r.q : Int) - 4) (min ((r.q : Int) + 4) raw))) ∧
    r.settings.qmin ≤ (rateAfterSlice size a r).q ∧ (rateAfterSlice size a r).q ≤ r.settings.qmax ∧
    (r.settings.qmin ≤ r.q → r.q ≤ r.settings.qmax →
      (rateAfterSlice size a r).q ≤ r.q + 4 ∧ r.q ≤ (rateAfterSlice size a r).q + 4) ∧
    (r.settings.gain = 0 → r.settings.qmin ≤ r.settings.qref → r.settings.qref ≤ r.settings.qmax →
      r.q ≤ r.settings.qref + 4 → r.settings.qref ≤ r.q + 4 → (rateAfterSlice size a r).q = r.settings.qref) ∧
    ((rateAfterSlice size a r).force = true ↔ r.force = true ∨ r.settings.cb < r.fullness + size - a)) ∧
  (∀ (a : Allotment) (r : RateContext),
    (a.kind = .key → addDebt a r = { r with fullness := min r.settings.cb (r.fullness + (a.kw - 1) * a.bf) }) ∧
    (a.kind = .delta → addDebt a r = r))

/-! ## The coded store -/

/-- R69: CEIL: RANGE outside 1,024 to 16,384, STATE below the pinned blocks, and otherwise the new ceiling, answered
with the ceiling and the pinned blocks, which it leaves as they are. The ceiling is 12,288 after power-on, the reset
line and the restart. CEIL takes one word. A pinned record that completes before it counts its blocks and no longer
sixty-four. R67, R68: a pin request is granted whole when every record it names is in the index and, unless it names
none, the pinned blocks with them do not pass the ceiling, and is refused otherwise; granted, it raises the pins of
each named record by one and of no other, and the pinned blocks by what the named records without a pin count; a
release of what one pin has raised leaves the store as it was before the pin. (Where the model settles what the rules
leave open: log entry 15.) -/
def Obligations.CeilingAndPins : Prop :=
  (∀ ws, shapeOk .ceil ws = true ↔ ws.length = 1) ∧
  (∀ (d : Directive) (s u : State) (v : Nat), reaches .ceil d s u → wordAt d.words 0 = v →
    ((v < 1024 ∨ 16384 < v) → exec (.ceil d) s = .next (refused .ceil d .range u)) ∧
    (1024 ≤ v → v ≤ 16384 → v < u.store.pinned → exec (.ceil d) s = .next (refused .ceil d .state u)) ∧
    (1024 ≤ v → v ≤ 16384 → u.store.pinned ≤ v →
      exec (.ceil d) s = .next (answered .ceil d .success (.words [BitVec.ofNat 32 v, BitVec.ofNat 32 u.store.pinned])
        (u.withStore { u.store with ceiling := v })))) ∧
  (∀ (c : Instr) (s : State), ((∃ straps, c = .powerOn straps) ∨ (c = .resetLine ∧ s.power = true) ∨
      (c = .restart ∧ s.power = true ∧ restartDue s = true)) →
    ∃ t, exec c s = .next t ∧ t.store.ceiling = 12288) ∧
  (∀ (st : CodedStore) (l : Lane) (t : Word) (r : FrameRecord), findRecord st l t = some r → r.complete = false →
    0 < r.pins → (completeRecord st l t).pinned = st.pinned - 64 + r.blocks.length ∧
      (completeRecord st l t).ceiling = st.ceiling) ∧
  (∀ (st st1 : CodedStore) (names : List (Lane × Word)), st1 = names.foldl (fun st n => pinOne st n.1 n.2) st →
    ((∀ n ∈ names, (findRecord st n.1 n.2).isSome = true) → (names = [] ∨ st1.pinned ≤ st.ceiling) →
      pinRequest st names = some st1) ∧
    ((∃ n ∈ names, findRecord st n.1 n.2 = none) → pinRequest st names = none) ∧
    (names ≠ [] → st.ceiling < st1.pinned → pinRequest st names = none) ∧
    (names.Nodup →
      st1.pinned = st.pinned + (names.map (fun n => match findRecord st n.1 n.2 with
        | some r => if r.pins = 0 then (if r.complete = true then r.blocks.length else 64) else 0
        | none => 0)).sum ∧
      ∀ l t r, findRecord st l t = some r →
        findRecord st1 l t = some { r with pins := if (l, t) ∈ names then r.pins + 1 else r.pins }) ∧
    st1.ceiling = st.ceiling ∧ st1.free = st.free ∧ st1.dram = st.dram) ∧
  (∀ (st : CodedStore) (l : Lane) (t : Word) (r : FrameRecord), findRecord st l t = some r →
    releaseOne (pinOne st l t) l t = st)

/-- R56, R60, R62: a CODED slice of a frame that is not complete, that fits its frame and the free list. Its bytes
read back at the offset its table entry gives; every byte outside the slice, in this frame and in those of other
blocks, reads as before; the record takes its blocks from the front of the free list. R60: a slice passed as REPEAT
or BLANK is appended with its kind, of size 16, and takes no block. R49, R61: a CODED slice that would take the frame
past 1,048,576 bytes, and one that needs more blocks than the free list holds, is appended as REPEAT in a DELTA frame
and BLANK in a KEY frame, of size 16, and so is every later slice of the frame; the first is counted and flags the
record capped, the second is counted and reported. R62: the completion of a record changes nothing else of it, and a
COMPLETE record takes no slice. -/
def Obligations.AppendedSliceReadsBack : Prop :=
  (∀ (s : State) (l : Lane) (tick : Word) (x : SliceResult) (r : FrameRecord) (k : Nat),
    findRecord s.store l tick = some r → r.complete = false → x.kind = .coded → x.size = x.bytes.length →
    r.spoiled = false →
    r.bytes + x.size ≤ 1048576 → Memory.wf dramDefault s.store.dram = true → (r.blocks ++ s.store.free).Nodup →
    r.blocks.length = blocksNeeded r.bytes → k = blocksNeeded (r.bytes + x.size) - r.blocks.length →
    k ≤ s.store.free.length →
    ∃ (st : CodedStore) (r' : FrameRecord), appendSlice l tick x s = s.withStore st ∧
      findRecord st l tick = some r' ∧
      r' = { r with
        blocks := r.blocks ++ s.store.free.take k, bytes := r.bytes + x.size
        slices := r.slices ++ [⟨.coded, x.q, x.size, r.bytes⟩] } ∧
      st.free = s.store.free.drop k ∧
      readFrameBytes st.dram r'.blocks r.bytes x.size = x.bytes ∧
      readFrameBytes st.dram r'.blocks 0 r.bytes = readFrameBytes s.store.dram r.blocks 0 r.bytes ∧
      (∀ a, (∀ i, i < x.size → a ≠ frameAddress r'.blocks (r.bytes + i)) →
        Memory.read dramDefault st.dram a = Memory.read dramDefault s.store.dram a) ∧
      (∀ (blocks : List Nat) (o n : Nat), (∀ b ∈ blocks, b ∉ r'.blocks) → o + n ≤ 16384 * blocks.length →
        readFrameBytes st.dram blocks o n = readFrameBytes s.store.dram blocks o n) ∧
      (∀ m, m ≠ l → st.records[m] = s.store.records[m]) ∧ st.pinned = s.store.pinned ∧ st.ceiling = s.store.ceiling) ∧
  (∀ (s : State) (l : Lane) (tick : Word) (x : SliceResult) (r : FrameRecord) (plain : SliceKind),
    findRecord s.store l tick = some r → r.complete = false →
    plain = (if r.kind = .key then .blank else .repeated) → ∃ st : CodedStore,
    ((x.kind ≠ .coded ∨ r.spoiled = true) → appendSlice l tick x s = s.withStore st ∧
      findRecord st l tick = some { r with
        slices := r.slices ++ [⟨if r.spoiled = true then plain else x.kind, none, 16, r.bytes⟩] }) ∧
    (x.kind = .coded → r.spoiled = false → 1048576 < r.bytes + x.size →
      appendSlice l tick x s = (s.withStore st).bump ctrFramesCapped 1 ∧
      findRecord st l tick = some { r with
        slices := r.slices ++ [⟨plain, none, 16, r.bytes⟩], capped := true, spoiled := true }) ∧
    (x.kind = .coded → r.spoiled = false → r.bytes + x.size ≤ 1048576 →
      s.store.free.length < blocksNeeded (r.bytes + x.size) - r.blocks.length →
      appendSlice l tick x s = (s.withStore st).count ctrFramesShort .storePressure l.val ∧
      findRecord st l tick = some { r with
        slices := r.slices ++ [⟨plain, none, 16, r.bytes⟩], spoiled := true }) ∧
    st.free = s.store.free ∧ st.dram = s.store.dram ∧ st.pinned = s.store.pinned ∧ st.ceiling = s.store.ceiling ∧
    (∀ m, m ≠ l → st.records[m] = s.store.records[m])) ∧
  (∀ (st : CodedStore) (l : Lane) (tick : Word) (r : FrameRecord), findRecord st l tick = some r →
    findRecord (completeRecord st l tick) l tick = some { r with complete := true } ∧
    (completeRecord st l tick).free = st.free ∧ (completeRecord st l tick).dram = st.dram ∧
    (∀ m, m ≠ l → (completeRecord st l tick).records[m] = st.records[m])) ∧
  (∀ (s : State) (l : Lane) (tick : Word) (x : SliceResult) (r : FrameRecord), findRecord s.store l tick = some r →
    r.complete = true → appendSlice l tick x s = s)

/-- R58, R59: the offer of a frame. A tick that is not later than that of the lane's newest record drops the frame.
With the reserve met the frame is STORED: a record at the newest end of its lane's list, with the block at the head
of the free list. Without it the store first reclaims, and the frame is STORED when a record and a block are then
free, and DROPPED otherwise. R63, R64, R65: reclaim takes, turn by turn, the oldest candidate of the records not
unsent, or else of the rest, the lower lane on a tie; the blocks go to the tail of the free list; an unsent record
takes its lane's earlier unsent records with it. It ends when the reserve is met or no candidate is left. It frees no
record that is pinned, being written, or named by a cursor. R65, R127: the lanes of the unsent records are then put
into awaiting key, in order: awaiting key is set, the skip generation rises by one, and a cursor that names an
ABANDONED record seeks onward from it, to the next KEY record that is not ABANDONED, which clears awaiting key, or to
none. R121: the cells at the front of the redispatch list that the generation leaves behind are dropped and counted.
(Where the model settles what the rules leave open: log entries 50 and 64.) -/
def Obligations.FramesAreOfferedAndReclaimed : Prop :=
  (∀ (s : State) (l : Lane) (t : Word) (tc : Timecode) (kind : FrameKind) (n : Nat),
    (∀ r, newestRecord s.store l = some r → later t r.tick = false →
      offerFrame l t tc kind n s = (s.count ctrFramesDropped .frameDropped l.val, false)) ∧
    ((∀ r, newestRecord s.store l = some r → later t r.tick = true) →
      (reserveMet s.store = true → ∃ b rest, s.store.free = b :: rest ∧
        offerFrame l t tc kind n s = (s.withStore { s.store with
          free := rest
          records := s.store.records.set l
            (s.store.records[l] ++ [⟨t, tc, kind, false, n, [b], 0, [], 0, .pending, false, false⟩]) }, true)) ∧
      (∀ u, reserveMet s.store = false → u = awaitingOrders (reclaim (recordsInUse s.store) [] s).2
          (reclaim (recordsInUse s.store) [] s).1 →
        (∀ b rest, recordsInUse u.store < 4096 → u.store.free = b :: rest →
          offerFrame l t tc kind n s = (u.withStore { u.store with
            free := rest
            records := u.store.records.set l
              (u.store.records[l] ++ [⟨t, tc, kind, false, n, [b], 0, [], 0, .pending, false, false⟩]) }, true)) ∧
        ((4096 ≤ recordsInUse u.store ∨ u.store.free = []) →
          offerFrame l t tc kind n s = (u.count ctrFramesDropped .frameDropped l.val, false))))) ∧
  (∀ (s : State) (l : Lane) (r : FrameRecord), nextCandidate s = some (l, r) →
    r ∈ s.store.records[l] ∧ candidate s l r = true ∧
    ∀ (m : Lane) (y : FrameRecord), y ∈ s.store.records[m] → candidate s m y = true →
      (unsent r = true → unsent y = true) ∧
      (unsent y = unsent r → (s.ref.tick - y.tick).toNat < (s.ref.tick - r.tick).toNat ∨
        ((s.ref.tick - y.tick).toNat = (s.ref.tick - r.tick).toNat ∧ l ≤ m))) ∧
  (∀ (s u : State) (l : Lane) (r : FrameRecord) (n : Nat) (orders : List Lane), reserveMet s.store = false →
    nextCandidate s = some (l, r) →
    u = (s.withStore { s.store with
      free := s.store.free ++ r.blocks
      records := s.store.records.set l (s.store.records[l].filter (fun x => decide (x.tick ≠ r.tick))) }).bump
        ctrFramesReclaimed 1 →
    (unsent r = false → reclaim (n + 1) orders s = reclaim n orders u) ∧
    (unsent r = true → ∃ v, reclaim (n + 1) orders s = reclaim n (orders ++ [l]) v ∧
      v.store.records[l] = u.store.records[l].map (fun x =>
        if earlier x.tick r.tick = true ∧ unsent x = true then { x with live := .abandoned } else x) ∧
      (∀ m, m ≠ l → v.store.records[m] = u.store.records[m]) ∧ v.store.free = u.store.free ∧
      (v.lanes[l].keyReq = true ∨ s.lanes[l].state = .off) ∧ (.storePressure, l.val) ∈ v.handler.flags)) ∧
  (∀ (s : State) (orders : List Lane) (n : Nat), recordsInUse s.store ≤ n →
    reserveMet (reclaim n orders s).1.store = true ∨ nextCandidate (reclaim n orders s).1 = none) ∧
  (∀ (s : State) (l : Lane) (r : FrameRecord) (n : Nat) (orders : List Lane),
    (∀ m : Lane, (s.store.records[m].map FrameRecord.tick).Nodup) → r ∈ s.store.records[l] →
    (0 < r.pins ∨ r.complete = false ∨ cursorNames s l r.tick = true) →
    ∃ r' ∈ (reclaim n orders s).1.store.records[l], r'.tick = r.tick ∧ r'.pins = r.pins ∧ r'.blocks = r.blocks ∧
      r'.slices = r.slices ∧ r'.complete = r.complete) ∧
  (∀ (s : State) (l : Lane) (ls : List Lane), awaitingOrders [] s = s ∧
    awaitingOrders (l :: ls) s = awaitingOrders ls (enterAwaiting l s)) ∧
  (∀ (s t : State) (l : Lane), enterAwaiting l s = t →
    t.asm.gen = s.asm.gen.set l (s.asm.gen[l] + 1) ∧
    ((∀ c r, s.asm.cursors[l] = some c → findRecord s.store l c.tick = some r → r.live ≠ .abandoned) →
      t.asm.awaiting = s.asm.awaiting.set l true ∧ t.asm.cursors = s.asm.cursors ∧ t.store = s.store) ∧
    (∀ c r v, s.asm.cursors[l] = some c → findRecord s.store l c.tick = some r → r.live = .abandoned →
      seek l (recordsAfter s.store l c.tick) (s.withAsm { s.asm with
        awaiting := s.asm.awaiting.set l true, gen := s.asm.gen.set l (s.asm.gen[l] + 1) }) = v →
      t.asm.awaiting = v.asm.awaiting ∧ t.asm.cursors = v.asm.cursors ∧ t.store = v.store ∧
      (∀ before y behind, recordsAfter s.store l c.tick = before ++ y :: behind → y.kind = .key →
        y.live ≠ .abandoned → (∀ z ∈ before, z.live = .abandoned ∨ z.kind = .delta) →
        t.asm.cursors[l] = some ⟨y.tick, 0, 0⟩ ∧ t.asm.awaiting[l] = false) ∧
      ((∀ z ∈ recordsAfter s.store l c.tick, z.live = .abandoned ∨ z.kind = .delta) →
        t.asm.cursors[l] = none ∧ t.asm.awaiting[l] = true)) ∧
    (∀ m, m ≠ l → t.asm.cursors[m] = s.asm.cursors[m] ∧ t.asm.awaiting[m] = s.asm.awaiting[m] ∧
      t.store.records[m] = s.store.records[m]) ∧
    t.asm.redispatch = s.asm.redispatch.dropWhile (staleCell t.asm.gen) ∧
    t.handler.counters[ctrRedispatchDropped] = s.handler.counters[ctrRedispatchDropped]
      + BitVec.ofNat 32 (s.asm.redispatch.length - t.asm.redispatch.length) ∧
    t.lanes = s.lanes ∧ t.paths = s.paths ∧ t.mixer = s.mixer ∧ t.clips = s.clips ∧ t.engines = s.engines ∧
    t.ref = s.ref)

/-! ## The sound mixer -/

/-- R82: XPNT and BMST write a position into the cued bank and nothing else, in every state of the mixer; a word out of
its range is refused RANGE, and nothing changes. They take three words and two. At a frame tick a pending take is armed
with the cued bank (R84). R78, R81, R83, R84, R86, R89: SRCE, HOME, TAKE, RAMP, FLAW and RDMT. SRCE is refused FULL
when the delays would sum to more than 131,072. (Where the model settles what the rules leave open: log entry 15.) -/
def Obligations.MixerDirectivesAct : Prop :=
  ((∀ ws, (shapeOk .xpnt ws = true ↔ ws.length = 3) ∧ (shapeOk .bmst ws = true ↔ ws.length = 2)) ∧
  (∀ s : State, s.power = true → s.mixer.takePending = true → s.mixer.takeArmed = none → ∃ t x,
    exec .frameTick s = .next t ∧ t.mixer.takeArmed = some x ∧ x.bank = s.mixer.cued) ∧
  ∀ (d : Directive) (s u : State) (src : Fin 36) (b : Fin 8),
    (reaches .xpnt d s u →
      (wordAt d.words 0 = src.val → wordAt d.words 1 = b.val → wordAt d.words 2 ≤ 255 →
        exec (.xpnt d) s = .next (answered .xpnt d .success .empty (u.withMixer { u.mixer with
          cued := { u.mixer.cued with
            xp := u.mixer.cued.xp.set (src.val * 8 + b.val) (wordAt d.words 2) (by omega) } }))) ∧
      ((35 < wordAt d.words 0 ∨ 7 < wordAt d.words 1 ∨ 255 < wordAt d.words 2) →
        exec (.xpnt d) s = .next (refused .xpnt d .range u))) ∧
    (reaches .bmst d s u →
      (wordAt d.words 0 = b.val → wordAt d.words 1 ≤ 255 →
        exec (.bmst d) s = .next (answered .bmst d .success .empty (u.withMixer { u.mixer with
          cued := { u.mixer.cued with masters := u.mixer.cued.masters.set b (wordAt d.words 1) } }))) ∧
      ((7 < wordAt d.words 0 ∨ 255 < wordAt d.words 1) → exec (.bmst d) s = .next (refused .bmst d .range u)))) ∧
  (∀ (d : Directive) (s u : State) (src : Fin 36),
    (reaches .srce d s u → ∀ (w : Nat) (inv : Bool) (delays : Vector Nat 36),
      wordAt d.words 0 = src.val → wordAt d.words 1 = w → (w = 16 ∨ w = 20 ∨ w = 24) → wordAt d.words 2 = inv.toNat →
      wordAt d.words 3 ≤ 9600 → delays = u.mixer.cued.delays.set src (wordAt d.words 3) →
      (delays.toList.sum ≤ 131072 → exec (.srce d) s = .next (answered .srce d .success
        (.words [BitVec.ofNat 32 delays.toList.sum]) (u.withMixer { u.mixer with
          wordLens := u.mixer.wordLens.set src w
          cued := { u.mixer.cued with delays := delays, invert := u.mixer.cued.invert.set src inv } }))) ∧
      (131072 < delays.toList.sum → exec (.srce d) s = .next (refused .srce d .full u))) ∧
    (reaches .srce d s u →
      (35 < wordAt d.words 0 ∨ (wordAt d.words 1 ≠ 16 ∧ wordAt d.words 1 ≠ 20 ∧ wordAt d.words 1 ≠ 24) ∨
        1 < wordAt d.words 2 ∨ 9600 < wordAt d.words 3) → exec (.srce d) s = .next (refused .srce d .range u)) ∧
    (reaches .home d s u → ∀ l : List (Fin 8),
      d.words.map (fun w => w.toNat) = l.map Fin.val →
      (l.Nodup → exec (.home d) s = .next (answered .home d .success .empty
        (u.withMixer { u.mixer with cued := { u.mixer.cued with home := l } }))) ∧
      (¬l.Nodup → exec (.home d) s = .next (refused .home d .range u))) ∧
    (reaches .home d s u → (∃ w ∈ d.words, 7 < w.toNat) → exec (.home d) s = .next (refused .home d .range u)) ∧
    (reaches .take d s u → exec (.take d) s = .next (answered .take d .success (.takeState u.mixer.takePending)
      (u.withMixer { u.mixer with takePending := true }))) ∧
    (reaches .ramp d s u →
      (wordAt d.words 0 ≤ 4800 → exec (.ramp d) s = .next (answered .ramp d .success .empty
        (u.withMixer { u.mixer with ramp := wordAt d.words 0 }))) ∧
      (4800 < wordAt d.words 0 → exec (.ramp d) s = .next (refused .ramp d .range u))) ∧
    (reaches .flaw d s u →
      ((∀ i, i < 256 → wordAt d.words i ≤ 65535) → (∀ i, i < 255 → wordAt d.words i ≤ wordAt d.words (i + 1)) →
        exec (.flaw d) s = .next (answered .flaw d .success .empty
          (u.withMixer { u.mixer with law := Vector.ofFn (fun i : Fin 256 => wordAt d.words i.val) }))) ∧
      (((∃ i, i < 256 ∧ 65535 < wordAt d.words i) ∨ ∃ i, i < 255 ∧ wordAt d.words (i + 1) < wordAt d.words i) →
        exec (.flaw d) s = .next (refused .flaw d .range u))) ∧
    (reaches .rdmt d s u → exec (.rdmt d) s = .next (answered .rdmt d .success
      (.meters u.mixer.srcPeak.toList u.mixer.busPeak.toList u.mixer.clipCount.toList)
      (u.withMixer { u.mixer with
        srcPeak := Vector.replicate 36 0, busPeak := Vector.replicate 8 0, clipCount := Vector.replicate 8 0 }))))

/-- R13, R72, R73, R75: the block request, with no block in work: each audio lane's front block is handed over, or
the lane underruns, its flag set and the audio underruns counter (16) raised by one for each such lane; its samples
are those of sources 8k to 8k + 7, and the return receiver's those of sources 32 to 35; and the word lengths in force
are fixed. R77, R85: a take that was armed at or before the block's first sample is applied: the live bank is the
take's, every crosspoint and master is retargeted to the value the take looked up, and a source whose delay changes
begins a fade. (Where the model settles what the rules leave open: log entries 12, 65 and 73.) -/
def Obligations.BlockRequestTakesTheFrontBlocks : Prop :=
  ∀ s : State, s.power = true → s.mixer.work = none → ∃ (t : State) (w : BlockWork),
    exec .blockRequest s = .next t ∧ t.mixer.work = some w ∧ w.input.length = 48 ∧
    w.wordLens = s.mixer.wordLens ∧ t.mixer.block = s.mixer.block ∧
    (∀ k : Fin 4, t.port.audio[k].blocks = s.port.audio[k].blocks.tail ∧
      t.port.audio[k].seq = s.port.audio[k].seq ∧
      ((.audioUnderrun, 8 + k.val) ∈ t.handler.flags ↔
        s.port.audio[k].blocks = [] ∨ (.audioUnderrun, 8 + k.val) ∈ s.handler.flags) ∧
      ∀ i c, i < 48 → c < 8 → ((w.input.getD i []).getD (8 * k.val + c) 0)
        = (s.port.audio[k].blocks.headD []).getD (8 * i + c) 0) ∧
    t.handler.counters[ctrAudioUnderruns] = s.handler.counters[ctrAudioUnderruns]
      + BitVec.ofNat 32 ((List.finRange 4).filter (fun k => decide (s.port.audio[k].blocks = []))).length ∧
    (∀ i c, i < 48 → c < 4 → (w.input.getD i []).getD (32 + c) 0 = ((returnBlock s).2.getD i []).getD c 0) ∧
    t.ret = (returnBlock s).1.ret ∧ t.paths = (returnBlock s).1.paths ∧
    ((∀ x, s.mixer.takeArmed = some x → 48 * s.mixer.block < x.sample) →
      t.mixer = { s.mixer with work := some w }) ∧
    (∀ x, s.mixer.takeArmed = some x → x.sample ≤ 48 * s.mixer.block →
      t.mixer.live = x.bank ∧ t.mixer.takeArmed = none ∧ t.mixer.cued = s.mixer.cued ∧
      t.mixer.takePending = s.mixer.takePending ∧ t.mixer.ramp = s.mixer.ramp ∧ t.mixer.history = s.mixer.history ∧
      (∀ i : Fin 288, t.mixer.xp[i] = retarget s.mixer.ramp x.xpCoef[i] s.mixer.xp[i]) ∧
      (∀ b : Fin 8, t.mixer.masters[b] = retarget s.mixer.ramp x.msCoef[b] s.mixer.masters[b]) ∧
      ∀ (src : Fin 36) (f : Fade), s.mixer.fades[src] = f →
        (x.bank.delays[src] = s.mixer.live.delays[src] → t.mixer.fades[src] = f) ∧
        (x.bank.delays[src] ≠ s.mixer.live.delays[src] →
          t.mixer.fades[src].state = .fadingOut ∧ t.mixer.fades[src].readDelay = f.readDelay ∧
          t.mixer.fades[src].level = if f.state = .steady then 48 else f.level)) ∧
    t.lanes = s.lanes ∧ t.store = s.store ∧ t.asm = s.asm ∧ t.clips = s.clips ∧ t.labels = s.labels

/-- R15, R72, R79, R80, R90: the completion of the block in work: the block number rises, the bus packet of the block
waits with 384 samples, each within the range of a sample, and no block is in work; the tables the user loads stay. Each
sample is the bus output of the stage outputs of the thirty-six sources with the crosspoints and the master of that
sample, saturated; each clipped sample is counted and reported. R89: each source's and each bus's peak is the greatest
magnitude since the last read. R87, R88: the block's samples join the cell period; the one that ends in it is handed on
as one AUDIO cell for each of its buses, in their order, with its tick, its offset, the bus's sequence and its eighty
samples, and a new period begins with the live home-channel list. R88: the stamp is, among the ticks that have come when
the cell is handed on, the last one at or before the period's first sample, with the offset from it, at most 4,095.
R122: a cell handed at a full audio list drops the front cell, counted and reported. With no block in work nothing
happens. R17: a bus packet that still waits is replaced by the new one and counted as lost (counter 6, which lost
notices share, R181: with the queue not full none is lost); that the new one takes the sequence of the one it replaces
is the model's choice (log entry 17: the lost packet "does not take a sequence number"). (Where the model settles what
the rules leave open: log entries 16, 17, 44, 58 and 93.) -/
def Obligations.BlockCompletionBuildsTheBusPacket : Prop :=
  (∀ s : State, s.power = true →
    (s.mixer.work = none → exec .blockCompletion s = .next s) ∧
    (∀ (w : BlockWork) (stage : Fin 36 → List Sample) (out : Nat → Fin 8 → Int) (clipped : Fin 8 → Nat) (o : Nat),
      s.mixer.work = some w →
      (∀ src : Fin 36, stage src = (sourceStage w.wordLens[src] s.mixer.live.invert[src] s.mixer.live.delays[src]
        (48 * s.mixer.block) (w.input.map (fun x => x.getD src.val 0)) s.mixer.fades[src] s.mixer.history[src]).1) →
      (∀ (i : Nat) (bus : Fin 8), out i bus = busOut ((List.finRange 36).map (fun src => (stage src).getD i 0))
        ((List.finRange 36).map (fun src => coefAt s.mixer.xp[xpIndex src bus] (i + 1)))
        (coefAt s.mixer.masters[bus] (i + 1))) →
      (∀ bus, clipped bus = ((List.range 48).filter (fun i => clips (out i bus))).length) →
      o = 48 * s.mixer.block % 80 → ∃ (t : State) (b : BusPacket) (frames : List (List Sample)),
      exec .blockCompletion s = .next t ∧ t.mixer.work = none ∧ t.mixer.block = s.mixer.block + 1 ∧
      t.port.bus = some b ∧ b.block = s.mixer.block ∧ b.samples = frames.flatten ∧ b.samples.length = 384 ∧
      (∀ x ∈ b.samples, -8388608 ≤ x ∧ x ≤ 8388607) ∧
      frames = (List.range 48).map (fun i => (List.finRange 8).map (fun bus => saturate (out i bus))) ∧
      (∀ (i : Nat) (bus : Fin 8), i < 48 → b.samples.getD (8 * i + bus.val) 0 = saturate (out i bus)) ∧
      (s.port.bus = none → b.seq = s.port.busSeq ∧ t.port.busSeq = s.port.busSeq + 1 ∧
        (t.port.egress.length < 32 → t.handler.counters[ctrBusLost] = s.handler.counters[ctrBusLost])) ∧
      (∀ old, s.port.bus = some old → b.seq = old.seq ∧ t.port.busSeq = s.port.busSeq ∧
        (t.port.egress.length < 32 →
          t.handler.counters[ctrBusLost] = s.handler.counters[ctrBusLost] + 1)) ∧
      (∀ bus : Fin 8, (clipped bus = 0 → t.mixer.clipCount[bus] = s.mixer.clipCount[bus]) ∧
        (0 < clipped bus → t.mixer.clipCount[bus] = min 4294967295 (s.mixer.clipCount[bus] + clipped bus) ∧
          (.busClip, bus.val) ∈ t.handler.flags)) ∧
      t.handler.counters[ctrBusClips]
        = s.handler.counters[ctrBusClips] + BitVec.ofNat 32 ((List.finRange 8).map clipped).sum ∧
      (∀ src : Fin 36, s.mixer.srcPeak[src] ≤ t.mixer.srcPeak[src] ∧
        (∀ z ∈ stage src, z.natAbs ≤ t.mixer.srcPeak[src]) ∧
        (t.mixer.srcPeak[src] = s.mixer.srcPeak[src] ∨ ∃ z ∈ stage src, z.natAbs = t.mixer.srcPeak[src])) ∧
      (∀ bus : Fin 8, s.mixer.busPeak[bus] ≤ t.mixer.busPeak[bus] ∧
        (∀ i, i < 48 → (saturate (out i bus)).natAbs ≤ t.mixer.busPeak[bus]) ∧
        (t.mixer.busPeak[bus] = s.mixer.busPeak[bus] ∨
          ∃ i, i < 48 ∧ (saturate (out i bus)).natAbs = t.mixer.busPeak[bus])) ∧
      (o = 0 → t.asm = s.asm ∧ t.mixer.period = some ⟨s.mixer.live.home, 48 * s.mixer.block, frames⟩) ∧
      (∀ q, s.mixer.period = some q →
        (0 < o → o < 32 → t.asm = s.asm ∧ t.mixer.period = some { q with samples := q.samples ++ frames }) ∧
        (32 ≤ o → (o = 32 → t.mixer.period = none) ∧
          (∀ n, n = 48 * s.mixer.block + (80 - o) → 32 < o → t.mixer.period
            = some ⟨s.mixer.live.home, n, frames.drop (80 - o)⟩) ∧
          (∀ tick offset, stampOf s.ref.recent q.start = (tick, offset) → q.buses.Nodup →
            s.asm.audio.length + q.buses.length ≤ 48 →
            t.asm = { s.asm with
              audio := s.asm.audio ++ q.buses.map (fun bus => (⟨.audio, noFlags, bus.val,
                bus.val * 4096 + offset, tick, s.mixer.cellSeq[bus],
                (q.samples ++ frames.take (80 - o)).flatMap (fun x => bytesSample (x.getD bus.val 0)), 0⟩ : Cell)) } ∧
            ∀ bus : Fin 8, t.mixer.cellSeq[bus]
              = if bus ∈ q.buses then s.mixer.cellSeq[bus] + 1 else s.mixer.cellSeq[bus]))) ∧
      t.mixer.live = s.mixer.live ∧ t.mixer.cued = s.mixer.cued ∧ t.mixer.law = s.mixer.law ∧
      t.mixer.ramp = s.mixer.ramp ∧ t.mixer.wordLens = s.mixer.wordLens ∧ t.lanes = s.lanes ∧ t.store = s.store ∧
      t.paths = s.paths ∧ t.clips = s.clips ∧ t.labels = s.labels ∧ t.ref = s.ref)) ∧
  (∀ (recent before behind : List (Word × Nat)) (tick : Word) (at_ n : Nat), recent = before ++ (tick, at_) :: behind →
    (∀ x ∈ before, n < x.2) → at_ ≤ n → stampOf recent n = (tick, min 4095 (n - at_))) ∧
  (∀ (s : State) (x : Cell),
    (s.asm.audio.length < 48 → handAudio x s = s.withAsm { s.asm with audio := s.asm.audio ++ [x] }) ∧
    (∀ y rest, s.asm.audio = y :: rest → 48 ≤ s.asm.audio.length →
      handAudio x s
        = (s.withAsm { s.asm with audio := rest ++ [x] }).count ctrAudioDropped .audioDropped y.stream))

/-- The arithmetic of sources, buses and ramps. R75: a sample is cut to its word length downward, and then turned.
R76: it is read back at the read delay, and is 0 before the history starts. R77: one sample of the source stage,
STEADY, fading out, at the jump to the live delay, and fading in. R79, R80: a bus output is the sum of products,
divided by 16,384 to nearest and a half upward, twice, the master between, and is saturated where it passes the
range. R86: after k samples of a ramp the value is its start plus trunc((target − start) × k / length); a ramp taken
in two runs of samples is the ramp taken in one; after the steps it still has to run its value is its target, and the
ramp is done; a ramp of length 0 is at its target at once, and a coefficient with the value asked for already as its
target is left alone. (Where the model settles what the rules leave open: log entry 43.) -/
def Obligations.SourcesBusesAndRamps : Prop :=
  (∀ (x : Sample) (w : Nat), (w = 16 ∨ w = 20 ∨ w = 24) →
    cutWord w x ≤ x ∧ x < cutWord w x + 2 ^ (24 - w) ∧ (2 ^ (24 - w) : Int) ∣ cutWord w x) ∧
  (∀ x : Sample, polarity false x = x ∧ (x ≠ -8388608 → polarity true x = -x) ∧
    polarity true (-8388608) = 8388607) ∧
  (∀ (h : DelayHistory) (t d : Nat), (h.start + d ≤ t → delayed h t d = h.samples.getD d 0) ∧
    (t < h.start + d → delayed h t d = 0)) ∧
  (∀ (w : Nat) (inv : Bool) (lv t : Nat) (x : Sample) (xs : List Sample) (f : Fade) (h h1 : DelayHistory) (y : Sample),
    h1 = { h with samples := polarity inv (cutWord w x) :: h.samples } → y = delayed h1 t f.readDelay →
    ∃ (z : Sample) (f' : Fade) (h' : DelayHistory),
      sourceStage w inv lv t (x :: xs) f h
        = (z :: (sourceStage w inv lv (t + 1) xs f' h').1, (sourceStage w inv lv (t + 1) xs f' h').2) ∧
      (f.state = .steady → z = y ∧ f' = { f with level := 48 } ∧ h' = h1) ∧
      (f.state = .fadingOut → 2 ≤ f.level →
        z = trunc (y * (f.level - 1 : Nat)) 48 ∧ f' = { f with level := f.level - 1 } ∧ h' = h1) ∧
      (f.state = .fadingOut → f.level ≤ 1 →
        z = 0 ∧ f' = ⟨lv, .fadingIn, 0⟩ ∧ h' = { h1 with start := max h1.start (t + 1 - f.readDelay) }) ∧
      (f.state = .fadingIn → f.level < 47 →
        z = trunc (y * (f.level + 1 : Nat)) 48 ∧ f' = { f with level := f.level + 1 } ∧ h' = h1) ∧
      (f.state = .fadingIn → f.level = 47 → z = y ∧ f' = { f with level := 48, state := .steady } ∧ h' = h1)) ∧
  (∀ (zs : List Sample) (cs : List Int) (m x : Int),
    busOut zs cs m = roundUnity (roundUnity ((zs.zip cs).map (fun p => p.1 * p.2)).sum * m) ∧
    16384 * roundUnity x ≤ x + 8192 ∧ x + 8192 < 16384 * roundUnity x + 16384 ∧
    (-8388608 ≤ x → x ≤ 8388607 → saturate x = x ∧ clips x = false) ∧
    (x < -8388608 → saturate x = -8388608 ∧ clips x = true) ∧ (8388607 < x → saturate x = 8388607 ∧ clips x = true)) ∧
  (∀ (c : Coef) (n m ramp v : Nat),
    coefAfter m (coefAfter n c) = coefAfter (n + m) c ∧
    (c.step < c.length → c.length - c.step ≤ n →
      (coefAfter n c).value = c.target ∧ ramping (coefAfter n c) = false) ∧
    (c.step + n ≤ c.length → c.step < c.length →
      (coefAfter n c).value = c.start + Int.tdiv ((c.target - c.start) * ((c.step + n : Nat) : Int)) c.length ∧
      (coefAfter n c).step = c.step + n ∧ (coefAfter n c).target = c.target) ∧
    (c.target = v → retarget ramp v c = c) ∧
    (c.target ≠ v → (retarget ramp v c).target = v ∧
      (ramp = 0 → (retarget ramp v c).value = v) ∧
      (0 < ramp → (retarget ramp v c).value = c.value ∧ (coefAfter ramp (retarget ramp v c)).value = v ∧
        (n ≤ ramp → (coefAfter n (retarget ramp v c)).value
          = c.value + Int.tdiv (((v : Int) - c.value) * n) ramp))))

/-! ## The paths and the return receiver -/

/-- R92: PATH: RANGE when a word is out of its range; STATE on a path that is not DISABLED; otherwise the seven values
replace the settings. It takes seven words. -/
def Obligations.PathSettingsAreLoaded : Prop :=
  (∀ ws, shapeOk .path ws = true ↔ ws.length = 7) ∧
  ∀ (d : Directive) (s u : State), reaches .path d s u →
    ((3 < wordAt d.words 0 ∨ 1 < wordAt d.words 1 ∨ wordAt d.words 2 < 64 ∨ 200000 < wordAt d.words 2 ∨
        1 < wordAt d.words 3 ∨ 1 < wordAt d.words 5 ∨
        (wordAt d.words 4 ≠ 1 ∧ wordAt d.words 4 ≠ 2 ∧ wordAt d.words 4 ≠ 4) ∨ wordAt d.words 6 < 1 ∨
        15 < wordAt d.words 6) → exec (.path d) s = .next (refused .path d .range u)) ∧
    (∀ (p : PathNo) (fixed hold label : Bool), wordAt d.words 0 = p.val → wordAt d.words 1 = fixed.toNat →
      64 ≤ wordAt d.words 2 → wordAt d.words 2 ≤ 200000 → wordAt d.words 3 = hold.toNat →
      (wordAt d.words 4 = 1 ∨ wordAt d.words 4 = 2 ∨ wordAt d.words 4 = 4) → wordAt d.words 5 = label.toNat →
      1 ≤ wordAt d.words 6 → wordAt d.words 6 ≤ 15 →
      (u.paths[p].state ≠ .disabled → exec (.path d) s = .next (refused .path d .state u)) ∧
      (u.paths[p].state = .disabled → exec (.path d) s = .next (answered .path d .success .empty
        (u.setPath p { u.paths[p] with
          settings := ⟨fixed, wordAt d.words 2, hold, wordAt d.words 4, label, wordAt d.words 6⟩ }))))

/-- R93 to R95, R100, R105: PENA, PDIS and PRST; a path above 3 is refused RANGE. A path enabled without carrier
waits in DOWN; with carrier it makes its offer, or, in FIXED mode, is UP at its own rate. A path that leaves by PDIS
or PRST is emptied and stopped, its cells gone from its queue, its path sequence 0; PRST then takes it out of DOWN
again where its carrier is present. (Where the model settles what the rules leave open: log entry 37.) -/
def Obligations.PathsAreEnabledAndStopped : Prop :=
  (∀ (d : Directive) (s u : State) (p : PathNo) (c : PathCtl), wordAt d.words 0 = p.val → u.paths[p] = c →
    (reaches .pena d s u →
      (c.state ≠ .disabled → exec (.pena d) s = .next (refused .pena d .state u)) ∧
      (c.state = .disabled → c.carrier = false → exec (.pena d) s = .next (answered .pena d .success .empty
        (u.setPath p { c with state := .down, retry := 0, seq := 0 }))) ∧
      (c.state = .disabled → c.carrier = true → c.settings.fixed = false →
        exec (.pena d) s = .next (answered .pena d .success .empty (u.setPath p { c with
          state := .offer, retry := 0, seq := 0, ownAck := false, run := 0, farOffer := none, farFault := 0
          extras := ⟨none, false, false⟩, lastRound := none, timer := some (c.timer.getD (u.ref.clock + 48000))
          pacer := some (u.ref.clock + 480), slot := some (.offer (ownOffer { c with ownAck := false })) }))) ∧
      (c.state = .disabled → c.carrier = true → c.settings.fixed = true → ∃ t,
        exec (.pena d) s = .next (answered .pena d .success .empty t) ∧ t.paths[p].state = .up ∧
        t.paths[p].agreed = some c.settings.rate ∧ t.paths[p].agreedHold = c.settings.holdCap ∧
        t.asm.pathsUp = u.asm.pathsUp + 1 ∧ (.pathUp, p.val) ∈ t.handler.flags ∧
        ∀ q, q ≠ p → t.paths[q] = u.paths[q])) ∧
    (reaches .pdis d s u →
      (c.state = .disabled → exec (.pdis d) s = .next (answered .pdis d .success .empty u)) ∧
      (c.state ≠ .disabled → ∃ t, exec (.pdis d) s = .next (answered .pdis d .success .empty t) ∧
        t.paths[p] = { c with
          state := .disabled, queue := [], slot := none, timer := none, pacer := none, holdTimer := none
          farOffer := none, agreed := none, extras := ⟨none, false, false⟩, ownAck := false, ownFault := false
          lastRound := none, seq := 0 } ∧
        t.asm.pathsUp = u.asm.pathsUp - (if c.state = .up ∨ c.state = .held then 1 else 0) ∧
        ∀ q, q ≠ p → t.paths[q] = u.paths[q])) ∧
    (reaches .prst d s u →
      (c.state = .disabled → exec (.prst d) s = .next (refused .prst d .state u)) ∧
      (c.state ≠ .disabled → c.carrier = false → ∃ t, exec (.prst d) s = .next (answered .prst d .success .empty t) ∧
        t.paths[p] = { c with
          state := .down, retry := 0, queue := [], slot := none, timer := none, pacer := none, holdTimer := none
          farOffer := none, agreed := none, extras := ⟨none, false, false⟩, ownAck := false, ownFault := false
          lastRound := none, seq := 0 } ∧
        ∀ q, q ≠ p → t.paths[q] = u.paths[q]) ∧
      (c.state ≠ .disabled → c.carrier = true → c.settings.fixed = false → ∃ t,
        exec (.prst d) s = .next (answered .prst d .success .empty t) ∧ t.paths[p].state = .offer ∧
        t.paths[p].retry = 0 ∧ t.paths[p].queue = [] ∧ t.paths[p].seq = 0 ∧
        t.paths[p].slot = some (.offer (ownOffer { c with ownAck := false, ownFault := false })) ∧
        t.paths[p].timer = some (u.ref.clock + 48000) ∧ ∀ q, q ≠ p → t.paths[q] = u.paths[q]) ∧
      (c.state ≠ .disabled → c.carrier = true → c.settings.fixed = true → ∃ t,
        exec (.prst d) s = .next (answered .prst d .success .empty t) ∧
        t.paths[p] = { c with
          state := .up, retry := 0, queue := [], slot := none, timer := none, pacer := none, holdTimer := none
          farOffer := none, agreed := some c.settings.rate, agreedHold := c.settings.holdCap
          extras := ⟨none, false, false⟩, ownAck := false, ownFault := false, lastRound := none, seq := 0 } ∧
        t.asm.pathsUp = u.asm.pathsUp - (if c.state = .up ∨ c.state = .held then 1 else 0) + 1 ∧
        (.pathUp, p.val) ∈ t.handler.flags ∧ ∀ q, q ≠ p → t.paths[q] = u.paths[q]))) ∧
  (∀ (d : Directive) (s u : State), 3 < wordAt d.words 0 →
    (reaches .pena d s u → exec (.pena d) s = .next (refused .pena d .range u)) ∧
    (reaches .pdis d s u → exec (.pdis d) s = .next (refused .pdis d .range u)) ∧
    (reaches .prst d s u → exec (.prst d) s = .next (refused .prst d .range u)))

/-- R94, R95, R100, R119: the carrier. It takes a path in DOWN to its offer, or to UP in FIXED mode; its loss takes a
path in OFFER, EXCHANGE, UP or HELD to DOWN, emptied, with its retry count; the path downs counter rises, PATH_DOWN is
latched, and the count of paths up falls when the path was in UP or HELD; any other path stays where it is and records
the level. R95, R98, R101, R104: the periods of the offer pacer, the expiry of the handshake timer, below the retry
limit and at it, and the expiry of the hold timer. (Where the model settles what the rules leave open: log entries 2,
16, 37, 74 and 90.) -/
def Obligations.CarrierAndTimersMoveThePath : Prop :=
  (∀ (s : State) (p : PathNo) (c : PathCtl), s.power = true → s.paths[p] = c →
    (c.state = .down → c.settings.fixed = false → exec (.carrierPresent p) s = .next (s.setPath p { c with
      carrier := true, state := .offer, ownAck := false, run := 0, farOffer := none, farFault := 0
      extras := ⟨none, false, false⟩, lastRound := none, timer := some (c.timer.getD (s.ref.clock + 48000))
      pacer := some (s.ref.clock + 480), slot := some (.offer (ownOffer { c with ownAck := false })) })) ∧
    (c.state = .down → c.settings.fixed = true → ∃ t, exec (.carrierPresent p) s = .next t ∧
      t.paths[p].state = .up ∧ t.paths[p].carrier = true ∧ t.paths[p].agreed = some c.settings.rate ∧
      t.asm.pathsUp = s.asm.pathsUp + 1 ∧ (.pathUp, p.val) ∈ t.handler.flags ∧
      ∀ l : Lane, s.asm.pathsUp = 0 → s.lanes[l].state ≠ .off → t.lanes[l].keyReq = true) ∧
    (c.state ≠ .down → exec (.carrierPresent p) s = .next (s.setPath p { c with carrier := true })) ∧
    ((c.state = .disabled ∨ c.state = .down ∨ c.state = .failed) →
      exec (.carrierLost p) s = .next (s.setPath p { c with carrier := false })) ∧
    ((c.state = .offer ∨ c.state = .exchange ∨ c.state = .up ∨ c.state = .held) → ∃ t,
      exec (.carrierLost p) s = .next t ∧ t.paths[p].state = .down ∧ t.paths[p].carrier = false ∧
      t.paths[p].queue = [] ∧ t.paths[p].slot = none ∧ t.paths[p].agreed = none ∧ t.paths[p].retry = c.retry ∧
      t.paths[p].seq = 0 ∧ (.pathDown, p.val) ∈ t.handler.flags ∧
      t.handler.counters[ctrPathDowns] = s.handler.counters[ctrPathDowns] + 1 ∧
      t.asm.pathsUp = s.asm.pathsUp - (if c.state = .up ∨ c.state = .held then 1 else 0) ∧
      (∀ q, q ≠ p → t.paths[q] = s.paths[q]) ∧ t.lanes = s.lanes ∧ t.store = s.store ∧ t.clips = s.clips)) ∧
  (∀ (s : State) (p : PathNo) (c : PathCtl) (due : Nat), s.power = true → s.paths[p] = c →
    (c.pacer = some due → c.state = .offer → exec (.offerPacer p) s = .next ((s.advanceTo due).setPath p
      { c with pacer := some (due + 480), slot := some (.offer (ownOffer c)) })) ∧
    (c.pacer = some due → c.state = .exchange → exec (.offerPacer p) s = .next ((s.advanceTo due).setPath p
      { c with pacer := some (due + 480), slot := some (.extra ⟨c.toggle, false, 0, 0⟩) })) ∧
    (c.pacer = none → exec (.offerPacer p) s = .next s) ∧
    (c.timer = some due → (c.state = .offer ∨ c.state = .exchange) → c.retry + 1 ≠ c.settings.retryLimit →
      ∃ t, exec (.handshakeTimerExpiry p) s = .next t ∧ t.paths[p].state = .offer ∧
        t.paths[p].retry = c.retry + 1 ∧ t.paths[p].ownFault = false ∧
        t.paths[p].timer = some (max s.ref.clock due + 48000) ∧
        t.paths[p].slot = some (.offer (ownOffer { c with ownAck := false, ownFault := false })) ∧
        (∀ q, q ≠ p → t.paths[q] = s.paths[q])) ∧
    (c.timer = some due → (c.state = .offer ∨ c.state = .exchange) → c.retry + 1 = c.settings.retryLimit →
      ∃ t, exec (.handshakeTimerExpiry p) s = .next t ∧ t.paths[p].state = .failed ∧
        t.paths[p].retry = c.retry + 1 ∧ t.paths[p].timer = none ∧ t.paths[p].pacer = none ∧
        t.paths[p].slot = none ∧ (.pathFailed, p.val) ∈ t.handler.flags ∧ (∀ q, q ≠ p → t.paths[q] = s.paths[q])) ∧
    (c.holdTimer = some due → c.state = .held →
      exec (.holdTimerExpiry p) s = .next ((s.advanceTo due).setPath p { c with state := .up, holdTimer := none })))

/-- R104, R121: where the queued cells of a path go. With no stale cell among them and the redispatch list, and room for
them all, they join the list's back, front first, and the queue is empty and open; of more than there is room for, those
beyond 512 are dropped and counted. Stale VIDEO cells at the front are dropped and counted, up to the first cell that is
not. The cells of a path go there when its carrier is lost, at PDIS, PRST and a hold of a hundred milliseconds or more.
(Where the model settles what the rules leave open: log entries 50 and 90.) -/
def Obligations.QueuedCellsAreRedispatched : Prop :=
  (∀ (s : State) (p : PathNo), (∀ x ∈ s.asm.redispatch ++ s.paths[p].queue, staleCell s.asm.gen x = false) →
    (s.asm.redispatch.length + s.paths[p].queue.length ≤ 512 →
      redispatchPath p s = (s.setPath p { s.paths[p] with queue := [] }).withAsm { s.asm with
        redispatch := s.asm.redispatch ++ s.paths[p].queue, opened := s.asm.opened.set p true }) ∧
    (s.asm.redispatch.length ≤ 512 → 512 < s.asm.redispatch.length + s.paths[p].queue.length → ∃ t : State,
      redispatchPath p s = t ∧ t.paths = s.paths.set p { s.paths[p] with queue := [] } ∧
      t.asm = { s.asm with
        redispatch := (s.asm.redispatch ++ s.paths[p].queue).take 512, opened := s.asm.opened.set p true } ∧
      t.handler.counters[ctrRedispatchDropped] = s.handler.counters[ctrRedispatchDropped] +
        BitVec.ofNat 32 (s.asm.redispatch.length + s.paths[p].queue.length - 512) ∧
      t.store = s.store ∧ t.lanes = s.lanes)) ∧
  (∀ (s : State) (before behind : List Cell), s.asm.redispatch = before ++ behind →
    (∀ x ∈ before, staleCell s.asm.gen x = true) → (∀ x, behind.head? = some x → staleCell s.asm.gen x = false) →
    ∃ t : State, settleRedispatch s = t ∧ t.asm = { s.asm with redispatch := behind } ∧
      t.handler.counters[ctrRedispatchDropped]
        = s.handler.counters[ctrRedispatchDropped] + BitVec.ofNat 32 before.length ∧
      t.store = s.store ∧ t.lanes = s.lanes ∧ t.paths = s.paths) ∧
  (∀ (gen : Vector Word 6) (x : Cell), staleCell gen x = true ↔
    x.kind = .video ∧ ∃ l : Lane, x.stream = l.val ∧ x.gen ≠ gen[l]) ∧
  (∀ (s u : State) (p : PathNo) (d : Directive) (bytes : List Byte) (x : InboundCell) (cells : List Cell),
    s.power = true → (s.paths[p].state = .up ∨ s.paths[p].state = .held) →
    cells = s.asm.redispatch ++ s.paths[p].queue → cells.length ≤ 512 →
    (∀ y ∈ cells, staleCell s.asm.gen y = false) →
    (∃ t, exec (.carrierLost p) s = .next t ∧ t.asm.redispatch = cells ∧ t.paths[p].queue = []) ∧
    (parseCell bytes = some x → x.kind = .hold → s.paths[p].agreedHold = true → 100 ≤ get16 x.payload 0 → ∃ t,
      exec (.inboundCell p bytes) s = .next t ∧ t.asm.redispatch = cells ∧ t.paths[p].queue = [] ∧
      t.paths[p].state = .held ∧ t.paths[p].holdTimer = some (s.ref.clock + 48 * get16 x.payload 0) ∧
      (s.paths[p].state = .up → (.pathHeld, p.val) ∈ t.handler.flags)) ∧
    (u.paths = s.paths → u.asm.redispatch = s.asm.redispatch → u.asm.gen = s.asm.gen → wordAt d.words 0 = p.val →
      (reaches .pdis d s u → ∃ t, exec (.pdis d) s = .next (answered .pdis d .success .empty t) ∧
        t.asm.redispatch = cells ∧ t.paths[p].queue = []) ∧
      (reaches .prst d s u → ∃ t, exec (.prst d) s = .next (answered .prst d .success .empty t) ∧
        t.asm.redispatch = cells ∧ t.paths[p].queue = [])))

/-- R105: the cell that a ready line takes, by the state of the path: the control slot's; then, in UP, the front of the
send queue; else FILL, but nothing in HELD, DOWN, DISABLED and FAILED. Each departing cell takes the path sequence,
which rises by one. (Where the model settles what the rules leave open: log entries 28, 76, 83, 84 and 89.) -/
def Obligations.ReadyLineTakesOneCell : Prop :=
  ∀ (s : State) (p : PathNo) (c : PathCtl), s.power = true → s.paths[p] = c →
    ((c.state = .disabled ∨ c.state = .down ∨ c.state = .failed ∨ (c.state = .held ∧ c.slot = none)) →
      exec (.lineReady p) s = .next s) ∧
    (∀ x, (c.state = .offer ∨ c.state = .exchange ∨ c.state = .up ∨ c.state = .held) → c.slot = some x →
      exec (.lineReady p) s = .next (s.setPath p { c with
        slot := none, sent := some (cellBytes (slotCell x) c.seq), seq := c.seq + 1 })) ∧
    (∀ x rest, c.state = .up → c.slot = none → c.queue = x :: rest →
      exec (.lineReady p) s = .next
        (let t := s.setPath p { c with queue := rest, sent := some (cellBytes x c.seq), seq := c.seq + 1 }
         if rest.length ≤ s.asm.marks[p].low then t.withAsm { s.asm with opened := s.asm.opened.set p true } else t)) ∧
    ((c.state = .offer ∨ c.state = .exchange ∨ (c.state = .up ∧ c.queue = [])) → c.slot = none →
      exec (.lineReady p) s = .next (s.setPath p { c with
        sent := some (cellBytes (plainCell .fill []) c.seq), seq := c.seq + 1 }))

/-- R103, R106, R107: a cell from the line: discarded in DISABLED and FAILED; counted when it fails its check, and when
its kind does not belong to the direction or the state; FILL does nothing; a HOLD cell holds the path or ends its hold;
a DIRECTIVE cell brings a directive from home (R176), and that it does not take it, also at an idle handler, is the
model's choice: the taking is the directive's own command (log entry 8). R187: one of fewer than eight bytes is dropped,
and counted as out of state, and a HANDSHAKE cell whose byte 0 is neither 1 nor 2 is discarded and counted. (Where the
model settles what the rules leave open: log entries 35, 69 and 74.) -/
def Obligations.InboundCellsGoByKind : Prop :=
  ∀ (s : State) (p : PathNo) (c : PathCtl) (bytes : List Byte), s.power = true → s.paths[p] = c →
    ((c.state = .disabled ∨ c.state = .failed) → exec (.inboundCell p bytes) s = .next s) ∧
    (c.state ≠ .disabled → c.state ≠ .failed → parseCell bytes = none →
      exec (.inboundCell p bytes) s = .next (s.count ctrCellCheck .cellCheck p.val)) ∧
    (∀ x, c.state ≠ .disabled → c.state ≠ .failed → parseCell bytes = some x →
      (x.kind = .fill → exec (.inboundCell p bytes) s = .next s) ∧
      ((x.kind = .video ∨ x.kind = .audio ∨ x.kind = .label ∨ x.kind = .clip ∨ x.kind = .response) →
        exec (.inboundCell p bytes) s = .next (s.bump ctrOutOfState 1)) ∧
      (x.kind = .hold → (c.agreedHold = false ∨ (c.state ≠ .up ∧ c.state ≠ .held)) →
        exec (.inboundCell p bytes) s = .next (s.bump ctrHoldsIgnored 1)) ∧
      (x.kind = .hold → c.agreedHold = true → (c.state = .up ∨ c.state = .held) → get16 x.payload 0 = 0 →
        exec (.inboundCell p bytes) s = .next (s.setPath p { c with state := .up, holdTimer := none })) ∧
      (x.kind = .hold → c.agreedHold = true → 1 ≤ get16 x.payload 0 → get16 x.payload 0 < 100 →
        (c.state = .up → exec (.inboundCell p bytes) s = .next ((s.setPath p { c with
          state := .held, holdTimer := some (s.ref.clock + 48 * get16 x.payload 0) }).latch .pathHeld p.val)) ∧
        (c.state = .held → exec (.inboundCell p bytes) s = .next (s.setPath p { c with
          state := .held, holdTimer := some (s.ref.clock + 48 * get16 x.payload 0) }))) ∧
      ((x.kind = .returnAudio ∨ x.kind = .directive) → c.state ≠ .up → c.state ≠ .held →
        exec (.inboundCell p bytes) s = .next (s.bump ctrOutOfState 1)) ∧
      (x.kind = .directive → (c.state = .up ∨ c.state = .held) → 8 ≤ x.payload.length →
        exec (.inboundCell p bytes) s = .next (arrive ⟨BitVec.ofNat 32 (get32 x.payload 0),
          ⟨.home p, BitVec.ofNat 16 (get16 x.payload 4), wordsOf (x.payload.drop 8),
            decide ((x.payload.length - 8) % 4 ≠ 0)⟩⟩ s)) ∧
      (x.kind = .directive → (c.state = .up ∨ c.state = .held) → x.payload.length < 8 →
        exec (.inboundCell p bytes) s = .next (s.bump ctrOutOfState 1)) ∧
      (x.kind = .handshake → (c.settings.fixed = true ∨ c.state = .down ∨
          (byteAt x.payload 0 ≠ 1 ∧ byteAt x.payload 0 ≠ 2)) →
        exec (.inboundCell p bytes) s = .next (s.bump ctrHandshakeDiscarded 1)))

/-- R96, R97, R100: in OFFER, a first far offer word or one of new content is recorded with a run of one; one of the
same content raises the run, and the third sets own ack; an acknowledged repeat, own ack set before, completes the
offer at the lesser rate, and the path is UP when no word is to follow. A fault word is recorded and starts the run
again. (Where the model settles what the rules leave open: log entries 35, 37, 66, 83 and 84.) -/
def Obligations.OfferWordsComplete : Prop :=
  ∀ (s : State) (p : PathNo) (c : PathCtl) (bytes : List Byte) (x : InboundCell) (w : OfferWord),
    s.power = true → s.paths[p] = c → c.settings.fixed = false → c.state = .offer → parseCell bytes = some x →
    x.kind = .handshake → byteAt x.payload 0 = 1 → w = parseOffer x.payload →
    (w.fault ≠ 0 → exec (.inboundCell p bytes) s = .next (s.setPath p { c with
      farFault := w.fault, run := 0, ownAck := false, farOffer := some w })) ∧
    (w.fault = 0 → (∀ o, c.farOffer = some o → sameContent w o = false) →
      exec (.inboundCell p bytes) s = .next (s.setPath p { c with
        farOffer := some w, run := 1, farFault := 0, ownAck := false })) ∧
    (∀ o, w.fault = 0 → c.farOffer = some o → { o with ack := false } = { w with ack := false } →
      (c.ownAck = false ∨ w.ack = false) →
      exec (.inboundCell p bytes) s = .next (s.setPath p { c with
        run := min 3 (c.run + 1), ownAck := c.ownAck || decide (2 ≤ c.run), farOffer := some w })) ∧
    (∀ o, w.fault = 0 → c.farOffer = some o → { o with ack := false } = { w with ack := false } →
      c.ownAck = true → w.ack = true → w.more = false → 64 ≤ c.settings.rate → 64 ≤ w.rate → ∃ t,
      exec (.inboundCell p bytes) s = .next t ∧ t.paths[p].state = .up ∧
      t.paths[p].agreed = some (min c.settings.rate w.rate) ∧
      t.paths[p].agreedHold = (c.settings.holdCap && w.holdCap) ∧ t.paths[p].timer = none ∧
      t.paths[p].pacer = none ∧ t.paths[p].retry = 0 ∧ t.asm.pathsUp = s.asm.pathsUp + 1 ∧
      (.pathUp, p.val) ∈ t.handler.flags ∧ ∀ q, q ≠ p → t.paths[q] = s.paths[q])

/-- R97, R101: an offer that completes at a rate below 64 fails: OFFER again with its own fault, or FAILED at the retry
limit. R97, R98: an offer that completes with a word to follow enters EXCHANGE. R97: an extra word in OFFER, with the
own ack set and a far offer held, completes the offer: a rate below 64 fails as before, and otherwise the path enters
EXCHANGE and takes the word there, at toggle 0. R98, R99: an extra word in EXCHANGE. One of the other toggle is answered
by a NULL word of its toggle; one of the path's own acts by its code, and the path goes on to the other toggle or, with
no more to follow, is UP. An offer word there is left alone when it acknowledges, and takes the path back to OFFER when
not. R102: in UP and HELD the words that the path has taken are answered again, and any other is a far restart, which is
counted: the path returns to OFFER, its send queue empty. With no stale cell among them, and room for them all, its
cells then stand at the back of the redispatch list (R104). R96: an offer word with a fault that takes the path to OFFER
is weighed there as one. (Where the model settles what the rules leave open: log entries 35, 36, 37, 49, 50, 66, 67, 68,
83, 84, 88, 89 and 90.) -/
def Obligations.ExchangeAndRestart : Prop :=
  (∀ (s : State) (p : PathNo) (c : PathCtl) (bytes : List Byte) (x : InboundCell) (w : OfferWord),
    s.power = true → s.paths[p] = c → c.settings.fixed = false → parseCell bytes = some x → x.kind = .handshake →
    byteAt x.payload 0 = 1 → w = parseOffer x.payload →
    (∀ o, c.state = .offer → w.fault = 0 → c.farOffer = some o → { o with ack := false } = { w with ack := false } →
      c.ownAck = true → w.ack = true →
      (min c.settings.rate w.rate < 64 → c.retry + 1 ≠ c.settings.retryLimit → ∃ t,
        exec (.inboundCell p bytes) s = .next t ∧ t.paths[p].state = .offer ∧ t.paths[p].retry = c.retry + 1 ∧
        t.paths[p].ownFault = true ∧ t.paths[p].agreedHold = c.agreedHold ∧
        t.paths[p].timer = some (s.ref.clock + 48000) ∧
        t.paths[p].slot = some (.offer { ownOffer { c with ownAck := false } with fault := 3 }) ∧
        ∀ q, q ≠ p → t.paths[q] = s.paths[q]) ∧
      (min c.settings.rate w.rate < 64 → c.retry + 1 = c.settings.retryLimit → ∃ t,
        exec (.inboundCell p bytes) s = .next t ∧ t.paths[p].state = .failed ∧ t.paths[p].retry = c.retry + 1 ∧
        t.paths[p].timer = none ∧ t.paths[p].pacer = none ∧ t.paths[p].slot = none ∧
        (.pathFailed, p.val) ∈ t.handler.flags ∧ ∀ q, q ≠ p → t.paths[q] = s.paths[q]) ∧
      (64 ≤ min c.settings.rate w.rate → w.more = true →
        exec (.inboundCell p bytes) s = .next (s.setPath p { c with
          state := .exchange, run := min 3 (c.run + 1), farOffer := some w
          agreed := some (min c.settings.rate w.rate), agreedHold := c.settings.holdCap && w.holdCap
          toggle := false, lastRound := none }))) ∧
    (c.state = .exchange → w.ack = true → exec (.inboundCell p bytes) s = .next s) ∧
    (c.state = .exchange → w.ack = false → w.fault = 0 → ∃ t, exec (.inboundCell p bytes) s = .next t ∧
      t.paths[p].state = .offer ∧ t.paths[p].run = 1 ∧ t.paths[p].farOffer = some w ∧ t.paths[p].ownAck = false ∧
      t.paths[p].extras = ⟨none, false, false⟩ ∧ t.paths[p].queue = c.queue ∧
      ∀ q, q ≠ p → t.paths[q] = s.paths[q]) ∧
    (c.state = .exchange → w.ack = false → w.fault ≠ 0 → ∃ t, exec (.inboundCell p bytes) s = .next t ∧
      t.paths[p].state = .offer ∧ t.paths[p].run = 0 ∧ t.paths[p].farFault = w.fault ∧
      t.paths[p].farOffer = some w ∧ t.paths[p].ownAck = false ∧ t.paths[p].queue = c.queue ∧
      ∀ q, q ≠ p → t.paths[q] = s.paths[q]) ∧
    ((c.state = .up ∨ c.state = .held) →
      (∀ o, c.farOffer = some o → { o with ack := false } = { w with ack := false } → w.ack = true →
        exec (.inboundCell p bytes) s = .next (s.setPath p { c with
          slot := some (.offer { ownOffer c with ack := true }) })) ∧
      ((w.ack = false ∨ ∀ o, c.farOffer = some o → { o with ack := false } ≠ { w with ack := false }) →
        ∃ t, exec (.inboundCell p bytes) s = .next t ∧ t.paths[p].state = .offer ∧
        (w.fault = 0 → t.paths[p].run = 1 ∧ t.paths[p].farFault = 0) ∧
        (w.fault ≠ 0 → t.paths[p].run = 0 ∧ t.paths[p].farFault = w.fault) ∧
        t.paths[p].ownAck = false ∧ t.paths[p].farOffer = some w ∧ t.paths[p].retry = 0 ∧ t.paths[p].queue = [] ∧
        t.paths[p].holdTimer = none ∧ t.paths[p].timer = some (s.ref.clock + 48000) ∧
        t.asm.pathsUp = s.asm.pathsUp - 1 ∧
        t.handler.counters[ctrFarRestarts] = s.handler.counters[ctrFarRestarts] + 1 ∧
        ((∀ y ∈ s.asm.redispatch ++ c.queue, staleCell s.asm.gen y = false) →
          (s.asm.redispatch ++ c.queue).length ≤ 512 → t.asm.redispatch = s.asm.redispatch ++ c.queue) ∧
        ∀ q, q ≠ p → t.paths[q] = s.paths[q]))) ∧
  (∀ (s : State) (p : PathNo) (c : PathCtl) (bytes : List Byte) (x : InboundCell) (w : ExtraWord) (e : FarExtras),
    s.power = true → s.paths[p] = c → c.settings.fixed = false → parseCell bytes = some x → x.kind = .handshake →
    byteAt x.payload 0 = 2 → w = parseExtra x.payload →
    ((w.code = 0 ∨ 3 < w.code ∨ (w.code = 3 ∧ 1 < w.value)) → e = c.extras) →
    (w.code = 1 → e = { c.extras with latency := some (max 1 w.value) }) →
    (w.code = 2 → e = { c.extras with mismatch := decide (w.value ≠ c.settings.channels) }) →
    (∀ b : Bool, w.code = 3 → w.value = b.toNat → e = { c.extras with labelOnly := b }) →
    (c.state = .offer → (c.ownAck = false ∨ c.farOffer = none) →
      exec (.inboundCell p bytes) s = .next (s.bump ctrHandshakeDiscarded 1)) ∧
    (∀ (o : OfferWord) (rate : Nat) (d : PathCtl), c.state = .offer → c.ownAck = true → c.farOffer = some o →
      rate = min c.settings.rate o.rate → d = { c with
        state := .exchange, agreed := some rate, agreedHold := c.settings.holdCap && o.holdCap, toggle := false
        lastRound := none } →
      (rate < 64 → c.retry + 1 ≠ c.settings.retryLimit → ∃ t, exec (.inboundCell p bytes) s = .next t ∧
        t.paths[p].state = .offer ∧ t.paths[p].retry = c.retry + 1 ∧ t.paths[p].ownFault = true ∧
        t.paths[p].agreedHold = c.agreedHold ∧ t.paths[p].timer = some (s.ref.clock + 48000) ∧
        t.paths[p].slot = some (.offer { ownOffer { c with ownAck := false } with fault := 3 }) ∧
        t.handler.counters[ctrHandshakeFailures] = s.handler.counters[ctrHandshakeFailures] + 1 ∧
        ∀ q, q ≠ p → t.paths[q] = s.paths[q]) ∧
      (rate < 64 → c.retry + 1 = c.settings.retryLimit → ∃ t, exec (.inboundCell p bytes) s = .next t ∧
        t.paths[p].state = .failed ∧ t.paths[p].retry = c.retry + 1 ∧ t.paths[p].timer = none ∧
        t.paths[p].pacer = none ∧ t.paths[p].slot = none ∧ (.pathFailed, p.val) ∈ t.handler.flags ∧
        ∀ q, q ≠ p → t.paths[q] = s.paths[q]) ∧
      (64 ≤ rate → w.toggle = true → exec (.inboundCell p bytes) s = .next (s.setPath p { d with
        slot := some (.extra ⟨true, false, 0, 0⟩) })) ∧
      (64 ≤ rate → w.toggle = false → w.more = true →
        (w.code ≤ 3 → exec (.inboundCell p bytes) s = .next (s.setPath p { d with
          extras := e, lastRound := some false, toggle := true })) ∧
        (3 < w.code → exec (.inboundCell p bytes) s = .next ((s.setPath p { d with
          extras := e, lastRound := some false, toggle := true }).bump ctrHandshakeDiscarded 1))) ∧
      (64 ≤ rate → w.toggle = false → w.more = false → ∃ t, exec (.inboundCell p bytes) s = .next t ∧
        t.paths[p] = { d with
          state := .up, extras := e, lastRound := some false, timer := none, pacer := none, retry := 0
          ownFault := false } ∧
        t.asm.pathsUp = s.asm.pathsUp + 1 ∧ (.pathUp, p.val) ∈ t.handler.flags ∧
        (e.mismatch = true → (.pathFormat, p.val) ∈ t.handler.flags) ∧ ∀ q, q ≠ p → t.paths[q] = s.paths[q])) ∧
    (c.state = .exchange → w.toggle ≠ c.toggle →
      exec (.inboundCell p bytes) s = .next (s.setPath p { c with slot := some (.extra ⟨w.toggle, false, 0, 0⟩) })) ∧
    (c.state = .exchange → w.toggle = c.toggle → w.more = true →
      (w.code ≤ 3 → exec (.inboundCell p bytes) s = .next (s.setPath p { c with
        extras := e, lastRound := some w.toggle, toggle := !c.toggle })) ∧
      (3 < w.code → exec (.inboundCell p bytes) s = .next ((s.setPath p { c with
        extras := e, lastRound := some w.toggle, toggle := !c.toggle }).bump ctrHandshakeDiscarded 1))) ∧
    (c.state = .exchange → w.toggle = c.toggle → w.more = false → ∃ t,
      exec (.inboundCell p bytes) s = .next t ∧
      t.paths[p] = { c with
        state := .up, extras := e, lastRound := some w.toggle, timer := none, pacer := none, retry := 0
        ownFault := false } ∧
      t.asm.pathsUp = s.asm.pathsUp + 1 ∧ (.pathUp, p.val) ∈ t.handler.flags ∧
      (e.mismatch = true → (.pathFormat, p.val) ∈ t.handler.flags) ∧ ∀ q, q ≠ p → t.paths[q] = s.paths[q]) ∧
    ((c.state = .up ∨ c.state = .held) →
      (c.lastRound = some w.toggle → exec (.inboundCell p bytes) s = .next (s.setPath p { c with
        slot := some (.extra ⟨w.toggle, false, 0, 0⟩) })) ∧
      (c.lastRound ≠ some w.toggle → ∃ t, exec (.inboundCell p bytes) s = .next t ∧ t.paths[p].state = .offer ∧
        t.paths[p].retry = 0 ∧ t.paths[p].queue = [] ∧ t.paths[p].farOffer = none ∧ t.paths[p].holdTimer = none ∧
        t.paths[p].timer = some (s.ref.clock + 48000) ∧ t.asm.pathsUp = s.asm.pathsUp - 1 ∧
        t.handler.counters[ctrFarRestarts] = s.handler.counters[ctrFarRestarts] + 1 ∧
        ((∀ y ∈ s.asm.redispatch ++ c.queue, staleCell s.asm.gen y = false) →
          (s.asm.redispatch ++ c.queue).length ≤ 512 → t.asm.redispatch = s.asm.redispatch ++ c.queue) ∧
        ∀ q, q ≠ p → t.paths[q] = s.paths[q])))

/-- R106: a return cell of a path with a format mismatch, or whose channel count is not the receiver's, is dropped,
counted and reported. R108, R109, R111: RTRN loads the return receiver and empties it, with a hold time below 2
raised to 2, and where the own hold is SENT it first places a HOLD word of time 0 on every path that carries traffic
with its agreed hold, whatever end-hold is; a return cell that is neither late nor a duplicate and finds room joins
the queue in sequence order; a duplicate is counted; the cell that raises the queue to forty-eight, with no hold
sent, places a hold on every path that carries traffic with its agreed hold. A late cell is counted, and in WAITING
the sixteenth in a row makes last played absent and is then weighed as any other cell: it is a duplicate, finds the
queue full, or joins the queue, empty or not. (Where the model settles what the rules leave open: log entries 46 and
86.) -/
def Obligations.ReturnReceiverTakesCells : Prop :=
  (∀ (d : Directive) (s u : State), reaches .rtrn d s u →
    (∀ hold : Bool, (wordAt d.words 0 = 1 ∨ wordAt d.words 0 = 2 ∨ wordAt d.words 0 = 4) → 2 ≤ wordAt d.words 1 →
      wordAt d.words 1 ≤ 32 → wordAt d.words 2 ≤ 1000 → wordAt d.words 3 = hold.toNat → u.ret.holdSent = false →
      exec (.rtrn d) s = .next (answered .rtrn d .success .empty (u.withRet
        { channels := wordAt d.words 0, startDepth := wordAt d.words 1, holdMs := max 2 (wordAt d.words 2)
          endHold := hold, queue := [], lastPlayed := none, playing := false, current := none, lateRun := 0
          holdSent := false }))) ∧
    (∀ hold : Bool, (wordAt d.words 0 = 1 ∨ wordAt d.words 0 = 2 ∨ wordAt d.words 0 = 4) → 2 ≤ wordAt d.words 1 →
      wordAt d.words 1 ≤ 32 → wordAt d.words 2 ≤ 1000 → wordAt d.words 3 = hold.toNat → u.ret.holdSent = true →
      ∃ t, exec (.rtrn d) s = .next (answered .rtrn d .success .empty t) ∧
        t.ret = { channels := wordAt d.words 0, startDepth := wordAt d.words 1, holdMs := max 2 (wordAt d.words 2)
                  endHold := hold, queue := [], lastPlayed := none, playing := false, current := none, lateRun := 0
                  holdSent := false } ∧
        (∀ q : PathNo, t.paths[q] =
          if (u.paths[q].state = .up ∨ u.paths[q].state = .held) ∧ u.paths[q].agreedHold = true
          then { u.paths[q] with slot := some (.hold 0) } else u.paths[q]) ∧
        t.lanes = u.lanes ∧ t.store = u.store ∧ t.mixer = u.mixer ∧ t.asm = u.asm ∧ t.clips = u.clips ∧
        t.labels = u.labels ∧ t.ref = u.ref ∧ t.port = u.port ∧ t.handler = u.handler) ∧
    (((wordAt d.words 0 ≠ 1 ∧ wordAt d.words 0 ≠ 2 ∧ wordAt d.words 0 ≠ 4) ∨ wordAt d.words 1 < 2 ∨
        32 < wordAt d.words 1 ∨ 1000 < wordAt d.words 2 ∨ 1 < wordAt d.words 3) →
      exec (.rtrn d) s = .next (refused .rtrn d .range u))) ∧
  (∀ (s : State) (p : PathNo) (bytes : List Byte) (x : InboundCell), s.power = true →
    (s.paths[p].state = .up ∨ s.paths[p].state = .held) → parseCell bytes = some x → x.kind = .returnAudio →
    (s.paths[p].extras.mismatch = true ∨ s.paths[p].settings.channels ≠ s.ret.channels) →
    exec (.inboundCell p bytes) s = .next (s.count ctrReturnFormat .pathFormat p.val)) ∧
  (∀ (s : State) (p : PathNo) (bytes : List Byte) (x : InboundCell), s.power = true →
    (s.paths[p].state = .up ∨ s.paths[p].state = .held) → parseCell bytes = some x → x.kind = .returnAudio →
    s.paths[p].extras.mismatch = false → s.paths[p].settings.channels = s.ret.channels →
    (∀ v : State, (((∀ t, s.ret.lastPlayed = some t → later x.seq t = true) ∧ v = s) ∨
        ((∃ t, s.ret.lastPlayed = some t ∧ later x.seq t = false) ∧ s.ret.playing = false ∧ 16 ≤ s.ret.lateRun + 1 ∧
          v = (s.bump ctrReturnLate 1).withRet { s.ret with lastPlayed := none, lateRun := 0 })) →
      ((∃ y ∈ s.ret.queue, y.seq = x.seq) →
        exec (.inboundCell p bytes) s = .next (v.bump ctrReturnDuplicate 1)) ∧
      ((∀ y ∈ s.ret.queue, y.seq ≠ x.seq) → 64 ≤ s.ret.queue.length →
        exec (.inboundCell p bytes) s = .next (v.count ctrReturnOverruns .returnOverrun 0)) ∧
      ((∀ y ∈ s.ret.queue, y.seq ≠ x.seq) → s.ret.queue.length < 64 →
        ∃ (before behind : List RetCell) (queue : List RetCell), s.ret.queue = before ++ behind ∧
          (∀ y ∈ before, earlier x.seq y.seq = false) ∧
          (∀ y, behind.head? = some y → earlier x.seq y.seq = true) ∧
          queue = before ++ ⟨x.seq, samplesOf x.payload⟩ :: behind ∧
          ((s.ret.queue.length ≠ 47 ∨ s.ret.holdSent = true) →
            exec (.inboundCell p bytes) s = .next (v.withRet { v.ret with queue := queue, lateRun := 0 })) ∧
          (s.ret.queue.length = 47 → s.ret.holdSent = false → ∃ t, exec (.inboundCell p bytes) s = .next t ∧
            t.ret = { v.ret with queue := queue, lateRun := 0, holdSent := true } ∧ t.handler = v.handler ∧
            ∀ q : PathNo, t.paths[q] =
              if (s.paths[q].state = .up ∨ s.paths[q].state = .held) ∧ s.paths[q].agreedHold = true
              then { s.paths[q] with slot := some (.hold s.ret.holdMs) } else s.paths[q]))) ∧
    (∀ t, s.ret.lastPlayed = some t → later x.seq t = false →
      (s.ret.playing = true → exec (.inboundCell p bytes) s = .next (s.bump ctrReturnLate 1)) ∧
      (s.ret.playing = false → s.ret.lateRun + 1 < 16 → exec (.inboundCell p bytes) s
        = .next ((s.bump ctrReturnLate 1).withRet { s.ret with lateRun := s.ret.lateRun + 1 }))))

/-- R110: the playout of the return receiver. A block request takes forty-eight frames of four channels. WAITING
below the start depth they are 0; at the start depth the front cell becomes the current one. PLAYING they are the
samples of the current cell and then of the front cells, as far as the sequences follow one another and the block
reaches. At a gap the block goes on with a cell of zeros, which is counted and reported; at an empty queue the rest
of the block is 0, the underrun is counted and reported, and the receiver waits. R111: the removal that leaves
sixteen cells ends a hold that was sent. (Where the model settles what the rules leave open: log entry 46.) -/
def Obligations.ReturnSoundIsPlayed : Prop :=
  (∀ s : State, (returnBlock s).2.length = 48 ∧
    (s.ret.playing = false → s.ret.queue.length < s.ret.startDepth →
      returnBlock s = (s, List.replicate 48 [0, 0, 0, 0])) ∧
    (s.ret.playing = true → (∀ x, s.ret.current = some x → x.samples = []) → s.ret.queue = [] →
      returnBlock s = ((s.withRet { s.ret with current := none, playing := false }).count ctrReturnUnderruns
        .returnUnderrun 0, List.replicate 48 [0, 0, 0, 0])) ∧
    (∀ x c, s.ret.playing = true → s.ret.current = some x → s.ret.channels = c → 1 ≤ c → c ≤ 4 →
      48 * c ≤ x.samples.length →
      (returnBlock s).1 = s.withRet { s.ret with current := some ⟨x.samples.drop (48 * c), x.pos + 48⟩ } ∧
      ∀ i j, i < 48 → j < 4 → ((returnBlock s).2.getD i []).getD j 0
        = if j < c then x.samples.getD (c * i + j) 0 else 0)) ∧
  (∀ (s : State) (x : RetCell) (rest : List RetCell), s.ret.queue = x :: rest → ∃ t u v : State,
    enterPlaying s = u ∧ needCell s = v ∧
    t.ret = { s.ret with
      queue := rest, current := some ⟨x.samples, 0⟩, lastPlayed := some x.seq
      holdSent := if rest.length = 16 then false else s.ret.holdSent } ∧
    (∀ q : PathNo, t.paths[q] = if rest.length = 16 ∧ s.ret.holdSent = true ∧ s.ret.endHold = true ∧
        (s.paths[q].state = .up ∨ s.paths[q].state = .held) ∧ s.paths[q].agreedHold = true
      then { s.paths[q] with slot := some (.hold 0) } else s.paths[q]) ∧
    (s.ret.playing = false → s.ret.startDepth ≤ s.ret.queue.length → u.ret = { t.ret with playing := true } ∧
      u.paths = t.paths ∧ u.handler = s.handler) ∧
    ((∀ n, s.ret.lastPlayed = some n → x.seq = n + 1) → v.ret = t.ret ∧ v.paths = t.paths ∧
      v.handler = s.handler) ∧
    (∀ n, s.ret.lastPlayed = some n → x.seq ≠ n + 1 → v = (s.withRet { s.ret with
      current := some ⟨List.replicate (80 / s.ret.channels * s.ret.channels) 0, 0⟩
      lastPlayed := some (n + 1) }).count ctrReturnGaps .returnGap 0)) ∧
  (∀ s : State, returnBlock s = returnBlock (enterPlaying s)) ∧
  (∀ (s t : State) (frames : List (List Sample)) (n : Word) (c : Nat) (mine : List Sample) (cells rest : List RetCell)
    (left : List Sample), returnBlock s = (t, frames) → s.ret.playing = true → s.ret.lastPlayed = some n →
    s.ret.channels = c → (c = 1 ∨ c = 2 ∨ c = 4) → mine = ((s.ret.current.map PlayCell.samples).getD []) →
    mine.length % c = 0 → s.ret.queue = cells ++ rest → (∀ x ∈ cells, x.samples.length = 80) →
    cells.map RetCell.seq = (List.range cells.length).map (fun i => n + 1 + BitVec.ofNat 32 i) →
    left = mine ++ cells.flatMap RetCell.samples →
    (48 * c ≤ left.length → (∀ k, cells.length = k + 1 → mine.length + 80 * k < 48 * c) →
      (∀ i j, i < 48 → j < 4 → (frames.getD i []).getD j 0 = if j < c then left.getD (c * i + j) 0 else 0) ∧
      t.ret.playing = true ∧ t.ret.queue = rest ∧ t.ret.lastPlayed = some (n + BitVec.ofNat 32 cells.length) ∧
      t.ret.current.map PlayCell.samples = some (left.drop (48 * c)) ∧ t.handler = s.handler) ∧
    (left.length < 48 * c → rest = [] →
      (∀ i j, i < 48 → j < 4 → (frames.getD i []).getD j 0
        = if j < c ∧ c * i + j < left.length then left.getD (c * i + j) 0 else 0) ∧
      t.ret.playing = false ∧ t.ret.current = none ∧ t.ret.queue = [] ∧
      t.ret.lastPlayed = some (n + BitVec.ofNat 32 cells.length) ∧ (.returnUnderrun, 0) ∈ t.handler.flags ∧
      t.handler.counters[ctrReturnUnderruns] = s.handler.counters[ctrReturnUnderruns] + 1) ∧
    (∀ y behind, left.length < 48 * c → 48 * c ≤ left.length + 80 → rest = y :: behind →
      y.seq ≠ n + 1 + BitVec.ofNat 32 cells.length →
      (∀ i j, i < 48 → j < 4 → (frames.getD i []).getD j 0
        = if j < c ∧ c * i + j < left.length then left.getD (c * i + j) 0 else 0) ∧
      t.ret.playing = true ∧ t.ret.queue = rest ∧
      t.ret.current.map PlayCell.samples = some (List.replicate (left.length + 80 - 48 * c) 0) ∧
      t.ret.lastPlayed = some (n + 1 + BitVec.ofNat 32 cells.length) ∧ (.returnGap, 0) ∈ t.handler.flags ∧
      t.handler.counters[ctrReturnGaps] = s.handler.counters[ctrReturnGaps] + 1))

/-! ## Formats -/

/-- R106, R184, R187: a cell of up to 240 payload bytes, as it departs, passes the check of R106 and gives back its
kind, its stream sequence and its payload; the offer word and the extra word read back as they were built. R153, R161,
R188: the label record of a clip that the log can hold is valid and gives back the clip, less the pins and the rebuilt
mark, which the layout does not hold; a DISCARDED record is valid and names its id. -/
def Obligations.FormatsReadBackAsBuilt : Prop :=
  (∀ (c : Cell) (pathSeq : Byte), c.payload.length ≤ 240 → (c.kind = .returnAudio → c.payload.length = 240) →
    parseCell (cellBytes c pathSeq) = some ⟨c.kind, c.seq, c.payload⟩ ∧ (cellBytes c pathSeq).length = 256) ∧
  (∀ w : OfferWord, w.channels < 256 → w.fault < 256 → w.rate < 2 ^ 32 → parseOffer (offerBytes w) = w) ∧
  (∀ w : ExtraWord, w.code < 256 → w.value < 2 ^ 32 → parseExtra (extraBytes w) = w) ∧
  (∀ (c : Clip) (wseq : Option Word), c.id < 65536 → c.framesSent < 65536 → c.framesTotal < 65536 → c.priority < 8 →
    c.lanes.length ≤ 6 → c.tags.length ≤ 4 → (∀ k ∈ c.tags, k ≤ 64) →
    (∀ t, c.inTc = some t → t.hh < 24 ∧ t.mm < 60 ∧ t.ss < 60 ∧ t.ff < 60) →
    c.onAir = (List.finRange 6).filter (fun l => decide (l ∈ c.onAir)) →
    recordValid (clipRecord c wseq) = true ∧
    parseRecord (clipRecord c wseq) = ⟨clipStateCode c.state, c.id, wseq,
      { c with wseq := wseq, rebuilt := false, pins := [] }⟩) ∧
  (∀ (id : Nat) (wseq : Option Word), id < 65536 → recordValid (discardedRecord id wseq) = true ∧
    (parseRecord (discardedRecord id wseq)).id = id ∧ (parseRecord (discardedRecord id wseq)).state = 7 ∧
    (parseRecord (discardedRecord id wseq)).wseq = wseq)

/-! ## Cell assembly -/

/-- R118: the arbiter chooses a candidate whose load figure no other candidate's is below, and of those the lowest
path number; it chooses none only where there is no candidate. The load figure is the fill of the send queue times
1,000,000, divided by the path's agreed rate and rounded down. R91: a path is label-only by its own setting, by the
far offer or by the far extras. R116: the candidates of a cell that is no picture are
UP with room in their send queue, whatever their marks; those of a picture cell are open and not label-only as well.
R117: PMRK loads a queue's marks and weighs its fill against them. -/
def Obligations.ArbiterChoosesTheLeastLoad : Prop :=
  (∀ (s : State) (picture : Bool),
    (∀ p, choosePath s picture = some p → isCandidate s picture p = true ∧
      ∀ q, isCandidate s picture q = true → loadFigure s.paths[p] ≤ loadFigure s.paths[q] ∧
        (loadFigure s.paths[q] = loadFigure s.paths[p] → p ≤ q)) ∧
    (choosePath s picture = none → ∀ q, isCandidate s picture q = false) ∧
    (∀ (q : PathNo) (rate : Nat), s.paths[q].agreed = some rate →
      loadFigure s.paths[q] = s.paths[q].queue.length * 1000000 / rate) ∧
    (∀ q : PathNo, labelOnly s.paths[q] = true ↔ s.paths[q].settings.labelOnly = true ∨
      (∃ w, s.paths[q].farOffer = some w ∧ w.labelOnly = true) ∨ s.paths[q].extras.labelOnly = true) ∧
    (∀ q, isCandidate s false q = true ↔ s.paths[q].state = .up ∧ s.paths[q].queue.length < 128) ∧
    (∀ q, isCandidate s true q = true ↔ s.paths[q].state = .up ∧ s.paths[q].queue.length < 128 ∧
      s.asm.opened[q] = true ∧ labelOnly s.paths[q] = false)) ∧
  (∀ (d : Directive) (s u : State) (p : PathNo) (high low : Nat), reaches .pmrk d s u → wordAt d.words 1 = high →
    wordAt d.words 2 = low →
    (wordAt d.words 0 = p.val → 2 ≤ high → high ≤ 128 → low < high → ∃ opened : Bool,
      exec (.pmrk d) s = .next (answered .pmrk d .success .empty (u.withAsm { u.asm with
        marks := u.asm.marks.set p ⟨high, low⟩, opened := u.asm.opened.set p opened })) ∧
      (high < u.paths[p].queue.length → opened = false) ∧ (u.paths[p].queue.length ≤ low → opened = true) ∧
      (low < u.paths[p].queue.length → u.paths[p].queue.length ≤ high → opened = u.asm.opened[p])) ∧
    ((3 < wordAt d.words 0 ∨ high < 2 ∨ 128 < high ∨ high ≤ low) →
      exec (.pmrk d) s = .next (refused .pmrk d .range u)))

/-- R115, R116, R118, R120 to R123: the assembly of a cell, the front of the redispatch list not stale: a CONTROL cell
goes first, then the front of the redispatch list, then an AUDIO cell, then a LABEL cell, of the front stale tag before
the front stale label, each to the path the arbiter chooses, whose queue is closed to picture when it passes its high
mark. A picture cell at the front of the redispatch list that has no path holds back the list and not the classes
behind it. R133: where the last stale label is served while the list's overflow flag is set, the list is given every
clip of the log, in log order, and the flag is cleared. With no path to take a cell, nothing moves. (Where the model
settles what the rules leave open: log entries 19, 24 and 50.) -/
def Obligations.AssemblyServesTheFirstClass : Prop :=
  ∀ s : State, s.power = true →
    (∀ x, s.asm.redispatch.head? = some x → staleCell s.asm.gen x = false) →
    (choosePath s false = none → exec .cellAssembly s = .next (kick s)) ∧
    (∀ x rest p, s.asm.control = x :: rest → choosePath s false = some p →
      exec .cellAssembly s = .next (kick ((s.setPath p { s.paths[p] with
          queue := s.paths[p].queue ++ [x] }).withAsm { s.asm with
        control := rest
        opened := if s.asm.marks[p].high < s.paths[p].queue.length + 1 then s.asm.opened.set p false
          else s.asm.opened }))) ∧
    (∀ x rest p, s.asm.control = [] → s.asm.redispatch = x :: rest →
      choosePath s (decide (x.kind = .video ∨ x.kind = .clip)) = some p →
      exec .cellAssembly s = .next (kick (settleRedispatch ((s.setPath p { s.paths[p] with
          queue := s.paths[p].queue ++ [x] }).withAsm { s.asm with
        redispatch := rest
        opened := if s.asm.marks[p].high < s.paths[p].queue.length + 1 then s.asm.opened.set p false
          else s.asm.opened })))) ∧
    (s.asm.control = [] → (∀ y, s.asm.redispatch.head? = some y →
        (y.kind = .video ∨ y.kind = .clip) ∧ choosePath s true = none) →
      (∀ x rest p, s.asm.audio = x :: rest → choosePath s false = some p →
        exec .cellAssembly s = .next (kick ((s.setPath p { s.paths[p] with
            queue := s.paths[p].queue ++ [x] }).withAsm { s.asm with
          audio := rest
          opened := if s.asm.marks[p].high < s.paths[p].queue.length + 1 then s.asm.opened.set p false
            else s.asm.opened }))) ∧
      (∀ (code : Nat) (rest : List Nat) (p : PathNo) (x : Cell), s.asm.audio = [] → s.asm.staleTags = code :: rest →
        choosePath s false = some p →
        x = ⟨.label, noFlags, 0, 0, s.ref.tick, s.asm.labelSeq, tagRecord code (tagText s code), 0⟩ →
        exec .cellAssembly s = .next (kick ((s.setPath p { s.paths[p] with
            queue := s.paths[p].queue ++ [x] }).withAsm { s.asm with
          staleTags := rest, labelSeq := s.asm.labelSeq + 1
          opened := if s.asm.marks[p].high < s.paths[p].queue.length + 1 then s.asm.opened.set p false
            else s.asm.opened }))) ∧
      (∀ (id : Nat) (rest after : List Nat) (overflow : Bool) (p : PathNo) (x : Cell), s.asm.audio = [] →
        s.asm.staleTags = [] → s.asm.staleLabels = id :: rest → choosePath s false = some p →
        ((rest ≠ [] ∨ s.clips.staleOverflow = false) → after = rest ∧ overflow = s.clips.staleOverflow) →
        (rest = [] → s.clips.staleOverflow = true → (s.clips.clips.map Clip.id).Nodup ∧
          s.clips.clips.length ≤ 256 ∧ after = s.clips.clips.map Clip.id ∧ overflow = false) →
        x = ⟨.label, noFlags, 0, 0, s.ref.tick, s.asm.labelSeq, (match findClip s id with
          | some c => clipRecord c c.wseq
          | none => discardedRecord id none), 0⟩ →
        exec .cellAssembly s = .next (kick (((s.setPath p { s.paths[p] with
            queue := s.paths[p].queue ++ [x] }).withAsm { s.asm with
          staleLabels := after, labelSeq := s.asm.labelSeq + 1
          opened := if s.asm.marks[p].high < s.paths[p].queue.length + 1 then s.asm.opened.set p false
            else s.asm.opened }).withClips { s.clips with staleOverflow := overflow }))))

/-- R115, R124, R126: the assembly of a VIDEO cell, when no earlier class has one and a path takes picture: of the
lane next in turn that has live data, the piece at its cursor. The cell carries the piece's flags, place, tick,
stream sequence and skip generation; the cursor moves to the next piece and the record is SENDING, or, after the last
piece of the last slice, DONE, and the cursor goes on to the lane's next record. The pieces of a coded slice hold its
bytes in order. R115, R129: the assembly of a CLIP cell, when no lane has live data, in the engines' turn. R116: the
queue that takes either cell is closed to picture when its fill passes the high mark. (Where the
model settles what the rules leave open: log entry 19.) -/
def Obligations.PictureIsCutInTurns : Prop :=
  (∀ (s : State) (p : PathNo), s.power = true → s.asm.control = [] → s.asm.redispatch = [] → s.asm.audio = [] →
    s.asm.staleTags = [] → s.asm.staleLabels = [] → choosePath s true = some p →
    (∀ (l : Lane) (c : Cursor) (r : FrameRecord) (e : SliceEntry), livePiece s l = some (c, r, e) →
      (s.store.records[l].map FrameRecord.tick).Nodup →
      (∀ m : Lane, (livePiece s m).isSome = true →
        (l.val + 5 - s.asm.laneRot.val) % 6 ≤ (m.val + 5 - s.asm.laneRot.val) % 6) →
      ∃ (t : State) (x : Cell), exec .cellAssembly s = .next (kick t) ∧
        t.paths = s.paths.set p { s.paths[p] with queue := s.paths[p].queue ++ [x] } ∧
        t.asm.opened = (if s.asm.marks[p].high < s.paths[p].queue.length + 1 then s.asm.opened.set p false
          else s.asm.opened) ∧
        x.kind = .video ∧ x.stream = l.val ∧ x.unit = c.slice ∧ x.tick = r.tick ∧ x.seq = s.asm.videoSeq[l] ∧
        x.gen = s.asm.gen[l] ∧ x.payload = pieceBytes s.store.dram r e c.piece ∧
        (x.flags.first = true ↔ c.piece = 0) ∧ (x.flags.last = true ↔ c.piece + 1 = pieceCount e) ∧
        (x.flags.key = true ↔ r.kind = .key) ∧ (x.flags.rep = true ↔ e.kind ≠ .coded) ∧
        t.asm.videoSeq = s.asm.videoSeq.set l (s.asm.videoSeq[l] + 1) ∧ t.asm.laneRot = l ∧
        (∀ m, m ≠ l → t.asm.cursors[m] = s.asm.cursors[m] ∧ t.store.records[m] = s.store.records[m]) ∧
        (c.piece + 1 < pieceCount e → t.asm.cursors[l] = some { c with piece := c.piece + 1 } ∧
          findRecord t.store l r.tick = some { r with live := .sending }) ∧
        (pieceCount e ≤ c.piece + 1 → c.slice + 1 < r.n →
          t.asm.cursors[l] = some { c with slice := c.slice + 1, piece := 0 } ∧
          findRecord t.store l r.tick = some { r with live := .sending }) ∧
        (pieceCount e ≤ c.piece + 1 → r.n ≤ c.slice + 1 →
          findRecord t.store l r.tick = some { r with live := .done } ∧
          (recordsAfter s.store l r.tick = [] → t.asm.cursors[l] = none) ∧
          (∀ y ys, recordsAfter s.store l r.tick = y :: ys → y.live = .pending → s.asm.awaiting[l] = false →
            t.asm.cursors[l] = some ⟨y.tick, 0, 0⟩)) ∧
        t.handler = s.handler ∧ t.clips = s.clips ∧ t.engines = s.engines ∧ t.lanes = s.lanes) ∧
    (∀ (e : EngineNo) (c : ClipCursor) (r : FrameRecord) (y : SliceEntry), (∀ l, livePiece s l = none) →
      engineOffer s e = some (c, r, y) → (e ≠ s.asm.engineRot ∨ ∀ f, f ≠ e → engineOffer s f = none) →
      ∃ (t : State) (x : Cell), exec .cellAssembly s = .next (kick (engineAdvance e t)) ∧
        t.paths = s.paths.set p { s.paths[p] with queue := s.paths[p].queue ++ [x] } ∧
        t.asm.opened = (if s.asm.marks[p].high < s.paths[p].queue.length + 1 then s.asm.opened.set p false
          else s.asm.opened) ∧
        x.kind = .clip ∧ x.stream = 16 * e.val + c.lane.val ∧ x.unit = c.slice ∧ x.tick = r.tick ∧
        x.seq = s.asm.clipSeq[e] ∧ x.payload = pieceBytes s.store.dram r y c.piece ∧
        (x.flags.first = true ↔ c.piece = 0) ∧ (x.flags.last = true ↔ c.piece + 1 = pieceCount y) ∧
        (x.flags.key = true ↔ r.kind = .key) ∧ (x.flags.rep = true ↔ y.kind ≠ .coded) ∧
        t.asm.clipSeq = s.asm.clipSeq.set e (s.asm.clipSeq[e] + 1) ∧ t.asm.engineRot = e ∧
        t.asm.cursors = s.asm.cursors ∧ t.store = s.store ∧ t.handler = s.handler ∧ t.clips = s.clips ∧
        t.engines = s.engines ∧ t.lanes = s.lanes)) ∧
  (∀ (s : State) (l : Lane) (c : Cursor) (r : FrameRecord) (e : SliceEntry), livePiece s l = some (c, r, e) ↔
    s.asm.cursors[l] = some c ∧ findRecord s.store l c.tick = some r ∧ r.slices[c.slice]? = some e) ∧
  (∀ (m : Memory) (r : FrameRecord) (e : SliceEntry),
    (e.kind = .coded → (List.range (pieceCount e)).flatMap (pieceBytes m r e)
        = readFrameBytes m r.blocks e.offset e.size ∧
      ∀ i, i < pieceCount e → (pieceBytes m r e i).length ≤ 240 ∧ (i + 1 < pieceCount e →
        (pieceBytes m r e i).length = 240)) ∧
    (e.kind ≠ .coded → pieceCount e = 1 ∧ pieceBytes m r e 0 =
      (if e.kind = .repeated then 1 else 2) :: List.replicate 15 0))

/-- R125, R126: a lane's cursor looks at records in order, passes over those that are ABANDONED and, awaiting key, over
DELTA records, which it makes ABANDONED when they are PENDING, and takes the first of the others, which ends the wait
for a key; with none it names no record. R119: the effective latency limit is the least of the lane's own and the far
ends' of the paths in UP. R127, R128: a lag within the limit changes nothing. Above it, every record of the lane but
the newest, still to be sent, is ABANDONED, the skip is counted and reported, the key request is set, the skip
generation rises, and the cursor goes to the newest record when that is KEY, and to none, awaiting key, when it is
DELTA. -/
def Obligations.CursorsSeekAndSkip : Prop :=
  (∀ (s t : State) (l : Lane) (before behind : List FrameRecord), seek l (before ++ behind) s = t →
    (∀ x ∈ before, x.live = .abandoned ∨ (s.asm.awaiting[l] = true ∧ x.kind = .delta)) →
    (∀ x, behind.head? = some x → x.live ≠ .abandoned ∧ (s.asm.awaiting[l] = true → x.kind = .key)) →
    t.store = { s.store with records := s.store.records.set l (s.store.records[l].map (fun y =>
      if before.any (fun x => decide (x.tick = y.tick ∧ x.live = .pending)) then { y with live := .abandoned }
      else y)) } ∧
    t.asm.cursors = s.asm.cursors.set l (behind.head?.map (fun x => ⟨x.tick, 0, 0⟩)) ∧
    (behind = [] → t.asm.awaiting = s.asm.awaiting) ∧
    (behind ≠ [] → t.asm.awaiting[l] = false ∧ ∀ m, m ≠ l → t.asm.awaiting[m] = s.asm.awaiting[m])) ∧
  (∀ (s : State) (l : Lane),
    effectiveLimit s l ≤ s.lanes[l].rate.settings.latency ∧
    (∀ (p : PathNo) v, s.paths[p].state = .up → s.paths[p].extras.latency = some v → effectiveLimit s l ≤ v) ∧
    (effectiveLimit s l = s.lanes[l].rate.settings.latency ∨ ∃ p : PathNo, s.paths[p].state = .up ∧
      s.paths[p].extras.latency = some (effectiveLimit s l))) ∧
  (∀ (s : State) (l : Lane) (limit : Nat),
    (s.asm.cursors[l] = none → liveSkip l limit s = s) ∧
    (∀ c r, s.asm.cursors[l] = some c → newestRecord s.store l = some r →
      ((r.tick - c.tick).toNat ≤ limit → liveSkip l limit s = s) ∧
      (limit < (r.tick - c.tick).toNat → (s.store.records[l].map FrameRecord.tick).Nodup → r.live = .pending →
        (∀ x ∈ recordsFrom s.store l c.tick, unsent x = true) → recordsFrom s.store l c.tick ≠ [] → ∃ t : State,
        liveSkip l limit s = t ∧ (.liveSkip, l.val) ∈ t.handler.flags ∧
        t.handler.counters[ctrLiveSkips] = s.handler.counters[ctrLiveSkips] + 1 ∧
        t.asm.gen = s.asm.gen.set l (s.asm.gen[l] + 1) ∧
        (s.lanes[l].state ≠ .off → t.lanes[l] = { s.lanes[l] with keyReq := true }) ∧
        (∀ x ∈ s.store.records[l], x.tick ≠ r.tick → unsent x = true →
          { x with live := .abandoned } ∈ t.store.records[l]) ∧
        (r.kind = .key → t.asm.cursors[l] = some ⟨r.tick, 0, 0⟩ ∧ t.asm.awaiting[l] = false ∧
          r ∈ t.store.records[l]) ∧
        (r.kind = .delta → t.asm.cursors[l] = none ∧ t.asm.awaiting[l] = true ∧
          { r with live := .abandoned } ∈ t.store.records[l]) ∧
        t.paths = s.paths ∧ t.clips = s.clips ∧ t.engines = s.engines ∧
        ∀ m, m ≠ l → t.store.records[m] = s.store.records[m])))

/-! ## Reading -/

/-- R36, R70, R90, R112, R130, R150, R163, R174: the directives that only read answer with the items of their owner as
they stand when they are taken, and change nothing; RDMX of the live values during a block gives those of the completion
of the block before; a lane, a path, a selector or a position out of range is refused RANGE, and a clip that is not in
the log NOT_FOUND. The second part says what the answers hold. Where the model settles what the rules leave open: times
stand as whole milliseconds, rounded up (log entry 7), the time done of an erase whose end is late as it stands (92),
the layout of the answer as result words is a free value (10), the live values of R90 as a whole as they were at the
completion (45), but as they stand between a completion and the next request (87), a clip's place in the transfer queue
counted from 0 (51), a load figure for a path that is a candidate for a cell that is no picture (70), and RDLS without a
next victim slot in ERASING (78). -/
def Obligations.ReadsChangeNothing : Prop :=
  (∀ (d : Directive) (s u : State),
    (reaches .rdln d s u →
      (∀ l : Lane, wordAt d.words 0 = l.val →
        exec (.rdln d) s = .next (answered .rdln d .success (.lane (laneReport u l)) u)) ∧
      (5 < wordAt d.words 0 → exec (.rdln d) s = .next (refused .rdln d .range u))) ∧
    (reaches .rdas d s u → exec (.rdas d) s = .next (answered .rdas d .success (.assembler (assemblyReport u)) u)) ∧
    (reaches .rdst d s u → exec (.rdst d) s = .next (answered .rdst d .success (.store (storeReport u.store)) u)) ∧
    (reaches .rdmx d s u →
      (wordAt d.words 0 = 0 → exec (.rdmx d) s = .next (answered .rdmx d .success
        (.cuedBank (bankReport u.mixer.cued u.mixer.wordLens u.mixer.ramp)) u)) ∧
      (wordAt d.words 0 = 1 → u.mixer.work = none → exec (.rdmx d) s = .next (answered .rdmx d .success
        (.liveBank (bankReport u.mixer.live u.mixer.wordLens u.mixer.ramp)
          (liveReport ⟨u.mixer.live, u.mixer.xp, u.mixer.masters, u.mixer.fades, u.mixer.takePending,
            u.mixer.takeArmed.map TakeImage.tick, u.mixer.wordLens, u.mixer.ramp⟩)) u)) ∧
      (∀ v, wordAt d.words 0 = 1 → u.mixer.work.isSome = true → u.mixer.lastView = v →
        exec (.rdmx d) s = .next (answered .rdmx d .success
          (.liveBank (bankReport v.bank v.wordLens v.ramp) (liveReport v)) u)) ∧
      (wordAt d.words 0 = 2 → exec (.rdmx d) s = .next (answered .rdmx d .success (.law u.mixer.law.toList) u)) ∧
      (2 < wordAt d.words 0 → exec (.rdmx d) s = .next (refused .rdmx d .range u))) ∧
    (reaches .rdpt d s u →
      (∀ p : PathNo, wordAt d.words 0 = p.val →
        exec (.rdpt d) s = .next (answered .rdpt d .success (.path (pathReport u p)) u)) ∧
      (3 < wordAt d.words 0 → exec (.rdpt d) s = .next (refused .rdpt d .range u))) ∧
    (reaches .rdcl d s u →
      (∀ c, findClip u (wordAt d.words 0) = some c →
        exec (.rdcl d) s = .next (answered .rdcl d .success (.clip (clipReport u c)) u)) ∧
      (findClip u (wordAt d.words 0) = none → exec (.rdcl d) s = .next (refused .rdcl d .notFound u))) ∧
    (reaches .lscl d s u →
      (wordAt d.words 0 ≤ 255 → exec (.lscl d) s
        = .next (answered .lscl d .success (.clipList (listReport u (wordAt d.words 0))) u)) ∧
      (255 < wordAt d.words 0 → exec (.lscl d) s = .next (refused .lscl d .range u))) ∧
    (reaches .rdls d s u → exec (.rdls d) s = .next (answered .rdls d .success (.labels (labelReport u)) u)) ∧
    (reaches .rdrf d s u → exec (.rdrf d) s = .next (answered .rdrf d .success (.reference (referenceReport u)) u)) ∧
    (∀ t, s.power = true → exec .blockCompletion s = .next t → s.mixer.work.isSome = true →
      t.mixer.lastView = ⟨t.mixer.live, t.mixer.xp, t.mixer.masters, t.mixer.fades, t.mixer.takePending,
        t.mixer.takeArmed.map TakeImage.tick, t.mixer.wordLens, t.mixer.ramp⟩)) ∧
  (∀ (u : State) (l : Lane) (p : PathNo) (i : ContactNo) (k : Fin 32) (q : Clip) (start : Nat),
    (∀ r c, laneReport u l = r → u.lanes[l] = c → r.state = c.state ∧ r.format = c.format ∧ r.held = c.held ∧
      r.keyReq = c.keyReq ∧ r.delta = c.delta ∧ r.lastTick = c.lastTick ∧
      r.frame = c.frame.map (fun f => (f.tick, f.disposition, f.kind, f.tally, f.next)) ∧ r.passFill = c.pass.length ∧
      (∀ b : Fin 2, r.buffers[b] = c.buffers[b].state) ∧ r.settings = c.rate.settings ∧ r.heldRate = c.rate.held ∧
      r.wOn = c.rate.wOn ∧ r.wOff = c.rate.wOff ∧ r.fullness = c.rate.fullness ∧ r.q = c.rate.q ∧
      r.force = c.rate.force ∧ r.tallyOn = c.rate.tallyOn ∧ r.rate = c.rate.rate ∧ r.capacity = c.rate.capacity ∧
      r.labelRes = u.asm.labelReserve ∧ r.clipRes = u.asm.clipReserve) ∧
    (∀ r, assemblyReport u = r → r.control = u.asm.control.length ∧ r.redispatch = u.asm.redispatch.length ∧
      r.audio = u.asm.audio.length ∧ r.staleTags = u.asm.staleTags.length ∧
      r.staleLabels = u.asm.staleLabels.length ∧
      r.lanes[l] = ⟨u.asm.cursors[l].map (fun c => (c.tick, c.slice)), u.asm.awaiting[l], u.asm.gen[l],
        u.asm.effLimit[l]⟩ ∧
      r.laneRot = u.asm.laneRot ∧ r.engineRot = u.asm.engineRot ∧ r.pathsUp = u.asm.pathsUp ∧
      r.paths[p].high = u.asm.marks[p].high ∧ r.paths[p].low = u.asm.marks[p].low ∧
      r.paths[p].opened = u.asm.opened[p] ∧ r.paths[p].fill = u.paths[p].queue.length ∧
      (u.paths[p].state ≠ .up → r.paths[p].load = none) ∧
      (∀ rate, u.paths[p].state = .up → u.paths[p].queue.length < 128 → u.paths[p].agreed = some rate →
        r.paths[p].load = some (u.paths[p].queue.length * 1000000 / rate)) ∧
      r.videoSeq = u.asm.videoSeq ∧ r.clipSeq = u.asm.clipSeq ∧ r.labelSeq = u.asm.labelSeq ∧
      r.controlSeq = u.asm.controlSeq) ∧
    (∀ r all, storeReport u.store = r → all = (List.finRange 6).flatMap (fun m => u.store.records[m]) →
      r.free = u.store.free.length ∧ r.pinned = u.store.pinned ∧ r.ceiling = u.store.ceiling ∧ r.inUse = all.length ∧
      r.writing = (all.filter (fun x => !x.complete)).length ∧
      r.pending = (all.filter (fun x => decide (x.live = .pending))).length ∧
      r.gone = (all.filter (fun x => decide (x.live = .abandoned))).length ∧
      r.withPins = (all.filter (fun x => decide (1 ≤ x.pins))).length ∧
      r.lanes[l].1 = u.store.records[l].length ∧
      r.lanes[l].2.1 = u.store.records[l].head?.map FrameRecord.tick) ∧
    (∀ r c, pathReport u p = r → u.paths[p] = c → r.state = c.state ∧ r.carrier = c.carrier ∧
      r.settings = c.settings ∧ r.ownAck = c.ownAck ∧ r.farOffer = c.farOffer ∧ r.run = c.run ∧
      r.farFault = c.farFault ∧ r.toggle = c.toggle ∧ r.extras = c.extras ∧ r.agreed = c.agreed ∧
      r.agreedHold = c.agreedHold ∧ r.retry = c.retry ∧ r.fill = c.queue.length ∧ r.slotFull = c.slot.isSome ∧
      r.seq = c.seq ∧ r.channels = u.ret.channels ∧ r.startDepth = u.ret.startDepth ∧
      r.jitter = u.ret.queue.length ∧ r.frontSeq = u.ret.queue.head?.map RetCell.seq ∧
      r.lastPlayed = u.ret.lastPlayed ∧ r.playing = u.ret.playing ∧ r.holdSent = u.ret.holdSent ∧
      (∀ due, c.timer = some due → due - u.ref.clock ≤ 48 * r.timerMs ∧ 48 * r.timerMs < due - u.ref.clock + 48)) ∧
    (∀ r, clipReport u q = r → r.clip = q ∧ (r.dirty = true ↔ q.id ∈ u.clips.dirty) ∧
      (r.stale = true ↔ q.id ∈ u.asm.staleLabels) ∧ (q.id ∉ u.clips.queue → r.place = none) ∧
      r.lanes.map Prod.fst = q.lanes.map Prod.fst ∧
      ∀ x ∈ r.lanes, x.2.1 = (q.pins.filter (fun y => decide (y.1 = x.1))).length) ∧
    (∀ r, listReport u start = r → r.count = u.clips.clips.length ∧ r.lastId = u.clips.lastId ∧
      r.dirtyOverflow = u.clips.dirtyOverflow ∧ r.staleOverflow = u.clips.staleOverflow ∧
      r.dirtyFill = u.clips.dirty.length ∧ r.staleFill = u.asm.staleLabels.length ∧ r.queue = u.clips.queue ∧
      r.clips.map ClipLine.id = ((u.clips.clips.drop start).take 32).map Clip.id ∧
      r.clips.map ClipLine.state = ((u.clips.clips.drop start).take 32).map Clip.state) ∧
    (∀ r, labelReport u = r → r.ready = u.labels.ready ∧ r.head = u.labels.head ∧ r.fillOrder = u.labels.fillOrder ∧
      r.compact = u.labels.compact ∧ r.nextSeq = u.labels.nextSeq ∧ r.storeFull = u.labels.storeFull ∧
      r.sectors[k].1 = u.labels.sectors[k] ∧
      r.sectors[k].2 = (u.labels.directory.filter (fun e => decide (e.sector = k.val))).length ∧
      r.erased = (u.labels.sectors.toList.filter (fun x => decide (x = .erased))).length ∧
      r.writing = u.labels.writing.map (fun w => ⟨w.sector, w.slot, w.id, w.seq, w.discarded, w.bytes⟩) ∧
      r.eraseList.map Prod.fst = u.labels.eraseList.map EraseEntry.sector ∧ r.scanBad = u.labels.scanBad ∧
      r.scanErase = u.labels.scanErase ∧ r.scanFound = u.labels.scanFound) ∧
    (∀ r, referenceReport u = r → r.state = u.ref.state ∧ r.originHoldover = u.ref.originHoldover ∧
      r.rate = u.ref.rate ∧ r.tick = u.ref.tick ∧ r.lastTickSample = u.ref.lastTickSample ∧ r.clock = u.ref.clock ∧
      r.run = u.ref.run ∧ r.lastPulse = u.ref.lastPulse ∧ r.lastGood = u.ref.lastGood ∧ r.phase = u.ref.phase ∧
      r.timecode = u.ref.timecode ∧ r.heldTimecode = u.ref.heldTimecode ∧
      (r.governance = .steered ↔ u.ref.state = .locked) ∧ (r.governance = .held ↔ u.ref.state = .holdover) ∧
      r.contacts[i].fn = u.contacts[i].fn ∧ r.contacts[i].param = u.contacts[i].param ∧
      r.contacts[i].edge = u.contacts[i].edge ∧ r.contacts[i].filterMs = u.contacts[i].filterMs ∧
      r.contacts[i].raw = u.contacts[i].raw ∧ r.contacts[i].accepted = u.contacts[i].accepted ∧
      (r.contacts[i].filter.map Prod.snd) = u.contacts[i].filter.map Filter.stamp ∧
      (r.onAir[l] = true ↔ ∃ j : ContactNo, u.contacts[j].fn = .tally ∧ u.contacts[j].param = l.val ∧
        (u.contacts[j].accepted = true ↔ u.contacts[j].edge ≠ .falling))))

/-! ## The clip log -/

/-- R132, R134, R135, R137: MKIN with its lanes and tags in order, its preroll within 1,500 and its tick not later than
the current one. With room in the log it makes one OPEN clip at the newest end, under the first id after the last that
no clip holds, and names it. The in-point of a lane is its newest KEY record not later than the target, else its
oldest, else it is PENDING, the clip then short of preroll; the clip pins every record from the in-points on. R136:
refused at the ceiling, the earliest in-point, the first in the list of two alike, moves to the lane's next KEY record,
or the lane becomes PENDING, and so on until the request is granted; SHORT_PREROLL is latched with each lane moved.
With no room the oldest clip that is SENT and not kept is retired; with none, MKIN is refused FULL with CLIP_LOG_FULL.
With a tag that is not defined it is refused NOT_FOUND, and RANGE with a lane, a tag, the preroll or the tick out of
range, or a lane or tag named twice. R133: the new clip is marked, after the clip it retires. (Where the model settles
what the rules leave open: log entries 19, 21, 22, 38 and 85.) -/
def Obligations.MarkInMakesAClip : Prop :=
  (∀ (d : Directive) (s u : State) (lanes : List Lane) (tags : List Nat) (tick : Word) (target : Word)
    (pts : List (Lane × InPoint)), reaches .mkin d s u →
    (d.words.drop 5).map (fun w => w.toNat) = lanes.map Fin.val ++ tags → lanes.length = wordAt d.words 0 →
    lanes.Nodup → tags.Nodup → (∀ k ∈ tags, 1 ≤ k ∧ k ≤ 64) → wordAt d.words 2 ≤ 1500 →
    ((wordAt d.words 3 = 0 ∧ tick = u.ref.tick) ∨
      (wordAt d.words 3 = 1 ∧ tick = d.words.getD 4 0 ∧ later tick u.ref.tick = false)) →
    target = tick - BitVec.ofNat 32 (wordAt d.words 2) →
    pts = lanes.map (fun l => (l, (choosePoint u.store target l).1)) →
    ((∀ k ∈ tags, tagDefined u k = true) → u.clips.clips.length < 256 → ∃ (t : State) (c : Clip),
      exec (.mkin d) s = .next (settled .mkin
        (answered .mkin d .success (.clipMade c.id (c.lanes.map Prod.snd) c.short) t)) ∧
      t.clips.clips = u.clips.clips ++ [c] ∧ t.clips.lastId = c.id ∧ 1 ≤ c.id ∧ c.id ≤ 65535 ∧
      (∀ k ∈ u.clips.clips, k.id ≠ c.id) ∧
      (∀ n, n = (if u.clips.lastId < 65535 then u.clips.lastId + 1 else 1) → (∀ k ∈ u.clips.clips, k.id ≠ n) →
        c.id = n) ∧
      c.state = .opened ∧ c.inTick = tick ∧ c.outTick = none ∧ c.tags = tags ∧
      c.lanes.map Prod.fst = lanes ∧ c.kept = false ∧ c.sendOnClose = false ∧ c.engine = none ∧
      c.ceilClosed = false ∧ c.priority = 0 ∧ c.keys = false ∧ c.framesSent = 0 ∧ c.framesTotal = 0 ∧
      c.wseq = none ∧ c.rebuilt = false ∧ (∀ l, l ∈ c.onAir ↔ l ∈ lanes ∧ tallyActive u.contacts l = true) ∧
      c.pins = namedRecords u.store c.lanes ∧ (storeSound u.store → pinRequest u.store c.pins = some t.store) ∧
      (∀ l v, earliestPoint c.lanes = some (l, v) →
        c.inTc = (findRecord u.store l v).map FrameRecord.timecode) ∧
      (earliestPoint c.lanes = none → c.inTc = none) ∧
      (∀ l ∈ lanes, (choosePoint u.store target l).2 = true →
        c.short = true ∧ (.shortPreroll, l.val) ∈ t.handler.flags) ∧
      (∀ st, pinRequest u.store (namedRecords u.store pts) = some st → t.store = st ∧ c.lanes = pts ∧
        (c.short = true → ∃ l ∈ lanes, (choosePoint u.store target l).2 = true)) ∧
      (∀ l ∈ (stepPoints u.store (recordsInUse u.store + 7) pts []).2.1,
        c.short = true ∧ (.shortPreroll, l.val) ∈ t.handler.flags) ∧
      (pinRequest u.store (namedRecords u.store pts) = none → c.short = true ∧
        c.lanes = (stepPoints u.store (recordsInUse u.store + 7) pts []).1) ∧
      (u.clips.dirty.length < 256 → c.id ∈ t.clips.dirty) ∧ marked [c.id] u t ∧
      t.lanes = u.lanes ∧ t.mixer = u.mixer ∧ t.paths = u.paths ∧ t.ref = u.ref ∧ t.labels = u.labels) ∧
    (∀ before k behind, (∀ k ∈ tags, tagDefined u k = true) → u.clips.clips = before ++ k :: behind →
      u.clips.clips.length = 256 → (u.clips.clips.map Clip.id).Nodup → k.state = .sent → k.kept = false →
      (∀ x ∈ before, x.state ≠ .sent ∨ x.kept = true) → ∃ (t : State) (c : Clip),
      exec (.mkin d) s = .next (settled .mkin
        (answered .mkin d .success (.clipMade c.id (c.lanes.map Prod.snd) c.short) t)) ∧
      t.clips.clips = before ++ behind ++ [c] ∧ t.clips.lastId = c.id ∧ (∀ x ∈ before ++ behind, x.id ≠ c.id) ∧
      c.state = .opened ∧ c.inTick = tick ∧ c.tags = tags ∧ c.lanes.map Prod.fst = lanes ∧ marked [k.id, c.id] u t ∧
      t.engines = u.engines ∧ t.lanes = u.lanes ∧ t.mixer = u.mixer ∧ t.paths = u.paths) ∧
    ((∀ k ∈ tags, tagDefined u k = true) → 256 ≤ u.clips.clips.length →
      (∀ c ∈ u.clips.clips, c.state ≠ .sent ∨ c.kept = true) →
      exec (.mkin d) s = .next (settled .mkin (answered .mkin d .full .empty (u.latch .clipLogFull 0)))) ∧
    ((∃ k ∈ tags, tagDefined u k = false) → exec (.mkin d) s = .next (refused .mkin d .notFound u))) ∧
  (∀ (st : CodedStore) (target : Word) (l : Lane) (before behind : List FrameRecord) (r : FrameRecord),
    (st.records[l] = before ++ r :: behind → r.kind = .key →
      ((r.tick = target ∨ earlier r.tick target = true) →
        (∀ y ∈ behind, y.kind = .key → y.tick ≠ target ∧ earlier y.tick target = false) →
        choosePoint st target l = (.at r.tick, false)) ∧
      ((∀ y ∈ st.records[l], y.kind = .key → y.tick ≠ target ∧ earlier y.tick target = false) →
        (∀ y ∈ before, y.kind = .delta) → choosePoint st target l = (.at r.tick, true))) ∧
    ((∀ y ∈ st.records[l], y.kind = .delta) → choosePoint st target l = (.pending, true))) ∧
  (∀ (st : CodedStore) (pts : List (Lane × InPoint)) (l : Lane) (v : Word) (moved : List Lane) (n : Nat),
    (∀ m w, (m, w) ∈ namedRecords st pts ↔ ∃ a, (m, InPoint.at a) ∈ pts ∧ ∃ r ∈ recordsFrom st m a, r.tick = w) ∧
    (∀ st1, pinRequest st (namedRecords st pts) = some st1 → stepPoints st (n + 1) pts moved = (pts, moved, st1)) ∧
    (pinRequest st (namedRecords st pts) = none → earliestPoint pts = some (l, v) →
      stepPoints st (n + 1) pts moved = stepPoints st n
        (pts.map (fun p => if p.1 = l then (l, stepPoint st l v) else p)) (moved ++ [l])) ∧
    (earliestPoint pts = some (l, v) → (∀ p ∈ pts, ∀ w, p.2 = .at w → w.toNat < 2 ^ 31) →
      ∃ before behind, pts = before ++ (l, .at v) :: behind ∧
        (∀ p ∈ before, ∀ w, p.2 = .at w → v.toNat < w.toNat) ∧
        (∀ p ∈ behind, ∀ w, p.2 = .at w → v.toNat ≤ w.toNat)) ∧
    (∀ before r mid rest, st.records[l] = before ++ r :: (mid ++ rest) → (∀ y ∈ before, y.tick ≠ v) → r.tick = v →
      (∀ y ∈ mid, y.kind = .delta) → (∀ y, rest.head? = some y → y.kind = .key) →
      stepPoint st l v = match rest with | [] => .pending | y :: _ => .at y.tick)) ∧
  (∀ (d : Directive) (s u : State) (named tags : List Nat), reaches .mkin d s u →
    ((d.words.drop 5).take (wordAt d.words 0)).map (fun w => w.toNat) = named →
    (d.words.drop (5 + wordAt d.words 0)).map (fun w => w.toNat) = tags →
    ((∃ m ∈ named, 5 < m) ∨ ¬named.Nodup ∨ 1500 < wordAt d.words 2 ∨ (∃ k ∈ tags, k < 1 ∨ 64 < k) ∨ ¬tags.Nodup ∨
      (wordAt d.words 3 = 1 ∧ later (d.words.getD 4 0) u.ref.tick = true) ∨ 1 < wordAt d.words 3) →
    exec (.mkin d) s = .next (refused .mkin d .range u))

/-- R138: a new record and the OPEN clips. A clip wants the record when its lane list holds the lane with an in-point,
or as PENDING and the record is KEY; a record that no clip wants changes nothing, and the wanting clips are weighed in
log order. A pin request that is granted gives the clip the record, and its lane the in-point when it was PENDING, with
the in timecode where there was none. One that is refused closes the clip at the ceiling: CLOSED without send-on-close,
its out tick that of the lane's newest record before, or the new tick less one for a PENDING lane, its pins beyond the
out tick released. R133: a clip whose record changes is marked. R146: a clip joins the transfer queue behind every clip
of its own priority or higher. (Where the model settles what the rules leave open: log entries 21, 22 and 23.) -/
def Obligations.NewRecordsReachOpenClips : Prop :=
  (∀ (c : Clip) (l : Lane) (kind : FrameKind), wants c l kind = true ↔ c.state = .opened ∧ ∃ q ∈ c.lanes, q.1 = l ∧
    ((∃ t, q.2 = .at t) ∨ (q.2 = .pending ∧ kind = .key))) ∧
  (∀ (s : State) (l : Lane) (r : FrameRecord) (wanting : List Clip), findRecord s.store l r.tick = some r →
    wanting = s.clips.clips.filter (fun c => wants c l r.kind) →
    (wanting = [] → newRecord l r.tick s = s) ∧
    (∀ c, wanting = [c] → newRecord l r.tick s = weighRecord l r c.id s) ∧
    (∀ c d, wanting = [c, d] → newRecord l r.tick s = weighRecord l r d.id (weighRecord l r c.id s))) ∧
  (∀ (s : State) (l : Lane) (r : FrameRecord) (c : Clip) (pends : Bool), findClip s c.id = some c →
    findRecord s.store l r.tick = some r → (pends = true ↔ (l, InPoint.pending) ∈ c.lanes) →
    (∀ st, pinRequest s.store [(l, r.tick)] = some st → ∃ t : State, weighRecord l r c.id s = t ∧ t.store = st ∧
      findClip t c.id = some { c with
        pins := c.pins ++ [(l, r.tick)]
        lanes := if pends = true then c.lanes.map (fun q => if q.1 = l then (l, .at r.tick) else q) else c.lanes
        inTc := if pends = true ∧ c.inTc = none then some r.timecode else c.inTc } ∧
      (∀ i, i ≠ c.id → findClip t i = findClip s i) ∧ (pends = false → t.clips.dirty = s.clips.dirty) ∧
      (pends = true → s.clips.dirty.length < 256 → c.id ∈ t.clips.dirty) ∧
      marked (if pends = true then [c.id] else []) s t ∧
      t.clips.queue = s.clips.queue ∧ t.engines = s.engines ∧ t.handler = s.handler ∧ t.lanes = s.lanes) ∧
    (pinRequest s.store [(l, r.tick)] = none → c.state = .opened → c.sendOnClose = false → s.clips.queue = [] →
      ∃ (t : State) (out : Word), weighRecord l r c.id s = t ∧
      (pends = true → out = r.tick - 1) ∧
      (∀ older y, pends = false → s.store.records[l] = older ++ [y, r] → y.tick ≠ r.tick → out = y.tick) ∧
      findClip t c.id = some { c with
        state := .closed, outTick := some out, ceilClosed := true
        lanes := c.lanes.map (fun q => if q.2 = .pending then (q.1, .none) else q)
        pins := c.pins.filter (fun q => !later q.2 out) } ∧
      t.store = releaseRequest s.store (c.pins.filter (fun q => later q.2 out)) ∧
      (.ceilingClose, l.val) ∈ t.handler.flags ∧ (s.clips.dirty.length < 256 → c.id ∈ t.clips.dirty) ∧
      marked [c.id] s t ∧
      (∀ i, i ≠ c.id → findClip t i = findClip s i) ∧ t.engines = s.engines ∧ t.lanes = s.lanes) ∧
    (pinRequest s.store [(l, r.tick)] = none → c.state = .opened → c.sendOnClose = true → s.clips.queue = [] →
      (∀ e : EngineNo, s.engines[e].isSome = true) → ∃ (t : State) (k : Clip) (out : Word),
      weighRecord l r c.id s = t ∧ (pends = true → out = r.tick - 1) ∧
      (∀ older y, pends = false → s.store.records[l] = older ++ [y, r] → y.tick ≠ r.tick → out = y.tick) ∧
      findClip t c.id = some k ∧ k.state = .queued ∧ k.ceilClosed = true ∧ k.outTick = some out ∧
      k.pins = c.pins.filter (fun q => !later q.2 out) ∧ t.clips.queue = [c.id] ∧
      t.store = releaseRequest s.store (c.pins.filter (fun q => later q.2 out)) ∧ marked [c.id] s t ∧
      (.ceilingClose, l.val) ∈ t.handler.flags)) ∧
  (∀ (s : State) (id prio : Nat), ∃ before behind : List Nat, s.clips.queue = before ++ behind ∧
    joinQueue s id prio = before ++ id :: behind ∧
    (∀ i ∈ before, ∀ c, findClip s i = some c → prio ≤ c.priority) ∧
    (∀ i c, behind.head? = some i → findClip s i = some c → c.priority < prio))

/-- R146 to R149: the transfer engines. An idle engine takes the front clip, engine 0 first. The clip is SENDING, and
the engine's cursor at the first record of the walk: the clip's records by tick and, in one tick, by lane list order,
in KEYS mode the KEY records alone; a clip without any is done at once. When the last piece of a record is taken, the
frame is counted and the cursor goes to the next record; after the last record the clip is SENT, TRANSFER_DONE is
latched, and, unless it is kept, its pins are released. R143: DISC of a SENDING clip sets its engine idle and releases
its pins. R141: SEND of a CLOSED clip that finds engine 0 idle. R133: the clip is marked when an engine takes it, when
it is SENT and when it is discarded, and not when a frame of it is counted. (Where the model settles what the rules
leave open: log entries 19, 21, 22 and 39.) -/
def Obligations.EnginesSendClips : Prop :=
  (∀ (s : State) (id : Nat), s.clips.queue = [id] →
    (s.engines[(0 : Fin 2)] = none → serveEngines s = engineTake 0 id s) ∧
    (s.engines[(0 : Fin 2)].isSome = true → s.engines[(1 : Fin 2)] = none → serveEngines s = engineTake 1 id s) ∧
    (s.engines[(0 : Fin 2)].isSome = true → s.engines[(1 : Fin 2)].isSome = true → serveEngines s = s)) ∧
  (∀ (s : State) (c : Clip) (keys : Bool),
    (keys = false → (walkOf s c keys).Perm c.pins) ∧
    (keys = true → (walkOf s c keys).Perm (c.pins.filter (fun q => match findRecord s.store q.1 q.2 with
      | some r => decide (r.kind = .key)
      | none => false))) ∧
    ((∀ q ∈ c.pins, q.2.toNat < 2 ^ 31) → (walkOf s c keys).Pairwise (fun a b => a.2.toNat < b.2.toNat ∨
      (a.2 = b.2 ∧ (c.lanes.map Prod.fst).idxOf a.1 ≤ (c.lanes.map Prod.fst).idxOf b.1)))) ∧
  (∀ (s : State) (e : EngineNo) (c : Clip) (rest : List Nat), s.clips.queue = c.id :: rest →
    findClip s c.id = some c → s.engines[e] = none → ∃ t : State, engineTake e c.id s = t ∧ t.clips.queue = rest ∧
    (∀ f, f ≠ e → t.engines[f] = s.engines[f]) ∧ (∀ i, i ≠ c.id → findClip t i = findClip s i) ∧
    (∀ q qs, walkOf s c c.keys = q :: qs →
      t.engines[e] = some ⟨c.id, c.keys, some ⟨q.1, q.2, 0, 0⟩, c.framesTotal⟩ ∧
      findClip t c.id = some { c with state := .sending, engine := some e, framesSent := 0 } ∧ t.store = s.store ∧
      t.handler = s.handler) ∧ marked [c.id] s t ∧
    (walkOf s c c.keys = [] → t.engines[e] = none ∧ (.transferDone, e.val) ∈ t.handler.flags ∧ ∃ k,
      findClip t c.id = some k ∧ k.state = .sent ∧ k.engine = none ∧ k.framesSent = 0)) ∧
  (∀ (s : State) (e : EngineNo) (x : Transfer) (c : ClipCursor) (r : FrameRecord) (y : SliceEntry) (k : Clip),
    s.engines[e] = some x → engineOffer s e = some (c, r, y) → findClip s x.clip = some k →
    (∀ slice piece, nextPiece r y c.slice c.piece = some (slice, piece) → engineAdvance e s = s.withEngines
      (s.engines.set e (some { x with cursor := some { c with slice := slice, piece := piece } }))) ∧
    (nextPiece r y c.slice c.piece = none → k.pins.Nodup → ∃ t : State, engineAdvance e s = t ∧
      (∀ before q qs, walkOf s k x.keys = before ++ (c.lane, c.tick) :: q :: qs →
        t.engines = s.engines.set e
          (some { x with cursor := some ⟨q.1, q.2, 0, 0⟩, remaining := x.remaining - 1 }) ∧
        findClip t x.clip = some { k with framesSent := k.framesSent + 1 } ∧ t.store = s.store ∧ marked [] s t ∧
        t.handler = s.handler) ∧
      (∀ before, walkOf s k x.keys = before ++ [(c.lane, c.tick)] → s.clips.queue = [] →
        t.engines = s.engines.set e none ∧ (.transferDone, e.val) ∈ t.handler.flags ∧
        findClip t x.clip = some { k with
          state := .sent, engine := none, framesSent := k.framesSent + 1
          pins := if k.kept = true then k.pins else [] } ∧
        marked [x.clip] s t ∧ t.store = (if k.kept = true then s.store else releaseRequest s.store k.pins)))) ∧
  (∀ (r : FrameRecord) (y : SliceEntry) (slice piece : Nat),
    (piece + 1 < pieceCount y → nextPiece r y slice piece = some (slice, piece + 1)) ∧
    (pieceCount y ≤ piece + 1 → slice + 1 < r.n → nextPiece r y slice piece = some (slice + 1, 0)) ∧
    (pieceCount y ≤ piece + 1 → r.n ≤ slice + 1 → nextPiece r y slice piece = none)) ∧
  (∀ (d : Directive) (s u : State) (c : Clip), u.clips.queue = [] → findClip u (wordAt d.words 0) = some c →
    (∀ e, reaches .disc d s u → c.state = .sending → c.engine = some e → ∃ t,
      exec (.disc d) s = .next (settled .disc (answered .disc d .success .empty t)) ∧ findClip t c.id = none ∧
      t.engines = u.engines.set e none ∧ t.store = releaseRequest u.store c.pins ∧ marked [c.id] u t ∧
      (∀ i, i ≠ c.id → findClip t i = findClip u i)) ∧
    (reaches .send d s u → c.state = .closed → wordAt d.words 1 ≤ 7 → wordAt d.words 2 = 0 → c.pins ≠ [] →
      u.engines[(0 : Fin 2)] = none → ∃ t q,
      exec (.send d) s = .next (settled .send (answered .send d .success .empty t)) ∧
      findClip t c.id = some { c with
        state := .sending, priority := wordAt d.words 1, keys := false, engine := some 0, framesSent := 0
        framesTotal := c.pins.length } ∧
      t.engines = u.engines.set (0 : Fin 2) (some ⟨c.id, false, some q, c.pins.length⟩) ∧ t.clips.queue = [] ∧
      marked [c.id] u t ∧ t.store = u.store))

/-- R131, R139, R141: MKOT and SEND, while no clip waits for an engine. MKOT closes the OPEN clip named, or the newest
one: it gets its out tick, its PENDING lanes become NONE, and its pins beyond the out tick go, from its own list and,
in one release request, from the store (R68); with send-on-close, and both engines at work, it is queued. SEND of a
CLOSED clip, or of a SENT one that is kept, with both engines at work queues it; SEND of an OPEN one asks for its
sending when it closes. R133: the clip is marked, unless such a SEND changes nothing of it. A clip that is not in the
log is refused NOT_FOUND. (Where the model settles what the rules leave open: log entries 15, 19, 21, 22, 39 and 85;
the list of a clip's pins stands for its records, entry 21.) -/
def Obligations.ClipsAreClosedAndSent : Prop :=
  (∀ (d : Directive) (s u : State) (c : Clip), u.clips.queue = [] → findClip u c.id = some c →
    (reaches .mkot d s u → ∀ tick : Word,
      ((d.words.length = 1 ∧ tick = u.ref.tick) ∨
        (d.words.length = 2 ∧ tick = d.words.getD 1 0 ∧ later tick u.ref.tick = false)) →
      ((wordAt d.words 0 = 0 ∧ newestOpen u = some c) ∨ (wordAt d.words 0 = c.id ∧ c.id ≠ 0)) →
      (c.state ≠ .opened → exec (.mkot d) s = .next (refused .mkot d .state u)) ∧
      (c.state = .opened → earlier tick c.inTick = true → exec (.mkot d) s = .next (refused .mkot d .range u)) ∧
      (c.state = .opened → earlier tick c.inTick = false → c.sendOnClose = false → ∃ t,
        exec (.mkot d) s = .next (settled .mkot
          (answered .mkot d .success (.words [BitVec.ofNat 32 c.id, tick]) t)) ∧
        findClip t c.id = some { c with
          state := .closed, outTick := some tick
          lanes := c.lanes.map (fun p => if p.2 = .pending then (p.1, .none) else p)
          pins := c.pins.filter (fun p => !later p.2 tick) } ∧
        t.store = releaseRequest u.store (c.pins.filter (fun p => later p.2 tick)) ∧ marked [c.id] u t ∧
        t.lanes = u.lanes ∧ t.mixer = u.mixer ∧ t.paths = u.paths ∧ t.engines = u.engines ∧ t.ref = u.ref) ∧
      (c.state = .opened → earlier tick c.inTick = false → c.sendOnClose = true →
        (∀ e : EngineNo, u.engines[e].isSome = true) → ∃ t c',
        exec (.mkot d) s = .next (settled .mkot
          (answered .mkot d .success (.words [BitVec.ofNat 32 c.id, tick]) t)) ∧
        findClip t c.id = some c' ∧ c'.state = .queued ∧ c'.outTick = some tick ∧ c'.priority = c.priority ∧
        c'.pins = c.pins.filter (fun p => !later p.2 tick) ∧ t.clips.queue = [c.id] ∧ t.engines = u.engines ∧
        t.store = releaseRequest u.store (c.pins.filter (fun p => later p.2 tick)) ∧ marked [c.id] u t ∧
        t.lanes = u.lanes ∧ t.mixer = u.mixer ∧ t.paths = u.paths ∧ t.ref = u.ref)) ∧
    (reaches .send d s u → wordAt d.words 0 = c.id → wordAt d.words 1 ≤ 7 → ∀ keys : Bool,
      wordAt d.words 2 = keys.toNat →
      ((c.state = .closed ∨ (c.state = .sent ∧ c.kept = true)) → (∀ e : EngineNo, u.engines[e].isSome = true) →
        ∃ t c',
        exec (.send d) s = .next (settled .send (answered .send d .success .empty t)) ∧
        findClip t c.id = some c' ∧ c'.state = .queued ∧ c'.priority = wordAt d.words 1 ∧ c'.keys = keys ∧
        c'.pins = c.pins ∧ t.clips.queue = [c.id] ∧ t.engines = u.engines ∧ t.store = u.store ∧ marked [c.id] u t ∧
        (keys = false → c'.framesTotal = c.pins.length) ∧ (c.state = .sent → c'.framesSent = 0)) ∧
      (c.state = .opened → ∃ t, exec (.send d) s = .next (settled .send (answered .send d .success .empty t)) ∧
        findClip t c.id = some { c with sendOnClose := true, priority := wordAt d.words 1, keys := keys } ∧
        t.clips.queue = [] ∧ t.engines = u.engines ∧ t.store = u.store ∧
        marked (if c.sendOnClose = true ∧ c.priority = wordAt d.words 1 ∧ c.keys = keys then [] else [c.id]) u t) ∧
      ((c.state = .queued ∨ c.state = .sending ∨ c.state = .orphaned ∨ (c.state = .sent ∧ c.kept = false)) →
        exec (.send d) s = .next (refused .send d .state u)))) ∧
  (∀ (d : Directive) (s u : State),
    (reaches .mkot d s u →
      ((d.words.length = 2 ∧ later (d.words.getD 1 0) u.ref.tick = true) →
        exec (.mkot d) s = .next (refused .mkot d .range u)) ∧
      (d.words.length = 1 → wordAt d.words 0 ≠ 0 → findClip u (wordAt d.words 0) = none →
        exec (.mkot d) s = .next (refused .mkot d .notFound u)) ∧
      (d.words.length = 1 → wordAt d.words 0 = 0 → (∀ c ∈ u.clips.clips, c.state ≠ .opened) →
        exec (.mkot d) s = .next (refused .mkot d .state u))) ∧
    (reaches .send d s u →
      ((7 < wordAt d.words 1 ∨ 1 < wordAt d.words 2) → exec (.send d) s = .next (refused .send d .range u)) ∧
      (wordAt d.words 1 ≤ 7 → wordAt d.words 2 ≤ 1 → findClip u (wordAt d.words 0) = none →
        exec (.send d) s = .next (refused .send d .notFound u))))

/-- R140, R142 to R145: TMPL loads a template, or is refused RANGE; KEEP sets the kept flag; DISC takes a clip out of
the log and out of the transfer queue, and releases its pins; TAGD loads a tag and puts its code on the stale-tag
list; TAGC replaces a clip's tags, or is refused RANGE. KEEP, DISC and TAGC of an id that is not in the log are
refused NOT_FOUND. R133: KEEP marks a clip whose flag it sets, DISC and TAGC mark theirs. Marking leaves an id that is
on a list in its place, puts another at the back, and at 256 ids sets the list's overflow flag instead; a list that
becomes empty with the flag set is given every clip of the log, in log order, and the flag is cleared. (Where the model
settles what the rules leave open: log entries 19, 22, 38, 39 and 85.) -/
def Obligations.ClipDirectivesAct : Prop :=
  (∀ (d : Directive) (s u : State),
    (reaches .tmpl d s u → ∀ (k : Fin 4) (lanes : List Lane) (tags : List Nat) (soc keys : Bool),
      wordAt d.words 0 = k.val → (d.words.drop 7).map (fun w => w.toNat) = lanes.map Fin.val ++ tags →
      lanes.length = wordAt d.words 1 → lanes.Nodup → tags.Nodup → (∀ x ∈ tags, 1 ≤ x ∧ x ≤ 64) →
      wordAt d.words 3 ≤ 1500 → wordAt d.words 4 = soc.toNat → wordAt d.words 5 ≤ 7 → wordAt d.words 6 = keys.toNat →
      exec (.tmpl d) s = .next (answered .tmpl d .success .empty (u.withClips { u.clips with
        templates := u.clips.templates.set k ⟨lanes, wordAt d.words 3, tags, soc, wordAt d.words 5, keys⟩ }))) ∧
    (reaches .keep d s u → ∀ c, findClip u (wordAt d.words 0) = some c →
      ((c.state = .orphaned ∨ (c.state = .sent ∧ c.kept = false)) →
        exec (.keep d) s = .next (refused .keep d .state u)) ∧
      (c.state ≠ .orphaned → (c.state ≠ .sent ∨ c.kept = true) → ∃ t,
        exec (.keep d) s = .next (settled .keep (answered .keep d .success .empty t)) ∧
        findClip t c.id = some { c with kept := true } ∧
        marked (if c.kept = true then [] else [c.id]) u t ∧
        (∀ i, i ≠ c.id → findClip t i = findClip u i) ∧ t.store = u.store ∧ t.engines = u.engines)) ∧
    (reaches .disc d s u → ∀ c, findClip u (wordAt d.words 0) = some c → c.state ≠ .sending → ∃ t,
      exec (.disc d) s = .next (settled .disc (answered .disc d .success .empty t)) ∧ findClip t c.id = none ∧
      c.id ∉ t.clips.queue ∧ (∀ i, i ≠ c.id → findClip t i = findClip u i) ∧ t.engines = u.engines ∧
      marked [c.id] u t ∧
      ((c.state ≠ .sent ∨ c.kept = true) → t.store = releaseRequest u.store c.pins) ∧
      (c.pins = [] → t.store = u.store)) ∧
    (reaches .tagd d s u → ∀ i : Fin 64, wordAt d.words 0 = i.val + 1 → ∃ text : Option (List Byte),
      exec (.tagd d) s = .next (answered .tagd d .success .empty
        ((u.withClips { u.clips with tags := u.clips.tags.set i text }).withAsm { u.asm with
          staleTags := if i.val + 1 ∈ u.asm.staleTags then u.asm.staleTags
            else u.asm.staleTags ++ [i.val + 1] })) ∧
      (wordAt d.words 1 = 0 → text = none) ∧
      (1 ≤ wordAt d.words 1 → ∃ l, text = some l ∧ l.length = wordAt d.words 1 ∧
        ∀ j, j < wordAt d.words 1 →
          l[j]? = some (BitVec.ofNat 8 (wordAt d.words (2 + j / 4) / 256 ^ (3 - j % 4))))) ∧
    (reaches .tagd d s u → (wordAt d.words 0 = 0 ∨ 64 < wordAt d.words 0) →
      exec (.tagd d) s = .next (refused .tagd d .range u)) ∧
    (reaches .tagc d s u → ∀ c tags, findClip u (wordAt d.words 0) = some c →
      (d.words.drop 2).map (fun w => w.toNat) = tags → tags.Nodup → (∀ k ∈ tags, 1 ≤ k ∧ k ≤ 64) →
      ((∀ k ∈ tags, tagDefined u k = true) → ∃ t,
        exec (.tagc d) s = .next (settled .tagc (answered .tagc d .success .empty t)) ∧
        findClip t c.id = some { c with tags := tags } ∧ (∀ i, i ≠ c.id → findClip t i = findClip u i) ∧
        marked [c.id] u t ∧ t.store = u.store ∧ t.engines = u.engines) ∧
      ((∃ k ∈ tags, tagDefined u k = false) → exec (.tagc d) s = .next (refused .tagc d .notFound u)))) ∧
  (∀ (d : Directive) (s u : State),
    (reaches .tmpl d s u → ∀ named tags : List Nat,
      ((d.words.drop 7).take (wordAt d.words 1)).map (fun w => w.toNat) = named →
      (d.words.drop (7 + wordAt d.words 1)).map (fun w => w.toNat) = tags →
      (3 < wordAt d.words 0 ∨ (∃ m ∈ named, 5 < m) ∨ ¬named.Nodup ∨ (∃ k ∈ tags, k < 1 ∨ 64 < k) ∨ ¬tags.Nodup ∨
        1500 < wordAt d.words 3 ∨ 1 < wordAt d.words 4 ∨ 7 < wordAt d.words 5 ∨ 1 < wordAt d.words 6) →
      exec (.tmpl d) s = .next (refused .tmpl d .range u)) ∧
    (findClip u (wordAt d.words 0) = none →
      (reaches .keep d s u → exec (.keep d) s = .next (refused .keep d .notFound u)) ∧
      (reaches .disc d s u → exec (.disc d) s = .next (refused .disc d .notFound u)) ∧
      (reaches .tagc d s u → exec (.tagc d) s = .next (refused .tagc d .notFound u))) ∧
    (reaches .tagc d s u → ∀ c tags, findClip u (wordAt d.words 0) = some c →
      (d.words.drop 2).map (fun w => w.toNat) = tags → ((∃ k ∈ tags, k < 1 ∨ 64 < k) ∨ ¬tags.Nodup) →
      exec (.tagc d) s = .next (refused .tagc d .range u))) ∧
  (∀ (s : State) (id : Nat),
    (id ∈ s.clips.dirty → markDirty id s.clips = s.clips) ∧
    (id ∉ s.clips.dirty → s.clips.dirty.length < 256 →
      markDirty id s.clips = { s.clips with dirty := s.clips.dirty ++ [id] }) ∧
    (id ∉ s.clips.dirty → 256 ≤ s.clips.dirty.length →
      markDirty id s.clips = { s.clips with dirtyOverflow := true }) ∧
    (id ∈ s.asm.staleLabels → markStale id s = s) ∧
    (id ∉ s.asm.staleLabels → s.asm.staleLabels.length < 256 →
      markStale id s = s.withAsm { s.asm with staleLabels := s.asm.staleLabels ++ [id] }) ∧
    (id ∉ s.asm.staleLabels → 256 ≤ s.asm.staleLabels.length →
      markStale id s = s.withClips { s.clips with staleOverflow := true }) ∧
    mark id s = markStale id (s.withClips (markDirty id s.clips)) ∧
    ((s.clips.dirty ≠ [] ∨ s.clips.dirtyOverflow = false) → dirtyEmptied s.clips = s.clips) ∧
    ((s.asm.staleLabels ≠ [] ∨ s.clips.staleOverflow = false) → staleEmptied s = s) ∧
    ((s.clips.clips.map Clip.id).Nodup → s.clips.clips.length ≤ 256 →
      (s.clips.dirty = [] → s.clips.dirtyOverflow = true → dirtyEmptied s.clips
        = { s.clips with dirty := s.clips.clips.map Clip.id, dirtyOverflow := false }) ∧
      (s.asm.staleLabels = [] → s.clips.staleOverflow = true → staleEmptied s
        = (s.withAsm { s.asm with staleLabels := s.clips.clips.map Clip.id }).withClips
          { s.clips with staleOverflow := false })))

/-! ## The label store -/

/-- R151 to R154, R158: a record write ends: its slot reads as the record, every other byte as before, and the directory
gains its entry. The head goes on to the next slot; after slot 255 the sector is FULL, at the back of the fill order,
and there is no head. The clip takes the record's write sequence, but not from a copy or a DISCARDED record. An erase
ends: the sector reads 0xFF throughout, every other byte as before, the directory loses the sector's entries, and the
sector is ERASED, or, where no sector was HEAD, may have become HEAD at once. With no write, and with no erase running,
neither does anything. R153, R183: a record write in progress is finished at a restart, so that its slot reads as the
record; the reset line and the loss of power cut it short, so that the slot, erased before, holds no valid record. No
byte outside the slot changes. (Where the model settles what the rules leave open: log entries 16, 19, 25, 26, 91 and
92.) -/
def Obligations.WritesAndErasesEnd : Prop :=
  (∀ s : State, s.power = true → Memory.wf labelDefault s.labels.mem = true →
    (∀ w, s.labels.writing = some w → w.bytes.length = 128 → ∃ t, exec .recordWriteEnd s = .next t ∧
      slotBytes t.labels.mem w.sector w.slot = w.bytes ∧
      sameOutsideSlot s.labels.mem t.labels.mem w.sector w.slot ∧
      t.labels.directory = s.labels.directory ++ [⟨w.id, w.sector, w.slot, w.seq, w.discarded⟩] ∧
      (w.slot < 255 → t.labels.head = some (w.sector, w.slot + 1)) ∧
      (∀ i : Fin 32, w.slot = 255 → w.sector = i.val → (∀ v n, s.labels.compact ≠ .copying v n) →
        t.labels.sectors[i] = .full ∧ t.labels.fillOrder = s.labels.fillOrder ++ [w.sector] ∧
        (s.clips.dirty = [] → t.labels.head = none)) ∧
      ((w.copy = true ∨ w.discarded = true) → t.clips.clips = s.clips.clips) ∧
      (w.copy = false → w.discarded = false →
        t.clips.clips = s.clips.clips.map (fun c => if c.id = w.id then { c with wseq := some w.seq } else c)) ∧
      t.lanes = s.lanes ∧ t.store = s.store ∧ t.mixer = s.mixer ∧ t.paths = s.paths ∧ t.engines = s.engines) ∧
    (s.labels.writing = none → exec .recordWriteEnd s = .next s) ∧
    (∀ k done since rest, s.labels.eraseList = ⟨k, done, some since⟩ :: rest → ∃ t, exec .eraseEnd s = .next t ∧
      (∀ a, slotAddress k 0 ≤ a → a < slotAddress (k + 1) 0 → Memory.read labelDefault t.labels.mem a = 0xFF) ∧
      (∀ a, a < slotAddress k 0 ∨ slotAddress (k + 1) 0 ≤ a →
        Memory.read labelDefault t.labels.mem a = Memory.read labelDefault s.labels.mem a) ∧
      t.labels.directory = s.labels.directory.filter (fun e => decide (e.sector ≠ k)) ∧
      (∀ i : Fin 32, k = i.val → s.labels.ready = true → k ∉ s.labels.fillOrder →
        (∀ n, s.labels.compact ≠ .copying k n) →
        (s.labels.head.isSome = true → t.labels.sectors[i] = .erased) ∧
        (s.labels.head = none → t.labels.sectors[i] = .erased ∨
          t.labels.sectors[i] = .head ∧ t.labels.head = some (k, 0))) ∧
      t.lanes = s.lanes ∧ t.store = s.store ∧ t.mixer = s.mixer ∧ t.paths = s.paths ∧ t.engines = s.engines) ∧
    ((∀ e rest, s.labels.eraseList = e :: rest → e.since = none) → exec .eraseEnd s = .next s)) ∧
  (∀ (s : State) (w : RecordWrite), s.power = true → s.labels.writing = some w → noEraseBegun s.labels = true →
    Memory.wf labelDefault s.labels.mem = true → w.bytes.length = 128 →
    slotBytes s.labels.mem w.sector w.slot = List.replicate 128 labelDefault →
    (restartDue s = true → ∃ t, exec .restart s = .next t ∧ slotBytes t.labels.mem w.sector w.slot = w.bytes ∧
      sameOutsideSlot s.labels.mem t.labels.mem w.sector w.slot ∧ t.labels.writing = none) ∧
    (∀ c, c = .resetLine ∨ c = .powerLoss → ∃ t, exec c s = .next t ∧
      recordValid (slotBytes t.labels.mem w.sector w.slot) = false ∧
      sameOutsideSlot s.labels.mem t.labels.mem w.sector w.slot ∧ t.labels.writing = none))

/-- R153 to R155: the idle writer at a store-dirty entry, with no compaction at its copies: with room it takes the next
write sequence and begins the record of the clip, at the head, or in the lowest-numbered ERASED sector, which becomes
the head, for two milliseconds, a running erase stopped; without room it waits, counted and reported. R133: where it
takes the last entry while the list's overflow flag is set, the list is given every clip of the log, in log order, and
the flag is cleared. R156, R157: a compaction begins with the oldest FULL sector when at most one sector is ERASED; the
next record to be copied is written as it stands, under its own sequence, and may take the last ERASED sector; with none
left the victim is to be erased. A record is to be copied when it is its id's newest, has no copy outside the victim,
and is the log's own record of the clip, or is DISCARDED with an older record outside. Without room for a copy the
victim is given up: the oldest FULL sector with nothing to copy is erased, or, with none, the compaction is IDLE,
counted and reported. (Where the model settles what the rules leave open: log entries 19, 25, 78 and 92.) -/
def Obligations.LabelWriterAndCompaction : Prop :=
  (∀ (s : State) (id : Nat) (rest : List Nat) (popped : ClipLog), s.labels.ready = true → s.labels.writing = none →
    s.labels.waiting = false → (∀ v n, s.labels.compact ≠ .copying v n) → s.clips.dirty = id :: rest →
    ((rest ≠ [] ∨ s.clips.dirtyOverflow = false) → popped = { s.clips with dirty := rest }) →
    (rest = [] → s.clips.dirtyOverflow = true → (s.clips.clips.map Clip.id).Nodup ∧ s.clips.clips.length ≤ 256 ∧
      popped = { s.clips with dirty := s.clips.clips.map Clip.id, dirtyOverflow := false }) →
    (∀ k n c, s.labels.head = some (k, n) → findClip s id = some c → ∃ t : State, kick s = t ∧
      t.labels.writing = some ⟨k, n, id, s.labels.nextSeq, false, false, clipRecord c (some s.labels.nextSeq),
        s.ref.clock + 96⟩ ∧
      t.labels.nextSeq = s.labels.nextSeq + 1 ∧ t.clips = popped ∧
      t.labels.head = s.labels.head ∧ t.labels.mem = s.labels.mem ∧ t.labels.directory = s.labels.directory ∧
      t.labels.eraseList = s.labels.eraseList.map (fun e => match e.since with
        | some b => { e with done := e.done + (s.ref.clock - b), since := none }
        | none => e) ∧
      t.handler = s.handler ∧ t.store = s.store ∧ t.asm = s.asm ∧ t.engines = s.engines) ∧
    (∀ k n, s.labels.head = some (k, n) → findClip s id = none → (∃ e ∈ s.labels.directory, e.id = id) → ∃ t : State,
      kick s = t ∧ t.labels.writing = some ⟨k, n, id, s.labels.nextSeq, true, false,
        discardedRecord id (some s.labels.nextSeq), s.ref.clock + 96⟩ ∧
      t.labels.nextSeq = s.labels.nextSeq + 1 ∧ t.clips = popped) ∧
    (findClip s id = none → s.labels.head.isSome = true → (∀ e ∈ s.labels.directory, e.id ≠ id) → rest = [] →
      (popped.dirty = [] → ∃ t : State, kick s = t ∧ t.clips = popped ∧ t.labels.writing = none) ∧
      (∀ c cs k n, s.clips.dirtyOverflow = true → s.clips.clips = c :: cs → s.labels.head = some (k, n) →
        ∃ t : State, kick s = t ∧ t.labels.writing = some ⟨k, n, c.id, s.labels.nextSeq, false, false,
          clipRecord c (some s.labels.nextSeq), s.ref.clock + 96⟩ ∧
        t.clips = { s.clips with dirty := cs.map Clip.id, dirtyOverflow := false })) ∧
    (s.labels.head = none → (s.labels.sectors.toList.filter (fun x => decide (x = .erased))).length ≤ 1 → ∃ t : State,
      kick s = t ∧ t.labels.waiting = true ∧ t.labels.writing = none ∧ t.clips = s.clips ∧
      t.labels.storeFull = s.labels.storeFull + 1 ∧ (.labelStoreFull, 0) ∈ t.handler.flags ∧
      t.labels.mem = s.labels.mem ∧ t.labels.directory = s.labels.directory)) ∧
  (∀ (g : LabelStore) (i : Fin 32), g.head = none → g.sectors[i] = .erased →
    (∀ j : Fin 32, j < i → g.sectors[j] ≠ .erased) →
    openHead g = lookCompaction { g with sectors := g.sectors.set i .head, head := some (i.val, 0) }) ∧
  (∀ (g : LabelStore) (k : Nat) (rest : List Nat), g.fillOrder = k :: rest → g.compact = .idle → g.ready = true →
    ((g.sectors.toList.filter (fun x => decide (x = .erased))).length ≤ 1 →
      lookCompaction g = { g with compact := .copying k 0 }) ∧
    (2 ≤ (g.sectors.toList.filter (fun x => decide (x = .erased))).length → lookCompaction g = g)) ∧
  (∀ (s : State) (v n : Nat), s.labels.ready = true → s.labels.writing = none → s.labels.compact = .copying v n →
    (∀ e k m, nextCopy s v n = some e → s.labels.head = some (k, m) → ∃ t : State, kick s = t ∧
      t.labels.writing = some ⟨k, m, e.id, e.seq, e.discarded, true, slotBytes s.labels.mem e.sector e.slot,
        s.ref.clock + 96⟩ ∧
      t.labels.compact = .copying v e.slot ∧ t.labels.nextSeq = s.labels.nextSeq ∧ t.clips = s.clips ∧
      t.labels.mem = s.labels.mem ∧ e.sector = v ∧ n ≤ e.slot ∧ e ∈ s.labels.directory ∧
      ∀ y ∈ s.labels.directory, y.sector = v → n ≤ y.slot → toCopy s v y = true → e.slot ≤ y.slot) ∧
    (∀ i : Fin 32, v = i.val → nextCopy s v n = none → s.clips.dirty = [] → ∃ t : State, kick s = t ∧
      t.labels.compact = .erasing v ∧ t.labels.sectors = s.labels.sectors.set i .erasing ∧
      t.labels.fillOrder = s.labels.fillOrder.filter (fun k => decide (k ≠ v)) ∧
      t.labels.eraseList.map EraseEntry.sector = s.labels.eraseList.map EraseEntry.sector ++ [v] ∧
      t.labels.writing = none ∧ t.labels.mem = s.labels.mem ∧ t.labels.directory = s.labels.directory)) ∧
  (∀ (s : State) (v n : Nat) (e : DirEntry), e ∈ s.labels.directory → (∀ y ∈ s.labels.directory, y.seq.toNat < 2 ^ 31) →
    (toCopy s v e = true ↔ (∀ y ∈ s.labels.directory, y.id = e.id → y.seq.toNat ≤ e.seq.toNat) ∧
      (∀ y ∈ s.labels.directory, y.id = e.id → y.seq = e.seq → y.sector = v) ∧
      ((e.discarded = false ∧ ∃ c, findClip s e.id = some c ∧ c.wseq = some e.seq) ∨
        (e.discarded = true ∧
          ∃ y ∈ s.labels.directory, y.id = e.id ∧ y.sector ≠ v ∧ y.seq.toNat < e.seq.toNat))) ∧
    (nextCopy s v n = none ↔ ∀ y ∈ s.labels.directory, y.sector = v → n ≤ y.slot → toCopy s v y = false)) ∧
  (∀ (s : State) (i : Fin 32), s.labels.ready = true → s.labels.writing = none → s.labels.head = none →
    s.labels.sectors[i] = .erased → (∀ j : Fin 32, j < i → s.labels.sectors[j] ≠ .erased) →
    (∀ id rest c popped, s.labels.waiting = false → (∀ v n, s.labels.compact ≠ .copying v n) →
      s.clips.dirty = id :: rest →
      ((rest ≠ [] ∨ s.clips.dirtyOverflow = false) → popped = { s.clips with dirty := rest }) →
      (rest = [] → s.clips.dirtyOverflow = true → (s.clips.clips.map Clip.id).Nodup ∧ s.clips.clips.length ≤ 256 ∧
        popped = { s.clips with dirty := s.clips.clips.map Clip.id, dirtyOverflow := false }) →
      2 ≤ (s.labels.sectors.toList.filter (fun x => decide (x = .erased))).length →
      findClip s id = some c → ∃ t : State, kick s = t ∧
      t.labels.writing = some ⟨i.val, 0, id, s.labels.nextSeq, false, false, clipRecord c (some s.labels.nextSeq),
        s.ref.clock + 96⟩ ∧
      t.labels.head = some (i.val, 0) ∧ t.labels.sectors = s.labels.sectors.set i .head ∧
      t.labels.nextSeq = s.labels.nextSeq + 1 ∧ t.clips = popped) ∧
    (∀ v n e, s.labels.compact = .copying v n → nextCopy s v n = some e → ∃ t : State, kick s = t ∧
      t.labels.writing = some ⟨i.val, 0, e.id, e.seq, e.discarded, true, slotBytes s.labels.mem e.sector e.slot,
        s.ref.clock + 96⟩ ∧
      t.labels.head = some (i.val, 0) ∧ t.labels.sectors = s.labels.sectors.set i .head ∧
      t.labels.compact = .copying v e.slot ∧ t.labels.nextSeq = s.labels.nextSeq ∧ t.clips = s.clips)) ∧
  (∀ (s : State) (v n : Nat) (e : DirEntry), s.labels.ready = true → s.labels.writing = none → s.labels.head = none →
    (∀ j : Fin 32, s.labels.sectors[j] ≠ .erased) → s.labels.compact = .copying v n → nextCopy s v n = some e →
    s.clips.dirty = [] →
    (∀ (before behind : List Nat) (i : Fin 32), s.labels.fillOrder = before ++ i.val :: behind →
      (∀ k ∈ before, nextCopy s k 0 ≠ none) → nextCopy s i.val 0 = none → ∃ t : State, kick s = t ∧
      t.labels.compact = .erasing i.val ∧ t.labels.sectors = s.labels.sectors.set i .erasing ∧
      t.labels.fillOrder = s.labels.fillOrder.filter (fun k => decide (k ≠ i.val)) ∧
      t.labels.eraseList.map EraseEntry.sector = s.labels.eraseList.map EraseEntry.sector ++ [i.val] ∧
      t.labels.writing = none ∧ t.handler = s.handler) ∧
    ((∀ k ∈ s.labels.fillOrder, nextCopy s k 0 ≠ none) → ∃ t : State, kick s = t ∧ t.labels.compact = .idle ∧
      t.labels.storeFull = s.labels.storeFull + 1 ∧ (.labelStoreFull, 0) ∈ t.handler.flags ∧
      t.labels.fillOrder = s.labels.fillOrder ∧ t.labels.sectors = s.labels.sectors ∧ t.labels.writing = none))

/-- R151, R152, R159 to R161: the start-up scan: the store is ready, its memory unchanged, and its directory holds
the valid records of the memory, each at its place, and no other. Over erased memory every sector is ERASED, no erase
waits, and the clip log is empty. R159, R160: a sector whose slots are all erased is ERASED, one whose slots are all
valid FULL, one of valid slots and then erased ones HEAD or FULL, and any other ERASING, on the erase list. The head
is an open sector with the latest write sequence, at its first erased slot; the fill order holds the FULL sectors by
their latest write sequence. R161: the log holds a clip of each id whose newest record is not DISCARDED, as its
record gives it, with the rebuild's changes, by write sequence, the 256 latest where there are more; the last id is
the greatest found. R162: every clip of the rebuilt log is on the stale-label list, in log order. The store-dirty
list holds, in this order, the clips that the rebuild has changed or whose record lies in a torn sector, in log
order; the discarded ids whose record lies in a torn sector and that have an older record elsewhere, ascending; and
the ids that found no place in the log, ascending; with the overflow flag when they are more than 256. (Where the
model settles what the rules leave open: log entries 47, 48 and 77.) -/
def Obligations.ScanFindsTheValidRecords : Prop :=
  (∀ s : State, s.power = true → s.labels.ready = false → Memory.wf labelDefault s.labels.mem = true → ∃ t,
    exec .startUpScan s = .next t ∧ t.labels.ready = true ∧ t.labels.mem = s.labels.mem ∧
    (∀ k n, k < 32 → n < 256 → recordValid (slotBytes s.labels.mem k n) = true →
      ∃ e ∈ t.labels.directory, e.sector = k ∧ e.slot = n ∧
        e.id = (parseRecord (slotBytes s.labels.mem k n)).id) ∧
    (∀ e ∈ t.labels.directory, e.sector < 32 ∧ e.slot < 256 ∧
      recordValid (slotBytes s.labels.mem e.sector e.slot) = true) ∧
    (s.labels.mem = [] → (∀ i : Fin 32, t.labels.sectors[i] = .erased) ∧ t.labels.eraseList = [] ∧
      t.labels.head = none ∧ t.labels.nextSeq = 0 ∧ t.clips.clips = [] ∧ t.clips.lastId = 0 ∧ t.clips.dirty = []) ∧
    t.clips.clips.length ≤ 256 ∧ t.asm.staleLabels = t.clips.clips.map Clip.id ∧
    t.lanes = s.lanes ∧ t.store = s.store ∧ t.mixer = s.mixer ∧ t.paths = s.paths ∧ t.ref = s.ref ∧
    ∃ u v : State, u.labels = scanStore s.labels ∧ u.clips = s.clips ∧ u.asm = s.asm ∧ rebuildLog u = v ∧
      (∀ i : Fin 32, (∃ n, n < 256 ∧ slotBytes s.labels.mem i.val n ≠ List.replicate 128 0xFF ∧
        recordValid (slotBytes s.labels.mem i.val n) = false) → (.labelRecordBad, i.val) ∈ u.handler.flags) ∧
      v.labels = u.labels ∧ t = kick (v.withLabels (lookCompaction { u.labels with ready := true }))) ∧
  (∀ (g h : LabelStore) (slot : Nat → Nat → List Byte) (blank : List Byte) (opened : Nat → Nat → Prop),
    Memory.wf labelDefault g.mem = true → scanStore g = h → (∀ k n, slot k n = slotBytes g.mem k n) →
    blank = List.replicate 128 0xFF →
    (∀ k m, opened k m ↔ 1 ≤ m ∧ m ≤ 255 ∧ (∀ n, n < m → recordValid (slot k n) = true) ∧
      ∀ n, m ≤ n → n < 256 → slot k n = blank) →
    (∀ i : Fin 32,
      ((∀ n, n < 256 → slot i.val n = blank) → h.sectors[i] = .erased) ∧
      ((∀ n, n < 256 → recordValid (slot i.val n) = true) → h.sectors[i] = .full) ∧
      (∀ m, opened i.val m → (h.sectors[i] = .head ∧ h.head = some (i.val, m)) ∨
        (h.sectors[i] = .full ∧ ∃ k n, h.head = some (k, n) ∧ k ≠ i.val)) ∧
      (((∃ n, n < 256 ∧ slot i.val n ≠ blank ∧ recordValid (slot i.val n) = false) ∨
        ∃ m n, m < n ∧ n < 256 ∧ slot i.val m = blank ∧ slot i.val n ≠ blank) → h.sectors[i] = .erasing)) ∧
    (∀ k m, h.head = some (k, m) → k < 32 ∧ opened k m ∧
      ((∀ e ∈ h.directory, e.seq.toNat < 2 ^ 31) → ∃ e ∈ h.directory, e.sector = k ∧
        ∀ j n, opened j n → ∀ y ∈ h.directory, y.sector = j → y.seq.toNat ≤ e.seq.toNat)) ∧
    (∀ k, k ∈ h.fillOrder ↔ ∃ i : Fin 32, i.val = k ∧ h.sectors[i] = .full) ∧ h.fillOrder.Nodup ∧
    ((∀ e ∈ h.directory, e.seq.toNat < 2 ^ 31) →
      h.fillOrder.Pairwise (fun a b => ∀ x ∈ h.directory, x.sector = a →
        ∃ y ∈ h.directory, y.sector = b ∧ x.seq.toNat ≤ y.seq.toNat) ∧
      ∀ e ∈ h.directory, (∀ y ∈ h.directory, y.seq.toNat ≤ e.seq.toNat) → h.nextSeq = e.seq + 1) ∧
    (h.directory = [] → h.nextSeq = 0) ∧
    h.eraseList = ((List.finRange 32).filter (fun i => decide (h.sectors[i] = .erasing))).map
      (fun i => ⟨i.val, 0, none⟩) ∧
    h.scanErase = h.eraseList.length ∧ h.scanFound = h.directory.length ∧ h.storeFull = 0 ∧ h.mem = g.mem) ∧
  (∀ (s t : State) (torn : Nat → Bool), rebuildLog s = t →
    torn = (fun k => s.labels.eraseList.any (fun x => decide (x.sector = k))) →
    (∀ e ∈ s.labels.directory, (recordClip s.labels e).id = e.id) →
    ∃ again tombs left : List Nat,
      t.clips.dirty = (again ++ tombs ++ left).take 256 ∧
      t.clips.dirtyOverflow = decide (256 < (again ++ tombs ++ left).length) ∧
      again.Sublist (t.clips.clips.map Clip.id) ∧ tombs.Pairwise (· < ·) ∧ left.Pairwise (· < ·) ∧
      (∀ c ∈ t.clips.clips, c.id ∈ again ↔ ∃ e, newestEntry s.labels c.id = some e ∧
        (rebuildChanged s.labels e = true ∨ torn e.sector = true)) ∧
      (∀ i, i ∈ tombs ↔ ∃ e, newestEntry s.labels i = some e ∧ e.discarded = true ∧ torn e.sector = true ∧
        ∃ x ∈ s.labels.directory, x.id = i ∧ x.sector ≠ e.sector ∧ later e.seq x.seq = true) ∧
      (∀ i, i ∈ left ↔ (∃ e, newestEntry s.labels i = some e ∧ e.discarded = false) ∧
        ∀ c ∈ t.clips.clips, c.id ≠ i) ∧
      (∀ c ∈ t.clips.clips, ∃ (e : DirEntry) (r : Clip), newestEntry s.labels c.id = some e ∧ e.discarded = false ∧
        r = recordClip s.labels e ∧ c = { r with
          state := if r.state = .sent then .sent else .orphaned
          lanes := r.lanes.map (fun q => if q.2 = .pending then (q.1, .none) else q)
          engine := none, pins := [], wseq := some e.seq, rebuilt := true }) ∧
      (left ≠ [] → t.clips.clips.length = 256) ∧
      ((∀ e ∈ s.labels.directory, e.seq.toNat < 2 ^ 31) →
        t.clips.clips.Pairwise (fun a b => ∀ x y, a.wseq = some x → b.wseq = some y → x.toNat ≤ y.toNat) ∧
        ∀ i ∈ left, ∀ e, newestEntry s.labels i = some e → ∀ c ∈ t.clips.clips, ∀ y, c.wseq = some y →
          e.seq.toNat ≤ y.toNat) ∧
      (∀ e ∈ s.labels.directory, e.id ≤ t.clips.lastId) ∧ (s.labels.directory = [] → t.clips.lastId = 0) ∧
      (s.labels.directory ≠ [] → ∃ e ∈ s.labels.directory, e.id = t.clips.lastId))

/-! ## The reference unit and the contact inputs -/

/-- R164, R169, R84, R32: a frame tick: the count rises, the next tick is one period on, the timecode is the held
one, its frames cut to the rate less one where they are not below it, or else one frame on, the frames carrying into
the seconds, these into the minutes, these into the hours, and the day into itself; a pending take is armed with the
cued bank and with the coefficients that its positions look up in the fader law as it stands, but is left where a
take is armed already; and a lane in CODING that was not yet due to stall counts an idle tick. (Where the model
settles what the rules leave open: log entries 2 and 11.) -/
def Obligations.FrameTickCounts : Prop :=
  ∀ s : State, s.power = true → ∃ t, exec .frameTick s = .next t ∧
    t.ref.tick = s.ref.tick + 1 ∧ t.ref.lastTickSample = s.ref.nextTick ∧
    t.ref.nextTick = s.ref.nextTick + (match s.ref.rate with | .fps50 => 960 | .fps60 => 800) ∧
    t.ref.heldTimecode = none ∧ t.ref.state = s.ref.state ∧ t.ref.rate = s.ref.rate ∧ t.ref.phase = s.ref.phase ∧
    (∀ x, s.ref.heldTimecode = some x → x.ff < (match s.ref.rate with | .fps50 => 50 | .fps60 => 60) →
      t.ref.timecode = x) ∧
    (s.ref.heldTimecode = none →
      s.ref.timecode.ff + 1 < (match s.ref.rate with | .fps50 => 50 | .fps60 => 60) →
      t.ref.timecode = { s.ref.timecode with ff := s.ref.timecode.ff + 1 }) ∧
    (s.ref.heldTimecode = none → s.ref.timecode = ⟨23, 59, 59, (match s.ref.rate with | .fps50 => 49 | .fps60 => 59)⟩ →
      t.ref.timecode = ⟨0, 0, 0, 0⟩) ∧
    (∀ fps : Nat, fps = (match s.ref.rate with | .fps50 => 50 | .fps60 => 60) →
      (∀ x, s.ref.heldTimecode = some x → fps ≤ x.ff → t.ref.timecode = { x with ff := fps - 1 }) ∧
      (s.ref.heldTimecode = none → s.ref.timecode.ff + 1 = fps →
        (s.ref.timecode.ss < 59 → t.ref.timecode = { s.ref.timecode with ff := 0, ss := s.ref.timecode.ss + 1 }) ∧
        (s.ref.timecode.ss = 59 → s.ref.timecode.mm < 59 →
          t.ref.timecode = { s.ref.timecode with ff := 0, ss := 0, mm := s.ref.timecode.mm + 1 }) ∧
        (s.ref.timecode.ss = 59 → s.ref.timecode.mm = 59 → s.ref.timecode.hh < 23 →
          t.ref.timecode = ⟨s.ref.timecode.hh + 1, 0, 0, 0⟩))) ∧
    t.ref.recent.head? = some (s.ref.tick + 1, s.ref.nextTick) ∧
    (s.mixer.takePending = true → s.mixer.takeArmed = none → t.mixer.takePending = false ∧ ∃ x,
      t.mixer.takeArmed = some x ∧ x.bank = s.mixer.cued ∧ x.tick = s.ref.tick + 1 ∧ x.sample = s.ref.nextTick ∧
      (∀ (i : Fin 288) (q : Fin 256), s.mixer.cued.xp[i] = q.val → x.xpCoef[i] = s.mixer.law[q]) ∧
      (∀ (b : Fin 8) (q : Fin 256), s.mixer.cued.masters[b] = q.val → x.msCoef[b] = s.mixer.law[q]) ∧
      t.mixer = { s.mixer with takePending := false, takeArmed := some x }) ∧
    (s.mixer.takeArmed.isSome = true → t.mixer = s.mixer) ∧
    (s.mixer.takePending = false → t.mixer = s.mixer) ∧
    (∀ l : Lane, s.lanes[l].idle < 2 → t.lanes[l] = if s.lanes[l].state = .coding ∨ s.lanes[l].state = .draining
      then { s.lanes[l] with idle := s.lanes[l].idle + 1 } else s.lanes[l]) ∧
    t.paths = s.paths ∧ t.labels = s.labels ∧ t.engines = s.engines

/-- R165 to R168: a pulse by the state of the unit: it starts the locking; a good interval raises the run and a bad
one sets it to 0; the third good interval locks, with the next tick at the lock sample or one period after it,
counted and reported; in LOCKED a pulse within two samples of the expected one is the last good pulse, and any other
is misplaced. (Where the model settles what the rules leave open: log entries 2, 18, 41 and 79.) -/
def Obligations.PulsesLockTheReference : Prop :=
  ∀ (s : State) (stamp : Nat) (r : ReferenceUnit), s.power = true →
    r = { s.ref with clock := max s.ref.clock stamp } →
    ((r.state = .absent ∨ r.state = .holdover) → exec (.referencePulse stamp) s = .next (s.withRef { r with
      state := .locking, originHoldover := decide (r.state = .holdover), run := 0, lastPulse := some stamp })) ∧
    (∀ last : Nat, r.state = .locking → r.lastPulse = some last → ∀ period : Nat,
      period = (match r.rate with | .fps50 => 960 | .fps60 => 800) →
      ((stamp + 2 < last + period ∨ last + period + 2 < stamp) →
        exec (.referencePulse stamp) s = .next (s.withRef { r with run := 0, lastPulse := some stamp })) ∧
      (last + period ≤ stamp + 2 → stamp ≤ last + period + 2 → r.run < 2 →
        exec (.referencePulse stamp) s = .next (s.withRef { r with run := r.run + 1, lastPulse := some stamp })) ∧
      (last + period ≤ stamp + 2 → stamp ≤ last + period + 2 → r.run = 2 → ∃ (l : Nat) (t : State),
        (r.rate = .fps60 → l = stamp) ∧
        (r.rate = .fps50 → l % 48 = 0 ∧ l ≤ stamp + 24 ∧ stamp ≤ l + 23) ∧
        exec (.referencePulse stamp) s = .next t ∧ t.ref = { r with
          state := .locked, originHoldover := true, run := 3, lastPulse := some stamp, lastGood := some stamp
          phase := (stamp : Int) - l
          nextTick := if period ≤ 2 * (l - r.lastTickSample) then l else l + period } ∧
        (.refLocked, 0) ∈ t.handler.flags ∧
        t.handler.counters[ctrReferenceLocks] = s.handler.counters[ctrReferenceLocks] + 1 ∧
        t.lanes = s.lanes ∧ t.mixer = s.mixer ∧ t.store = s.store)) ∧
    (r.state = .locked → ∀ near : Int, (near = r.lastTickSample ∨ near = r.nextTick) →
      (near + r.phase - 2 ≤ stamp → stamp ≤ near + r.phase + 2 →
        exec (.referencePulse stamp) s
          = .next (s.withRef { r with lastGood := some stamp, lastPulse := some stamp }))) ∧
    (r.state = .locked →
      ((stamp : Int) < r.lastTickSample + r.phase - 2 ∨ (r.lastTickSample : Int) + r.phase + 2 < stamp) →
      ((stamp : Int) < r.nextTick + r.phase - 2 ∨ (r.nextTick : Int) + r.phase + 2 < stamp) →
      exec (.referencePulse stamp) s = .next ((s.withRef { r with lastPulse := some stamp }).bump ctrPulsesMisplaced 1))

/-- R165, R166, R169, R170: the ends of the loss watches, TCOD and REFR. REFR that changes the rate cuts the
timecode's frames to the new rate less one where they are not below it, places the next tick one new period after the
last, at 50 on the first block start from there, or, where that has passed, on the first sample or block start after
the REFR, and takes the unit to LOCKING. (Where the model settles what the rules leave open: log entries 2, 16 and
40; the order of REFR's checks, entry 80; the phase offset, which stays, entry 81.) -/
def Obligations.ReferenceIsLostAndSet : Prop :=
  ∀ (d : Directive) (s u : State),
    (∀ p, s.power = true → s.ref.state = .locking → s.ref.lastPulse = some p →
      exec .lockingLoss s = .next (s.withRef { s.ref with
        clock := max s.ref.clock (p + (match s.ref.rate with | .fps50 => 1440 | .fps60 => 1200))
        state := if s.ref.originHoldover = true then .holdover else .absent, run := 0, lastPulse := none })) ∧
    (∀ p, s.power = true → s.ref.state = .locked → s.ref.lastGood = some p →
      exec .referenceLoss s = .next ((s.withRef { s.ref with
        clock := max s.ref.clock (p + (match s.ref.rate with | .fps50 => 1440 | .fps60 => 1200))
        state := .holdover, run := 0 }).count ctrReferenceLosses .refLost 0)) ∧
    (reaches .tcod d s u →
      (wordAt d.words 0 ≤ 23 → wordAt d.words 1 ≤ 59 → wordAt d.words 2 ≤ 59 →
        wordAt d.words 3 < (match u.ref.rate with | .fps50 => 50 | .fps60 => 60) →
        exec (.tcod d) s = .next (answered .tcod d .success .empty (u.withRef { u.ref with
          heldTimecode := some ⟨wordAt d.words 0, wordAt d.words 1, wordAt d.words 2, wordAt d.words 3⟩ }))) ∧
      ((23 < wordAt d.words 0 ∨ 59 < wordAt d.words 1 ∨ 59 < wordAt d.words 2 ∨
          (match u.ref.rate with | .fps50 => 50 | .fps60 => 60) ≤ wordAt d.words 3) →
        exec (.tcod d) s = .next (refused .tcod d .range u))) ∧
    (reaches .refr d s u →
      (wordAt d.words 0 ≠ 50 → wordAt d.words 0 ≠ 60 → exec (.refr d) s = .next (refused .refr d .range u)) ∧
      (∀ rate : FrameRate, wordAt d.words 0 = (match rate with | .fps50 => 50 | .fps60 => 60) →
        ((∃ l : Lane, u.lanes[l].state ≠ .off) → exec (.refr d) s = .next (refused .refr d .state u)) ∧
        ((∀ l : Lane, u.lanes[l].state = .off) → rate = u.ref.rate →
          exec (.refr d) s = .next (answered .refr d .success .empty u)) ∧
        ((∀ l : Lane, u.lanes[l].state = .off) → rate ≠ u.ref.rate → ∃ (n : Nat) (tc : Timecode),
          exec (.refr d) s = .next (answered .refr d .success .empty (u.withRef { u.ref with
            rate := rate, timecode := tc, nextTick := n
            originHoldover := decide (u.ref.state = .locked ∨ u.ref.state = .holdover)
            state := .locking, run := 0, lastPulse := none })) ∧
          tc = { u.ref.timecode with
            ff := min u.ref.timecode.ff ((match rate with | .fps50 => 50 | .fps60 => 60) - 1) } ∧
          (rate = .fps60 → (u.ref.clock ≤ u.ref.lastTickSample + 800 → n = u.ref.lastTickSample + 800) ∧
            (u.ref.lastTickSample + 800 < u.ref.clock → n = u.ref.clock + 1)) ∧
          (∀ b, rate = .fps50 → b % 48 = 0 → u.ref.lastTickSample + 960 ≤ b → b < u.ref.lastTickSample + 1008 →
            (u.ref.clock ≤ b → n = b) ∧
            (b < u.ref.clock → n % 48 = 0 ∧ u.ref.clock < n ∧ n ≤ u.ref.clock + 48)))))

/-- R171 to R173: a raw change away from the accepted level starts the filter with the current tick; a return stops
it and is counted; a filter that runs out, or a change at a filter time of 0, accepts the level, and an input with
the function TAKE then asks for a take when the edge is wanted, and one with a mark function marks at the current tick
(R140); CONT loads an input and starts or stops its filter, and with the filter time 0 it accepts a level that differs
at once, under the new function:
the functions 0 to 5 are NONE, MARK_IN, MARK_OUT, MARK_TOGGLE, TAKE and TALLY, the edges 0 to 2 RISING, FALLING and
BOTH, the parameter a template for MARK_IN and MARK_TOGGLE, a lane for TALLY and 0 for the others; anything else is
refused RANGE. (Where the model settles what the rules leave open: log entries 2, 16 and 42.) -/
def Obligations.ContactsAreFiltered : Prop :=
  (∀ (s : State) (i : ContactNo) (c : Contact) (level : Bool), s.power = true → s.contacts[i] = c →
    (c.raw = level → exec (.contactRawChange i level) s = .next (kick s)) ∧
    (c.raw ≠ level → c.accepted ≠ level → 0 < c.filterMs → exec (.contactRawChange i level) s
      = .next (kick (s.setContact i { c with
          raw := level, filter := some ⟨s.ref.clock + 48 * c.filterMs, s.ref.tick⟩ }))) ∧
    (c.raw ≠ level → c.accepted = level → c.filter.isSome = true → exec (.contactRawChange i level) s
      = .next (kick ((s.setContact i { c with raw := level, filter := none }).bump ctrContactFiltered 1))) ∧
    (∀ u, c.raw ≠ level → c.accepted ≠ level → c.filterMs = 0 →
      u = s.setContact i { c with raw := level, accepted := level, filter := none } →
      ((c.fn = .none ∨ c.fn = .tally ∨ (c.edge = .rising ∧ level = false) ∨ (c.edge = .falling ∧ level = true)) →
        exec (.contactRawChange i level) s = .next (kick u)) ∧
      ((c.edge = .both ∨ (c.edge = .rising ∧ level = true) ∨ (c.edge = .falling ∧ level = false)) →
        (c.fn = .take → exec (.contactRawChange i level) s
          = .next (kick (u.withMixer { s.mixer with takePending := true }))) ∧
        (c.fn = .markOut → exec (.contactRawChange i level) s = .next (kick (contactMarkOut s.ref.tick u))) ∧
        (∀ k : Fin 4, c.fn = .markIn → c.param = k.val →
          exec (.contactRawChange i level) s = .next (kick (contactMarkIn k s.ref.tick u))) ∧
        (∀ k : Fin 4, c.fn = .markToggle → c.param = k.val → exec (.contactRawChange i level) s = .next (kick
          (if u.clips.clips.any (fun x => decide (x.state = .opened)) then contactMarkOut s.ref.tick u
            else contactMarkIn k s.ref.tick u))))) ∧
    (c.filter = none → exec (.filterRunsOut i) s = .next (kick s)) ∧
    (∀ f, c.filter = some f → (c.fn = .none ∨ c.fn = .tally ∨ (c.edge = .rising ∧ c.raw = false) ∨
        (c.edge = .falling ∧ c.raw = true)) →
      exec (.filterRunsOut i) s
        = .next (kick ((s.advanceTo f.due).setContact i { c with accepted := c.raw, filter := none }))) ∧
    (∀ f, c.filter = some f → c.fn = .take → (c.edge = .both ∨ (c.edge = .rising ∧ c.raw = true) ∨
        (c.edge = .falling ∧ c.raw = false)) →
      exec (.filterRunsOut i) s
        = .next (kick (((s.advanceTo f.due).setContact i { c with accepted := c.raw, filter := none }).withMixer
            { s.mixer with takePending := true })))) ∧
  (∀ (d : Directive) (s u : State) (i : ContactNo) (f : ContactFn) (e : EdgeSetting) (c : Contact),
    reaches .cont d s u → wordAt d.words 0 = i.val → fnOf (wordAt d.words 1) = some f →
    edgeOf (wordAt d.words 3) = some e → u.contacts[i] = c →
    (paramOk f (wordAt d.words 2) = true → wordAt d.words 4 ≤ 255 →
      (c.raw = c.accepted → exec (.cont d) s = .next (settled .cont (answered .cont d .success .empty
        (u.setContact i { c with
          fn := f, param := wordAt d.words 2, edge := e, filterMs := wordAt d.words 4, filter := none })))) ∧
      (c.raw ≠ c.accepted → 0 < wordAt d.words 4 →
        exec (.cont d) s = .next (settled .cont (answered .cont d .success .empty
          (u.setContact i { c with
            fn := f, param := wordAt d.words 2, edge := e, filterMs := wordAt d.words 4
            filter := some ⟨u.ref.clock + 48 * wordAt d.words 4, u.ref.tick⟩ })))) ∧
      (∀ v, c.raw ≠ c.accepted → wordAt d.words 4 = 0 → v = u.setContact i { c with
          fn := f, param := wordAt d.words 2, edge := e, filterMs := 0, accepted := c.raw, filter := none } →
        ((f = .none ∨ f = .tally ∨ (e = .rising ∧ c.raw = false) ∨ (e = .falling ∧ c.raw = true)) →
          exec (.cont d) s = .next (settled .cont (answered .cont d .success .empty v))) ∧
        ((e = .both ∨ (e = .rising ∧ c.raw = true) ∨ (e = .falling ∧ c.raw = false)) →
          (f = .take → exec (.cont d) s = .next (settled .cont (answered .cont d .success .empty
            (v.withMixer { u.mixer with takePending := true })))) ∧
          (f = .markOut → exec (.cont d) s = .next (settled .cont (answered .cont d .success .empty
            (contactMarkOut u.ref.tick v)))) ∧
          (∀ k : Fin 4, f = .markIn → wordAt d.words 2 = k.val → exec (.cont d) s = .next (settled .cont
            (answered .cont d .success .empty (contactMarkIn k u.ref.tick v)))) ∧
          (∀ k : Fin 4, f = .markToggle → wordAt d.words 2 = k.val → exec (.cont d) s = .next (settled .cont
            (answered .cont d .success .empty
              (if v.clips.clips.any (fun x => decide (x.state = .opened)) then contactMarkOut u.ref.tick v
                else contactMarkIn k u.ref.tick v))))))) ∧
    ((paramOk f (wordAt d.words 2) = false ∨ 255 < wordAt d.words 4) →
      exec (.cont d) s = .next (refused .cont d .range u))) ∧
  (∀ (n q : Nat) (f : ContactFn) (e : EdgeSetting),
    (fnOf n = some f ↔ (n, f) ∈ [(0, .none), (1, .markIn), (2, .markOut), (3, .markToggle), (4, .take), (5, .tally)]) ∧
    (edgeOf n = some e ↔ (n, e) ∈ [(0, .rising), (1, .falling), (2, .both)]) ∧
    (paramOk f q = true ↔ ((f = .markIn ∨ f = .markToggle) ∧ q ≤ 3) ∨ (f = .tally ∧ q ≤ 5) ∨ q = 0)) ∧
  (∀ (d : Directive) (s u : State), reaches .cont d s u →
    (7 < wordAt d.words 0 ∨ 5 < wordAt d.words 1 ∨ 2 < wordAt d.words 3) →
    exec (.cont d) s = .next (refused .cont d .range u))

/-- R140, R172: the contact marks. A filter that runs out on a wanted edge hands the stamp tick to the function of its
input: MARK_IN makes a clip from its template, with the tags that are defined; MARK_OUT closes the newest OPEN clip at
the stamp, its pins beyond the stamp released in the store (R68, R139); MARK_TOGGLE is one or the other. A mark during
the scan, a MARK_IN at a full log, and a MARK_OUT with no OPEN clip or before its in tick are counted as refused.
(Where the model settles what the rules leave open: log entries 19, 21 and 22.) -/
def Obligations.ContactMarks : Prop :=
  (∀ (s u : State) (i : ContactNo) (c : Contact) (f : Filter), s.power = true → s.contacts[i] = c →
    c.filter = some f → (c.edge = .both ∨ (c.edge = .rising ∧ c.raw = true) ∨ (c.edge = .falling ∧ c.raw = false)) →
    u = (s.advanceTo f.due).setContact i { c with accepted := c.raw, filter := none } →
    (∀ k : Fin 4, c.param = k.val → c.fn = .markIn →
      exec (.filterRunsOut i) s = .next (kick (contactMarkIn k f.stamp u))) ∧
    (c.fn = .markOut → exec (.filterRunsOut i) s = .next (kick (contactMarkOut f.stamp u))) ∧
    (∀ k : Fin 4, c.param = k.val → c.fn = .markToggle → exec (.filterRunsOut i) s = .next (kick
      (if u.clips.clips.any (fun x => decide (x.state = .opened)) then contactMarkOut f.stamp u
        else contactMarkIn k f.stamp u)))) ∧
  (∀ (s : State) (k : Fin 4) (tick : Word),
    (s.labels.ready = false → contactMarkIn k tick s = s.bump ctrMarksRefused 1 ∧
      contactMarkOut tick s = s.bump ctrMarksRefused 1) ∧
    (s.labels.ready = true → s.clips.clips.length < 256 → ∃ (t : State) (c : Clip), contactMarkIn k tick s = t ∧
      t.clips.clips = s.clips.clips ++ [c] ∧ (∀ x ∈ s.clips.clips, x.id ≠ c.id) ∧ c.state = .opened ∧
      c.inTick = tick ∧ c.outTick = none ∧ c.lanes.map Prod.fst = s.clips.templates[k].lanes ∧
      c.tags = s.clips.templates[k].tags.filter (fun x => tagDefined s x) ∧
      c.sendOnClose = s.clips.templates[k].sendOnClose ∧ c.priority = s.clips.templates[k].priority ∧
      c.keys = s.clips.templates[k].keys ∧ c.kept = false ∧ (s.clips.dirty.length < 256 → c.id ∈ t.clips.dirty) ∧
      marked [c.id] s t ∧
      t.engines = s.engines ∧ t.lanes = s.lanes ∧ t.labels = s.labels ∧
      ∀ j, j ≠ ctrNoticesLost → t.handler.counters[j] = s.handler.counters[j]) ∧
    (s.labels.ready = true → 256 ≤ s.clips.clips.length → (∀ c ∈ s.clips.clips, c.state ≠ .sent ∨ c.kept = true) →
      contactMarkIn k tick s = (s.bump ctrMarksRefused 1).latch .clipLogFull 0) ∧
    ((∀ c ∈ s.clips.clips, c.state ≠ .opened) → contactMarkOut tick s = s.bump ctrMarksRefused 1) ∧
    (∀ c, s.labels.ready = true → newestOpen s = some c → earlier tick c.inTick = true →
      contactMarkOut tick s = s.bump ctrMarksRefused 1) ∧
    (∀ c, s.labels.ready = true → newestOpen s = some c → findClip s c.id = some c → earlier tick c.inTick = false →
      c.sendOnClose = false → s.clips.queue = [] → ∃ t : State, contactMarkOut tick s = t ∧
      findClip t c.id = some { c with
        state := .closed, outTick := some tick
        lanes := c.lanes.map (fun q => if q.2 = .pending then (q.1, .none) else q)
        pins := c.pins.filter (fun q => !later q.2 tick) } ∧
      t.store = releaseRequest s.store (c.pins.filter (fun q => later q.2 tick)) ∧ marked [c.id] s t ∧
      t.handler = s.handler ∧ t.engines = s.engines ∧ t.lanes = s.lanes) ∧
    (∀ c, s.labels.ready = true → newestOpen s = some c → findClip s c.id = some c → earlier tick c.inTick = false →
      c.sendOnClose = true → s.clips.queue = [] → (∀ e : EngineNo, s.engines[e].isSome = true) →
      ∃ (t : State) (k : Clip), contactMarkOut tick s = t ∧ findClip t c.id = some k ∧ k.state = .queued ∧
      k.outTick = some tick ∧ k.pins = c.pins.filter (fun q => !later q.2 tick) ∧ t.clips.queue = [c.id] ∧
      t.store = releaseRequest s.store (c.pins.filter (fun q => later q.2 tick)) ∧ marked [c.id] s t ∧
      t.handler = s.handler ∧ t.engines = s.engines ∧ t.lanes = s.lanes))

/-! ## Invariants -/

/-- R53, R56, R151, R188: every step keeps the canonical form of the two memories: addresses strictly rising, no listed
byte equal to what an unlisted address reads as. (Where the model settles what the rules leave open: log entry 5.) -/
def Obligations.StepsKeepCanonicalMemories : Prop :=
  ∀ s t : State, canonicalMemories s = true → step s = .next t → canonicalMemories t = true

/-- R16, R120, R176, R178: every step keeps the bounds of the handler: at most sixteen directives wait, at most
thirty-two packets stand in the egress queue, a response is held only outside a full queue, and each waiting remote
directive has its place among the eight of the control list. -/
def Obligations.StepsKeepHandlerBounds : Prop :=
  ∀ s t : State, handlerBounds s = true → step s = .next t → handlerBounds t = true

/-- R9, R12, R55, R91, R109, R113, R121, R122, R131, R133: every step keeps the lists within the sizes that the rules
give them. -/
def Obligations.StepsKeepListBounds : Prop :=
  ∀ s t : State, listBounds s = true → step s = .next t → listBounds t = true

/-- R53, R55, R60, R67, R69: every step keeps the store sound: the free list and the records' block lists share out the
16,384 blocks, the ticks of each lane's records rise, no record has more than sixty-four blocks, and the pinned blocks
are what the pinned records count, and at most the ceiling. The records are younger than 2^31 ticks, where the order of
ticks of R1 is the order of age. -/
def Obligations.StepsKeepTheStoreSound : Prop :=
  ∀ s t : State, storeSound s.store → recordsYoung s → step s = .next t → storeSound t.store

/-- R37, R46, R50, R51: every step keeps the rate settings of every lane, in force and held, within their ranges, the
bucket at most Cb, and the index at most 63. -/
def Obligations.StepsKeepRatesInRange : Prop :=
  ∀ s t : State, rateInRange s = true → step s = .next t → rateInRange t = true
end

