-- ==== Sys2Proof/Laws/Memory.lean ====
section
/-! SUPPORT. The laws of the addressed memories: every operation keeps the canonical form, and a read after a write. -/

namespace Sys2Proof.Machine.Memory

variable {d : Byte}

theorem wfFrom_mono {lo lo' : Nat} (h : lo' ≤ lo) : ∀ {m : Memory}, wfFrom d lo m = true → wfFrom d lo' m = true
  | [], _ => rfl
  | _ :: _, hm => by
    simp only [wfFrom, Bool.and_eq_true, decide_eq_true_eq] at hm ⊢
    exact ⟨⟨by omega, hm.1.2⟩, hm.2⟩

theorem wfFrom_write {a : Nat} {b : Byte} : ∀ {m : Memory} {lo : Nat}, lo ≤ a → wfFrom d lo m = true →
    wfFrom d lo (write d m a b) = true
  | [], lo, ha, _ => by
    unfold write; split <;> simp_all [wfFrom]
  | c :: m, lo, ha, hm => by
    have hm' := hm
    simp only [wfFrom, Bool.and_eq_true, decide_eq_true_eq] at hm
    unfold write
    split
    · split
      · exact hm'
      · simp_all [wfFrom]
    · split
      · rename_i h1 h2
        subst h2
        split
        · exact wfFrom_mono (by omega) hm.2
        · simp_all [wfFrom]
      · simp only [wfFrom, Bool.and_eq_true, decide_eq_true_eq]
        exact ⟨hm.1, wfFrom_write (by omega) hm.2⟩

/-- A write keeps the canonical form. -/
theorem wf_write {m : Memory} {a : Nat} {b : Byte} (h : wf d m = true) : wf d (write d m a b) = true :=
  wfFrom_write (Nat.zero_le a) h

/-- A run of writes keeps the canonical form. -/
theorem wf_writeRun : ∀ {bs : List Byte} {m : Memory} {a : Nat}, wf d m = true → wf d (writeRun d m a bs) = true
  | [], _, _, h => h
  | b :: bs, m, a, h => by rw [writeRun]; exact wf_writeRun (wf_write h)

theorem wfFrom_filter {p : Host.Cell → Bool} : ∀ {m : Memory} {lo : Nat}, wfFrom d lo m = true →
    wfFrom d lo (m.filter p) = true
  | [], _, _ => rfl
  | c :: m, lo, h => by
    simp only [wfFrom, Bool.and_eq_true, decide_eq_true_eq] at h
    rw [List.filter_cons]
    split
    · simp only [wfFrom, Bool.and_eq_true, decide_eq_true_eq]
      exact ⟨h.1, wfFrom_filter h.2⟩
    · exact wfFrom_mono (by omega) (wfFrom_filter h.2)

/-- Erasing a range keeps the canonical form. -/
theorem wf_clear {m : Memory} {a b : Nat} (h : wf d m = true) : wf d (clear m a b) = true := wfFrom_filter h

/-- Below its lowest address a memory in canonical form reads as an unlisted address does. -/
theorem read_below {a : Nat} : ∀ {m : Memory} {lo : Nat}, wfFrom d lo m = true → a < lo → read d m a = d
  | [], _, _, _ => rfl
  | c :: m, lo, h, ha => by
    simp only [wfFrom, Bool.and_eq_true, decide_eq_true_eq] at h
    rw [read, if_neg (by omega)]
    exact read_below h.2 (by omega)

theorem read_write_from {a x : Nat} {b : Byte} : ∀ {m : Memory} {lo : Nat}, wfFrom d lo m = true →
    read d (write d m a b) x = if x = a then b else read d m x
  | [], _, _ => by
    unfold write
    by_cases hx : x = a
    · subst hx; split <;> simp_all [read]
    · split <;> simp [read, Ne.symm hx]
  | c :: m, lo, h => by
    have ih := read_write_from (a := a) (x := x) (b := b) (m := m) (lo := c.1 + 1)
    simp only [wfFrom, Bool.and_eq_true, decide_eq_true_eq] at h
    have hlow := read_below (a := a) h.2
    unfold write
    split
    · rename_i hlt
      have hca : ¬ c.1 = a := by omega
      have := hlow (by omega)
      by_cases hx : x = a
      · subst hx; split <;> simp_all [read]
      · rw [if_neg hx]; split <;> simp [read, Ne.symm hx]
    · split
      · rename_i _ heq
        have := hlow (by omega)
        by_cases hx : x = a
        · subst hx; split <;> simp_all [read]
        · have : ¬ c.1 = x := by omega
          rw [if_neg hx]; split <;> simp [read, Ne.symm hx, this]
      · rename_i h1 h2
        by_cases hx : c.1 = x
        · have : ¬ x = a := by omega
          simp [read, hx, this]
        · simp [read, hx, ih h.2]

/-- A read after a write: the byte written at its own address, and every other byte as before. -/
theorem read_write {m : Memory} {a x : Nat} {b : Byte} (h : wf d m = true) :
    read d (write d m a b) x = if x = a then b else read d m x := read_write_from h

/-- A read after a run of writes. -/
theorem read_writeRun {x : Nat} : ∀ {bs : List Byte} {m : Memory} {a : Nat}, wf d m = true →
    read d (writeRun d m a bs) x = if a ≤ x ∧ x < a + bs.length then bs.getD (x - a) d else read d m x
  | [], m, a, _ => by
    rw [writeRun, if_neg (by simp)]
  | b :: bs, m, a, h => by
    rw [writeRun, read_writeRun (wf_write h), read_write h]
    by_cases hx : x = a
    · subst hx; simp
    · by_cases h1 : a + 1 ≤ x ∧ x < a + 1 + bs.length
      · rw [if_pos h1, if_pos (by simp; omega)]
        obtain ⟨k, rfl⟩ : ∃ k, x = a + 1 + k := ⟨x - (a + 1), by omega⟩
        rw [show a + 1 + k - (a + 1) = k by omega, show a + 1 + k - a = k + 1 by omega]; simp
      · rw [if_neg h1, if_neg hx, if_neg (by simp; omega)]

theorem read_filter_from {p : Host.Cell → Bool} {x : Nat} : ∀ {m : Memory} {lo : Nat}, wfFrom d lo m = true →
    (∀ c ∈ m, c.1 = x → p c = true) → read d (m.filter p) x = read d m x
  | [], _, _, _ => rfl
  | c :: m, lo, h, hp => by
    simp only [wfFrom, Bool.and_eq_true, decide_eq_true_eq] at h
    have ih := read_filter_from (p := p) (x := x) h.2 (fun c hc => hp c (List.mem_cons_of_mem _ hc))
    rw [List.filter_cons]
    by_cases hx : c.1 = x
    · rw [if_pos (hp c (by simp) hx)]; simp [read, hx]
    · split <;> simp [read, hx, ih]

theorem read_filter_none {p : Host.Cell → Bool} {x : Nat} (hp : ∀ c : Host.Cell, c.1 = x → p c = false) :
    ∀ m : Memory, read d (m.filter p) x = d
  | [] => rfl
  | c :: m => by
    rw [List.filter_cons]
    split
    · rename_i h
      have hx : ¬ c.1 = x := fun e => by rw [hp c e] at h; cases h
      rw [read, if_neg hx]; exact read_filter_none hp m
    · exact read_filter_none hp m

/-- A read after an erase: the range reads as an unlisted address does, and every other byte as before. -/
theorem read_clear {m : Memory} {a b x : Nat} (h : wf d m = true) :
    read d (clear m a b) x = if a ≤ x ∧ x < b then d else read d m x := by
  unfold clear
  split
  · rename_i hx
    apply read_filter_none
    intro c hc; simp [hc]; omega
  · rename_i hx
    apply read_filter_from (lo := 0) h
    intro c _ hc; simp [hc]; omega

/-- The run read back after the run of writes is the run written. -/
theorem readRun_writeRun {m : Memory} {a : Nat} {bs : List Byte} (h : wf d m = true) :
    readRun d (writeRun d m a bs) a bs.length = bs := by
  have key : ∀ (k : Nat) (bs' : List Byte), bs.drop k = bs' →
      readRun d (writeRun d m a bs) (a + k) bs'.length = bs' := by
    intro k bs'
    induction bs' generalizing k with
    | nil => intro _; rfl
    | cons x xs ih =>
      intro hk
      have hlen : k < bs.length := by
        by_contra hc
        rw [List.drop_eq_nil_of_le (by omega)] at hk; cases hk
      have hx : bs[k] = x := by
        have := congrArg List.head? hk; simpa [List.head?_drop, hlen] using this
      have hxs : bs.drop (k + 1) = xs := by
        rw [← List.tail_drop, hk]; rfl
      rw [List.length_cons, readRun, read_writeRun h, if_pos (by omega)]
      rw [show a + k - a = k by omega, Nat.add_assoc, ih (k + 1) hxs]
      simp [hlen, hx]
  simpa using key 0 bs rfl

end Sys2Proof.Machine.Memory
end

