-- ==== Sys2Proof/Laws/State.lean ====
section
/-! SUPPORT. What each field of State holds after each update of one field. -/

namespace Sys2Proof.Machine.State

/-! ### withPending -/

@[simp] theorem withPending_pending (s : State) (v : List Instr) : (s.withPending v).pending = v := rfl
@[simp] theorem withPending_power (s : State) (v : List Instr) : (s.withPending v).power = s.power := rfl
@[simp] theorem withPending_straps (s : State) (v : List Instr) : (s.withPending v).straps = s.straps := rfl
@[simp] theorem withPending_freeSeed (s : State) (v : List Instr) : (s.withPending v).freeSeed = s.freeSeed := rfl
@[simp] theorem withPending_port (s : State) (v : List Instr) : (s.withPending v).port = s.port := rfl
@[simp] theorem withPending_handler (s : State) (v : List Instr) : (s.withPending v).handler = s.handler := rfl
@[simp] theorem withPending_ref (s : State) (v : List Instr) : (s.withPending v).ref = s.ref := rfl
@[simp] theorem withPending_contacts (s : State) (v : List Instr) : (s.withPending v).contacts = s.contacts := rfl
@[simp] theorem withPending_lanes (s : State) (v : List Instr) : (s.withPending v).lanes = s.lanes := rfl
@[simp] theorem withPending_store (s : State) (v : List Instr) : (s.withPending v).store = s.store := rfl
@[simp] theorem withPending_mixer (s : State) (v : List Instr) : (s.withPending v).mixer = s.mixer := rfl
@[simp] theorem withPending_paths (s : State) (v : List Instr) : (s.withPending v).paths = s.paths := rfl
@[simp] theorem withPending_ret (s : State) (v : List Instr) : (s.withPending v).ret = s.ret := rfl
@[simp] theorem withPending_asm (s : State) (v : List Instr) : (s.withPending v).asm = s.asm := rfl
@[simp] theorem withPending_clips (s : State) (v : List Instr) : (s.withPending v).clips = s.clips := rfl
@[simp] theorem withPending_engines (s : State) (v : List Instr) : (s.withPending v).engines = s.engines := rfl
@[simp] theorem withPending_labels (s : State) (v : List Instr) : (s.withPending v).labels = s.labels := rfl
@[simp] theorem withPending_withPending (s : State) (v w : List Instr) : (s.withPending v).withPending w = s.withPending w := rfl
@[simp] theorem withPending_self (s : State) : s.withPending s.pending = s := rfl

/-! ### withPower -/

@[simp] theorem withPower_pending (s : State) (v : Bool) : (s.withPower v).pending = s.pending := rfl
@[simp] theorem withPower_power (s : State) (v : Bool) : (s.withPower v).power = v := rfl
@[simp] theorem withPower_straps (s : State) (v : Bool) : (s.withPower v).straps = s.straps := rfl
@[simp] theorem withPower_freeSeed (s : State) (v : Bool) : (s.withPower v).freeSeed = s.freeSeed := rfl
@[simp] theorem withPower_port (s : State) (v : Bool) : (s.withPower v).port = s.port := rfl
@[simp] theorem withPower_handler (s : State) (v : Bool) : (s.withPower v).handler = s.handler := rfl
@[simp] theorem withPower_ref (s : State) (v : Bool) : (s.withPower v).ref = s.ref := rfl
@[simp] theorem withPower_contacts (s : State) (v : Bool) : (s.withPower v).contacts = s.contacts := rfl
@[simp] theorem withPower_lanes (s : State) (v : Bool) : (s.withPower v).lanes = s.lanes := rfl
@[simp] theorem withPower_store (s : State) (v : Bool) : (s.withPower v).store = s.store := rfl
@[simp] theorem withPower_mixer (s : State) (v : Bool) : (s.withPower v).mixer = s.mixer := rfl
@[simp] theorem withPower_paths (s : State) (v : Bool) : (s.withPower v).paths = s.paths := rfl
@[simp] theorem withPower_ret (s : State) (v : Bool) : (s.withPower v).ret = s.ret := rfl
@[simp] theorem withPower_asm (s : State) (v : Bool) : (s.withPower v).asm = s.asm := rfl
@[simp] theorem withPower_clips (s : State) (v : Bool) : (s.withPower v).clips = s.clips := rfl
@[simp] theorem withPower_engines (s : State) (v : Bool) : (s.withPower v).engines = s.engines := rfl
@[simp] theorem withPower_labels (s : State) (v : Bool) : (s.withPower v).labels = s.labels := rfl
@[simp] theorem withPower_withPower (s : State) (v w : Bool) : (s.withPower v).withPower w = s.withPower w := rfl
@[simp] theorem withPower_self (s : State) : s.withPower s.power = s := rfl

/-! ### withStraps -/

@[simp] theorem withStraps_pending (s : State) (v : Byte) : (s.withStraps v).pending = s.pending := rfl
@[simp] theorem withStraps_power (s : State) (v : Byte) : (s.withStraps v).power = s.power := rfl
@[simp] theorem withStraps_straps (s : State) (v : Byte) : (s.withStraps v).straps = v := rfl
@[simp] theorem withStraps_freeSeed (s : State) (v : Byte) : (s.withStraps v).freeSeed = s.freeSeed := rfl
@[simp] theorem withStraps_port (s : State) (v : Byte) : (s.withStraps v).port = s.port := rfl
@[simp] theorem withStraps_handler (s : State) (v : Byte) : (s.withStraps v).handler = s.handler := rfl
@[simp] theorem withStraps_ref (s : State) (v : Byte) : (s.withStraps v).ref = s.ref := rfl
@[simp] theorem withStraps_contacts (s : State) (v : Byte) : (s.withStraps v).contacts = s.contacts := rfl
@[simp] theorem withStraps_lanes (s : State) (v : Byte) : (s.withStraps v).lanes = s.lanes := rfl
@[simp] theorem withStraps_store (s : State) (v : Byte) : (s.withStraps v).store = s.store := rfl
@[simp] theorem withStraps_mixer (s : State) (v : Byte) : (s.withStraps v).mixer = s.mixer := rfl
@[simp] theorem withStraps_paths (s : State) (v : Byte) : (s.withStraps v).paths = s.paths := rfl
@[simp] theorem withStraps_ret (s : State) (v : Byte) : (s.withStraps v).ret = s.ret := rfl
@[simp] theorem withStraps_asm (s : State) (v : Byte) : (s.withStraps v).asm = s.asm := rfl
@[simp] theorem withStraps_clips (s : State) (v : Byte) : (s.withStraps v).clips = s.clips := rfl
@[simp] theorem withStraps_engines (s : State) (v : Byte) : (s.withStraps v).engines = s.engines := rfl
@[simp] theorem withStraps_labels (s : State) (v : Byte) : (s.withStraps v).labels = s.labels := rfl
@[simp] theorem withStraps_withStraps (s : State) (v w : Byte) : (s.withStraps v).withStraps w = s.withStraps w := rfl
@[simp] theorem withStraps_self (s : State) : s.withStraps s.straps = s := rfl

/-! ### withSeed -/

@[simp] theorem withSeed_pending (s : State) (v : Nat) : (s.withSeed v).pending = s.pending := rfl
@[simp] theorem withSeed_power (s : State) (v : Nat) : (s.withSeed v).power = s.power := rfl
@[simp] theorem withSeed_straps (s : State) (v : Nat) : (s.withSeed v).straps = s.straps := rfl
@[simp] theorem withSeed_freeSeed (s : State) (v : Nat) : (s.withSeed v).freeSeed = v := rfl
@[simp] theorem withSeed_port (s : State) (v : Nat) : (s.withSeed v).port = s.port := rfl
@[simp] theorem withSeed_handler (s : State) (v : Nat) : (s.withSeed v).handler = s.handler := rfl
@[simp] theorem withSeed_ref (s : State) (v : Nat) : (s.withSeed v).ref = s.ref := rfl
@[simp] theorem withSeed_contacts (s : State) (v : Nat) : (s.withSeed v).contacts = s.contacts := rfl
@[simp] theorem withSeed_lanes (s : State) (v : Nat) : (s.withSeed v).lanes = s.lanes := rfl
@[simp] theorem withSeed_store (s : State) (v : Nat) : (s.withSeed v).store = s.store := rfl
@[simp] theorem withSeed_mixer (s : State) (v : Nat) : (s.withSeed v).mixer = s.mixer := rfl
@[simp] theorem withSeed_paths (s : State) (v : Nat) : (s.withSeed v).paths = s.paths := rfl
@[simp] theorem withSeed_ret (s : State) (v : Nat) : (s.withSeed v).ret = s.ret := rfl
@[simp] theorem withSeed_asm (s : State) (v : Nat) : (s.withSeed v).asm = s.asm := rfl
@[simp] theorem withSeed_clips (s : State) (v : Nat) : (s.withSeed v).clips = s.clips := rfl
@[simp] theorem withSeed_engines (s : State) (v : Nat) : (s.withSeed v).engines = s.engines := rfl
@[simp] theorem withSeed_labels (s : State) (v : Nat) : (s.withSeed v).labels = s.labels := rfl
@[simp] theorem withSeed_withSeed (s : State) (v w : Nat) : (s.withSeed v).withSeed w = s.withSeed w := rfl
@[simp] theorem withSeed_self (s : State) : s.withSeed s.freeSeed = s := rfl

/-! ### withPort -/

@[simp] theorem withPort_pending (s : State) (v : FabricPort) : (s.withPort v).pending = s.pending := rfl
@[simp] theorem withPort_power (s : State) (v : FabricPort) : (s.withPort v).power = s.power := rfl
@[simp] theorem withPort_straps (s : State) (v : FabricPort) : (s.withPort v).straps = s.straps := rfl
@[simp] theorem withPort_freeSeed (s : State) (v : FabricPort) : (s.withPort v).freeSeed = s.freeSeed := rfl
@[simp] theorem withPort_port (s : State) (v : FabricPort) : (s.withPort v).port = v := rfl
@[simp] theorem withPort_handler (s : State) (v : FabricPort) : (s.withPort v).handler = s.handler := rfl
@[simp] theorem withPort_ref (s : State) (v : FabricPort) : (s.withPort v).ref = s.ref := rfl
@[simp] theorem withPort_contacts (s : State) (v : FabricPort) : (s.withPort v).contacts = s.contacts := rfl
@[simp] theorem withPort_lanes (s : State) (v : FabricPort) : (s.withPort v).lanes = s.lanes := rfl
@[simp] theorem withPort_store (s : State) (v : FabricPort) : (s.withPort v).store = s.store := rfl
@[simp] theorem withPort_mixer (s : State) (v : FabricPort) : (s.withPort v).mixer = s.mixer := rfl
@[simp] theorem withPort_paths (s : State) (v : FabricPort) : (s.withPort v).paths = s.paths := rfl
@[simp] theorem withPort_ret (s : State) (v : FabricPort) : (s.withPort v).ret = s.ret := rfl
@[simp] theorem withPort_asm (s : State) (v : FabricPort) : (s.withPort v).asm = s.asm := rfl
@[simp] theorem withPort_clips (s : State) (v : FabricPort) : (s.withPort v).clips = s.clips := rfl
@[simp] theorem withPort_engines (s : State) (v : FabricPort) : (s.withPort v).engines = s.engines := rfl
@[simp] theorem withPort_labels (s : State) (v : FabricPort) : (s.withPort v).labels = s.labels := rfl
@[simp] theorem withPort_withPort (s : State) (v w : FabricPort) : (s.withPort v).withPort w = s.withPort w := rfl
@[simp] theorem withPort_self (s : State) : s.withPort s.port = s := rfl

/-! ### withHandler -/

@[simp] theorem withHandler_pending (s : State) (v : Handler) : (s.withHandler v).pending = s.pending := rfl
@[simp] theorem withHandler_power (s : State) (v : Handler) : (s.withHandler v).power = s.power := rfl
@[simp] theorem withHandler_straps (s : State) (v : Handler) : (s.withHandler v).straps = s.straps := rfl
@[simp] theorem withHandler_freeSeed (s : State) (v : Handler) : (s.withHandler v).freeSeed = s.freeSeed := rfl
@[simp] theorem withHandler_port (s : State) (v : Handler) : (s.withHandler v).port = s.port := rfl
@[simp] theorem withHandler_handler (s : State) (v : Handler) : (s.withHandler v).handler = v := rfl
@[simp] theorem withHandler_ref (s : State) (v : Handler) : (s.withHandler v).ref = s.ref := rfl
@[simp] theorem withHandler_contacts (s : State) (v : Handler) : (s.withHandler v).contacts = s.contacts := rfl
@[simp] theorem withHandler_lanes (s : State) (v : Handler) : (s.withHandler v).lanes = s.lanes := rfl
@[simp] theorem withHandler_store (s : State) (v : Handler) : (s.withHandler v).store = s.store := rfl
@[simp] theorem withHandler_mixer (s : State) (v : Handler) : (s.withHandler v).mixer = s.mixer := rfl
@[simp] theorem withHandler_paths (s : State) (v : Handler) : (s.withHandler v).paths = s.paths := rfl
@[simp] theorem withHandler_ret (s : State) (v : Handler) : (s.withHandler v).ret = s.ret := rfl
@[simp] theorem withHandler_asm (s : State) (v : Handler) : (s.withHandler v).asm = s.asm := rfl
@[simp] theorem withHandler_clips (s : State) (v : Handler) : (s.withHandler v).clips = s.clips := rfl
@[simp] theorem withHandler_engines (s : State) (v : Handler) : (s.withHandler v).engines = s.engines := rfl
@[simp] theorem withHandler_labels (s : State) (v : Handler) : (s.withHandler v).labels = s.labels := rfl
@[simp] theorem withHandler_withHandler (s : State) (v w : Handler) : (s.withHandler v).withHandler w = s.withHandler w := rfl
@[simp] theorem withHandler_self (s : State) : s.withHandler s.handler = s := rfl

/-! ### withRef -/

@[simp] theorem withRef_pending (s : State) (v : ReferenceUnit) : (s.withRef v).pending = s.pending := rfl
@[simp] theorem withRef_power (s : State) (v : ReferenceUnit) : (s.withRef v).power = s.power := rfl
@[simp] theorem withRef_straps (s : State) (v : ReferenceUnit) : (s.withRef v).straps = s.straps := rfl
@[simp] theorem withRef_freeSeed (s : State) (v : ReferenceUnit) : (s.withRef v).freeSeed = s.freeSeed := rfl
@[simp] theorem withRef_port (s : State) (v : ReferenceUnit) : (s.withRef v).port = s.port := rfl
@[simp] theorem withRef_handler (s : State) (v : ReferenceUnit) : (s.withRef v).handler = s.handler := rfl
@[simp] theorem withRef_ref (s : State) (v : ReferenceUnit) : (s.withRef v).ref = v := rfl
@[simp] theorem withRef_contacts (s : State) (v : ReferenceUnit) : (s.withRef v).contacts = s.contacts := rfl
@[simp] theorem withRef_lanes (s : State) (v : ReferenceUnit) : (s.withRef v).lanes = s.lanes := rfl
@[simp] theorem withRef_store (s : State) (v : ReferenceUnit) : (s.withRef v).store = s.store := rfl
@[simp] theorem withRef_mixer (s : State) (v : ReferenceUnit) : (s.withRef v).mixer = s.mixer := rfl
@[simp] theorem withRef_paths (s : State) (v : ReferenceUnit) : (s.withRef v).paths = s.paths := rfl
@[simp] theorem withRef_ret (s : State) (v : ReferenceUnit) : (s.withRef v).ret = s.ret := rfl
@[simp] theorem withRef_asm (s : State) (v : ReferenceUnit) : (s.withRef v).asm = s.asm := rfl
@[simp] theorem withRef_clips (s : State) (v : ReferenceUnit) : (s.withRef v).clips = s.clips := rfl
@[simp] theorem withRef_engines (s : State) (v : ReferenceUnit) : (s.withRef v).engines = s.engines := rfl
@[simp] theorem withRef_labels (s : State) (v : ReferenceUnit) : (s.withRef v).labels = s.labels := rfl
@[simp] theorem withRef_withRef (s : State) (v w : ReferenceUnit) : (s.withRef v).withRef w = s.withRef w := rfl
@[simp] theorem withRef_self (s : State) : s.withRef s.ref = s := rfl

/-! ### withContacts -/

@[simp] theorem withContacts_pending (s : State) (v : Vector Contact 8) : (s.withContacts v).pending = s.pending := rfl
@[simp] theorem withContacts_power (s : State) (v : Vector Contact 8) : (s.withContacts v).power = s.power := rfl
@[simp] theorem withContacts_straps (s : State) (v : Vector Contact 8) : (s.withContacts v).straps = s.straps := rfl
@[simp] theorem withContacts_freeSeed (s : State) (v : Vector Contact 8) : (s.withContacts v).freeSeed = s.freeSeed := rfl
@[simp] theorem withContacts_port (s : State) (v : Vector Contact 8) : (s.withContacts v).port = s.port := rfl
@[simp] theorem withContacts_handler (s : State) (v : Vector Contact 8) : (s.withContacts v).handler = s.handler := rfl
@[simp] theorem withContacts_ref (s : State) (v : Vector Contact 8) : (s.withContacts v).ref = s.ref := rfl
@[simp] theorem withContacts_contacts (s : State) (v : Vector Contact 8) : (s.withContacts v).contacts = v := rfl
@[simp] theorem withContacts_lanes (s : State) (v : Vector Contact 8) : (s.withContacts v).lanes = s.lanes := rfl
@[simp] theorem withContacts_store (s : State) (v : Vector Contact 8) : (s.withContacts v).store = s.store := rfl
@[simp] theorem withContacts_mixer (s : State) (v : Vector Contact 8) : (s.withContacts v).mixer = s.mixer := rfl
@[simp] theorem withContacts_paths (s : State) (v : Vector Contact 8) : (s.withContacts v).paths = s.paths := rfl
@[simp] theorem withContacts_ret (s : State) (v : Vector Contact 8) : (s.withContacts v).ret = s.ret := rfl
@[simp] theorem withContacts_asm (s : State) (v : Vector Contact 8) : (s.withContacts v).asm = s.asm := rfl
@[simp] theorem withContacts_clips (s : State) (v : Vector Contact 8) : (s.withContacts v).clips = s.clips := rfl
@[simp] theorem withContacts_engines (s : State) (v : Vector Contact 8) : (s.withContacts v).engines = s.engines := rfl
@[simp] theorem withContacts_labels (s : State) (v : Vector Contact 8) : (s.withContacts v).labels = s.labels := rfl
@[simp] theorem withContacts_withContacts (s : State) (v w : Vector Contact 8) : (s.withContacts v).withContacts w = s.withContacts w := rfl
@[simp] theorem withContacts_self (s : State) : s.withContacts s.contacts = s := rfl

/-! ### withLanes -/

@[simp] theorem withLanes_pending (s : State) (v : Vector LaneCoder 6) : (s.withLanes v).pending = s.pending := rfl
@[simp] theorem withLanes_power (s : State) (v : Vector LaneCoder 6) : (s.withLanes v).power = s.power := rfl
@[simp] theorem withLanes_straps (s : State) (v : Vector LaneCoder 6) : (s.withLanes v).straps = s.straps := rfl
@[simp] theorem withLanes_freeSeed (s : State) (v : Vector LaneCoder 6) : (s.withLanes v).freeSeed = s.freeSeed := rfl
@[simp] theorem withLanes_port (s : State) (v : Vector LaneCoder 6) : (s.withLanes v).port = s.port := rfl
@[simp] theorem withLanes_handler (s : State) (v : Vector LaneCoder 6) : (s.withLanes v).handler = s.handler := rfl
@[simp] theorem withLanes_ref (s : State) (v : Vector LaneCoder 6) : (s.withLanes v).ref = s.ref := rfl
@[simp] theorem withLanes_contacts (s : State) (v : Vector LaneCoder 6) : (s.withLanes v).contacts = s.contacts := rfl
@[simp] theorem withLanes_lanes (s : State) (v : Vector LaneCoder 6) : (s.withLanes v).lanes = v := rfl
@[simp] theorem withLanes_store (s : State) (v : Vector LaneCoder 6) : (s.withLanes v).store = s.store := rfl
@[simp] theorem withLanes_mixer (s : State) (v : Vector LaneCoder 6) : (s.withLanes v).mixer = s.mixer := rfl
@[simp] theorem withLanes_paths (s : State) (v : Vector LaneCoder 6) : (s.withLanes v).paths = s.paths := rfl
@[simp] theorem withLanes_ret (s : State) (v : Vector LaneCoder 6) : (s.withLanes v).ret = s.ret := rfl
@[simp] theorem withLanes_asm (s : State) (v : Vector LaneCoder 6) : (s.withLanes v).asm = s.asm := rfl
@[simp] theorem withLanes_clips (s : State) (v : Vector LaneCoder 6) : (s.withLanes v).clips = s.clips := rfl
@[simp] theorem withLanes_engines (s : State) (v : Vector LaneCoder 6) : (s.withLanes v).engines = s.engines := rfl
@[simp] theorem withLanes_labels (s : State) (v : Vector LaneCoder 6) : (s.withLanes v).labels = s.labels := rfl
@[simp] theorem withLanes_withLanes (s : State) (v w : Vector LaneCoder 6) : (s.withLanes v).withLanes w = s.withLanes w := rfl
@[simp] theorem withLanes_self (s : State) : s.withLanes s.lanes = s := rfl

/-! ### withStore -/

@[simp] theorem withStore_pending (s : State) (v : CodedStore) : (s.withStore v).pending = s.pending := rfl
@[simp] theorem withStore_power (s : State) (v : CodedStore) : (s.withStore v).power = s.power := rfl
@[simp] theorem withStore_straps (s : State) (v : CodedStore) : (s.withStore v).straps = s.straps := rfl
@[simp] theorem withStore_freeSeed (s : State) (v : CodedStore) : (s.withStore v).freeSeed = s.freeSeed := rfl
@[simp] theorem withStore_port (s : State) (v : CodedStore) : (s.withStore v).port = s.port := rfl
@[simp] theorem withStore_handler (s : State) (v : CodedStore) : (s.withStore v).handler = s.handler := rfl
@[simp] theorem withStore_ref (s : State) (v : CodedStore) : (s.withStore v).ref = s.ref := rfl
@[simp] theorem withStore_contacts (s : State) (v : CodedStore) : (s.withStore v).contacts = s.contacts := rfl
@[simp] theorem withStore_lanes (s : State) (v : CodedStore) : (s.withStore v).lanes = s.lanes := rfl
@[simp] theorem withStore_store (s : State) (v : CodedStore) : (s.withStore v).store = v := rfl
@[simp] theorem withStore_mixer (s : State) (v : CodedStore) : (s.withStore v).mixer = s.mixer := rfl
@[simp] theorem withStore_paths (s : State) (v : CodedStore) : (s.withStore v).paths = s.paths := rfl
@[simp] theorem withStore_ret (s : State) (v : CodedStore) : (s.withStore v).ret = s.ret := rfl
@[simp] theorem withStore_asm (s : State) (v : CodedStore) : (s.withStore v).asm = s.asm := rfl
@[simp] theorem withStore_clips (s : State) (v : CodedStore) : (s.withStore v).clips = s.clips := rfl
@[simp] theorem withStore_engines (s : State) (v : CodedStore) : (s.withStore v).engines = s.engines := rfl
@[simp] theorem withStore_labels (s : State) (v : CodedStore) : (s.withStore v).labels = s.labels := rfl
@[simp] theorem withStore_withStore (s : State) (v w : CodedStore) : (s.withStore v).withStore w = s.withStore w := rfl
@[simp] theorem withStore_self (s : State) : s.withStore s.store = s := rfl

/-! ### withMixer -/

@[simp] theorem withMixer_pending (s : State) (v : Mixer) : (s.withMixer v).pending = s.pending := rfl
@[simp] theorem withMixer_power (s : State) (v : Mixer) : (s.withMixer v).power = s.power := rfl
@[simp] theorem withMixer_straps (s : State) (v : Mixer) : (s.withMixer v).straps = s.straps := rfl
@[simp] theorem withMixer_freeSeed (s : State) (v : Mixer) : (s.withMixer v).freeSeed = s.freeSeed := rfl
@[simp] theorem withMixer_port (s : State) (v : Mixer) : (s.withMixer v).port = s.port := rfl
@[simp] theorem withMixer_handler (s : State) (v : Mixer) : (s.withMixer v).handler = s.handler := rfl
@[simp] theorem withMixer_ref (s : State) (v : Mixer) : (s.withMixer v).ref = s.ref := rfl
@[simp] theorem withMixer_contacts (s : State) (v : Mixer) : (s.withMixer v).contacts = s.contacts := rfl
@[simp] theorem withMixer_lanes (s : State) (v : Mixer) : (s.withMixer v).lanes = s.lanes := rfl
@[simp] theorem withMixer_store (s : State) (v : Mixer) : (s.withMixer v).store = s.store := rfl
@[simp] theorem withMixer_mixer (s : State) (v : Mixer) : (s.withMixer v).mixer = v := rfl
@[simp] theorem withMixer_paths (s : State) (v : Mixer) : (s.withMixer v).paths = s.paths := rfl
@[simp] theorem withMixer_ret (s : State) (v : Mixer) : (s.withMixer v).ret = s.ret := rfl
@[simp] theorem withMixer_asm (s : State) (v : Mixer) : (s.withMixer v).asm = s.asm := rfl
@[simp] theorem withMixer_clips (s : State) (v : Mixer) : (s.withMixer v).clips = s.clips := rfl
@[simp] theorem withMixer_engines (s : State) (v : Mixer) : (s.withMixer v).engines = s.engines := rfl
@[simp] theorem withMixer_labels (s : State) (v : Mixer) : (s.withMixer v).labels = s.labels := rfl
@[simp] theorem withMixer_withMixer (s : State) (v w : Mixer) : (s.withMixer v).withMixer w = s.withMixer w := rfl
@[simp] theorem withMixer_self (s : State) : s.withMixer s.mixer = s := rfl

/-! ### withPaths -/

@[simp] theorem withPaths_pending (s : State) (v : Vector PathCtl 4) : (s.withPaths v).pending = s.pending := rfl
@[simp] theorem withPaths_power (s : State) (v : Vector PathCtl 4) : (s.withPaths v).power = s.power := rfl
@[simp] theorem withPaths_straps (s : State) (v : Vector PathCtl 4) : (s.withPaths v).straps = s.straps := rfl
@[simp] theorem withPaths_freeSeed (s : State) (v : Vector PathCtl 4) : (s.withPaths v).freeSeed = s.freeSeed := rfl
@[simp] theorem withPaths_port (s : State) (v : Vector PathCtl 4) : (s.withPaths v).port = s.port := rfl
@[simp] theorem withPaths_handler (s : State) (v : Vector PathCtl 4) : (s.withPaths v).handler = s.handler := rfl
@[simp] theorem withPaths_ref (s : State) (v : Vector PathCtl 4) : (s.withPaths v).ref = s.ref := rfl
@[simp] theorem withPaths_contacts (s : State) (v : Vector PathCtl 4) : (s.withPaths v).contacts = s.contacts := rfl
@[simp] theorem withPaths_lanes (s : State) (v : Vector PathCtl 4) : (s.withPaths v).lanes = s.lanes := rfl
@[simp] theorem withPaths_store (s : State) (v : Vector PathCtl 4) : (s.withPaths v).store = s.store := rfl
@[simp] theorem withPaths_mixer (s : State) (v : Vector PathCtl 4) : (s.withPaths v).mixer = s.mixer := rfl
@[simp] theorem withPaths_paths (s : State) (v : Vector PathCtl 4) : (s.withPaths v).paths = v := rfl
@[simp] theorem withPaths_ret (s : State) (v : Vector PathCtl 4) : (s.withPaths v).ret = s.ret := rfl
@[simp] theorem withPaths_asm (s : State) (v : Vector PathCtl 4) : (s.withPaths v).asm = s.asm := rfl
@[simp] theorem withPaths_clips (s : State) (v : Vector PathCtl 4) : (s.withPaths v).clips = s.clips := rfl
@[simp] theorem withPaths_engines (s : State) (v : Vector PathCtl 4) : (s.withPaths v).engines = s.engines := rfl
@[simp] theorem withPaths_labels (s : State) (v : Vector PathCtl 4) : (s.withPaths v).labels = s.labels := rfl
@[simp] theorem withPaths_withPaths (s : State) (v w : Vector PathCtl 4) : (s.withPaths v).withPaths w = s.withPaths w := rfl
@[simp] theorem withPaths_self (s : State) : s.withPaths s.paths = s := rfl

/-! ### withRet -/

@[simp] theorem withRet_pending (s : State) (v : ReturnReceiver) : (s.withRet v).pending = s.pending := rfl
@[simp] theorem withRet_power (s : State) (v : ReturnReceiver) : (s.withRet v).power = s.power := rfl
@[simp] theorem withRet_straps (s : State) (v : ReturnReceiver) : (s.withRet v).straps = s.straps := rfl
@[simp] theorem withRet_freeSeed (s : State) (v : ReturnReceiver) : (s.withRet v).freeSeed = s.freeSeed := rfl
@[simp] theorem withRet_port (s : State) (v : ReturnReceiver) : (s.withRet v).port = s.port := rfl
@[simp] theorem withRet_handler (s : State) (v : ReturnReceiver) : (s.withRet v).handler = s.handler := rfl
@[simp] theorem withRet_ref (s : State) (v : ReturnReceiver) : (s.withRet v).ref = s.ref := rfl
@[simp] theorem withRet_contacts (s : State) (v : ReturnReceiver) : (s.withRet v).contacts = s.contacts := rfl
@[simp] theorem withRet_lanes (s : State) (v : ReturnReceiver) : (s.withRet v).lanes = s.lanes := rfl
@[simp] theorem withRet_store (s : State) (v : ReturnReceiver) : (s.withRet v).store = s.store := rfl
@[simp] theorem withRet_mixer (s : State) (v : ReturnReceiver) : (s.withRet v).mixer = s.mixer := rfl
@[simp] theorem withRet_paths (s : State) (v : ReturnReceiver) : (s.withRet v).paths = s.paths := rfl
@[simp] theorem withRet_ret (s : State) (v : ReturnReceiver) : (s.withRet v).ret = v := rfl
@[simp] theorem withRet_asm (s : State) (v : ReturnReceiver) : (s.withRet v).asm = s.asm := rfl
@[simp] theorem withRet_clips (s : State) (v : ReturnReceiver) : (s.withRet v).clips = s.clips := rfl
@[simp] theorem withRet_engines (s : State) (v : ReturnReceiver) : (s.withRet v).engines = s.engines := rfl
@[simp] theorem withRet_labels (s : State) (v : ReturnReceiver) : (s.withRet v).labels = s.labels := rfl
@[simp] theorem withRet_withRet (s : State) (v w : ReturnReceiver) : (s.withRet v).withRet w = s.withRet w := rfl
@[simp] theorem withRet_self (s : State) : s.withRet s.ret = s := rfl

/-! ### withAsm -/

@[simp] theorem withAsm_pending (s : State) (v : Assembler) : (s.withAsm v).pending = s.pending := rfl
@[simp] theorem withAsm_power (s : State) (v : Assembler) : (s.withAsm v).power = s.power := rfl
@[simp] theorem withAsm_straps (s : State) (v : Assembler) : (s.withAsm v).straps = s.straps := rfl
@[simp] theorem withAsm_freeSeed (s : State) (v : Assembler) : (s.withAsm v).freeSeed = s.freeSeed := rfl
@[simp] theorem withAsm_port (s : State) (v : Assembler) : (s.withAsm v).port = s.port := rfl
@[simp] theorem withAsm_handler (s : State) (v : Assembler) : (s.withAsm v).handler = s.handler := rfl
@[simp] theorem withAsm_ref (s : State) (v : Assembler) : (s.withAsm v).ref = s.ref := rfl
@[simp] theorem withAsm_contacts (s : State) (v : Assembler) : (s.withAsm v).contacts = s.contacts := rfl
@[simp] theorem withAsm_lanes (s : State) (v : Assembler) : (s.withAsm v).lanes = s.lanes := rfl
@[simp] theorem withAsm_store (s : State) (v : Assembler) : (s.withAsm v).store = s.store := rfl
@[simp] theorem withAsm_mixer (s : State) (v : Assembler) : (s.withAsm v).mixer = s.mixer := rfl
@[simp] theorem withAsm_paths (s : State) (v : Assembler) : (s.withAsm v).paths = s.paths := rfl
@[simp] theorem withAsm_ret (s : State) (v : Assembler) : (s.withAsm v).ret = s.ret := rfl
@[simp] theorem withAsm_asm (s : State) (v : Assembler) : (s.withAsm v).asm = v := rfl
@[simp] theorem withAsm_clips (s : State) (v : Assembler) : (s.withAsm v).clips = s.clips := rfl
@[simp] theorem withAsm_engines (s : State) (v : Assembler) : (s.withAsm v).engines = s.engines := rfl
@[simp] theorem withAsm_labels (s : State) (v : Assembler) : (s.withAsm v).labels = s.labels := rfl
@[simp] theorem withAsm_withAsm (s : State) (v w : Assembler) : (s.withAsm v).withAsm w = s.withAsm w := rfl
@[simp] theorem withAsm_self (s : State) : s.withAsm s.asm = s := rfl

/-! ### withClips -/

@[simp] theorem withClips_pending (s : State) (v : ClipLog) : (s.withClips v).pending = s.pending := rfl
@[simp] theorem withClips_power (s : State) (v : ClipLog) : (s.withClips v).power = s.power := rfl
@[simp] theorem withClips_straps (s : State) (v : ClipLog) : (s.withClips v).straps = s.straps := rfl
@[simp] theorem withClips_freeSeed (s : State) (v : ClipLog) : (s.withClips v).freeSeed = s.freeSeed := rfl
@[simp] theorem withClips_port (s : State) (v : ClipLog) : (s.withClips v).port = s.port := rfl
@[simp] theorem withClips_handler (s : State) (v : ClipLog) : (s.withClips v).handler = s.handler := rfl
@[simp] theorem withClips_ref (s : State) (v : ClipLog) : (s.withClips v).ref = s.ref := rfl
@[simp] theorem withClips_contacts (s : State) (v : ClipLog) : (s.withClips v).contacts = s.contacts := rfl
@[simp] theorem withClips_lanes (s : State) (v : ClipLog) : (s.withClips v).lanes = s.lanes := rfl
@[simp] theorem withClips_store (s : State) (v : ClipLog) : (s.withClips v).store = s.store := rfl
@[simp] theorem withClips_mixer (s : State) (v : ClipLog) : (s.withClips v).mixer = s.mixer := rfl
@[simp] theorem withClips_paths (s : State) (v : ClipLog) : (s.withClips v).paths = s.paths := rfl
@[simp] theorem withClips_ret (s : State) (v : ClipLog) : (s.withClips v).ret = s.ret := rfl
@[simp] theorem withClips_asm (s : State) (v : ClipLog) : (s.withClips v).asm = s.asm := rfl
@[simp] theorem withClips_clips (s : State) (v : ClipLog) : (s.withClips v).clips = v := rfl
@[simp] theorem withClips_engines (s : State) (v : ClipLog) : (s.withClips v).engines = s.engines := rfl
@[simp] theorem withClips_labels (s : State) (v : ClipLog) : (s.withClips v).labels = s.labels := rfl
@[simp] theorem withClips_withClips (s : State) (v w : ClipLog) : (s.withClips v).withClips w = s.withClips w := rfl
@[simp] theorem withClips_self (s : State) : s.withClips s.clips = s := rfl

/-! ### withEngines -/

@[simp] theorem withEngines_pending (s : State) (v : Vector (Option Transfer) 2) : (s.withEngines v).pending = s.pending := rfl
@[simp] theorem withEngines_power (s : State) (v : Vector (Option Transfer) 2) : (s.withEngines v).power = s.power := rfl
@[simp] theorem withEngines_straps (s : State) (v : Vector (Option Transfer) 2) : (s.withEngines v).straps = s.straps := rfl
@[simp] theorem withEngines_freeSeed (s : State) (v : Vector (Option Transfer) 2) : (s.withEngines v).freeSeed = s.freeSeed := rfl
@[simp] theorem withEngines_port (s : State) (v : Vector (Option Transfer) 2) : (s.withEngines v).port = s.port := rfl
@[simp] theorem withEngines_handler (s : State) (v : Vector (Option Transfer) 2) : (s.withEngines v).handler = s.handler := rfl
@[simp] theorem withEngines_ref (s : State) (v : Vector (Option Transfer) 2) : (s.withEngines v).ref = s.ref := rfl
@[simp] theorem withEngines_contacts (s : State) (v : Vector (Option Transfer) 2) : (s.withEngines v).contacts = s.contacts := rfl
@[simp] theorem withEngines_lanes (s : State) (v : Vector (Option Transfer) 2) : (s.withEngines v).lanes = s.lanes := rfl
@[simp] theorem withEngines_store (s : State) (v : Vector (Option Transfer) 2) : (s.withEngines v).store = s.store := rfl
@[simp] theorem withEngines_mixer (s : State) (v : Vector (Option Transfer) 2) : (s.withEngines v).mixer = s.mixer := rfl
@[simp] theorem withEngines_paths (s : State) (v : Vector (Option Transfer) 2) : (s.withEngines v).paths = s.paths := rfl
@[simp] theorem withEngines_ret (s : State) (v : Vector (Option Transfer) 2) : (s.withEngines v).ret = s.ret := rfl
@[simp] theorem withEngines_asm (s : State) (v : Vector (Option Transfer) 2) : (s.withEngines v).asm = s.asm := rfl
@[simp] theorem withEngines_clips (s : State) (v : Vector (Option Transfer) 2) : (s.withEngines v).clips = s.clips := rfl
@[simp] theorem withEngines_engines (s : State) (v : Vector (Option Transfer) 2) : (s.withEngines v).engines = v := rfl
@[simp] theorem withEngines_labels (s : State) (v : Vector (Option Transfer) 2) : (s.withEngines v).labels = s.labels := rfl
@[simp] theorem withEngines_withEngines (s : State) (v w : Vector (Option Transfer) 2) : (s.withEngines v).withEngines w = s.withEngines w := rfl
@[simp] theorem withEngines_self (s : State) : s.withEngines s.engines = s := rfl

/-! ### withLabels -/

@[simp] theorem withLabels_pending (s : State) (v : LabelStore) : (s.withLabels v).pending = s.pending := rfl
@[simp] theorem withLabels_power (s : State) (v : LabelStore) : (s.withLabels v).power = s.power := rfl
@[simp] theorem withLabels_straps (s : State) (v : LabelStore) : (s.withLabels v).straps = s.straps := rfl
@[simp] theorem withLabels_freeSeed (s : State) (v : LabelStore) : (s.withLabels v).freeSeed = s.freeSeed := rfl
@[simp] theorem withLabels_port (s : State) (v : LabelStore) : (s.withLabels v).port = s.port := rfl
@[simp] theorem withLabels_handler (s : State) (v : LabelStore) : (s.withLabels v).handler = s.handler := rfl
@[simp] theorem withLabels_ref (s : State) (v : LabelStore) : (s.withLabels v).ref = s.ref := rfl
@[simp] theorem withLabels_contacts (s : State) (v : LabelStore) : (s.withLabels v).contacts = s.contacts := rfl
@[simp] theorem withLabels_lanes (s : State) (v : LabelStore) : (s.withLabels v).lanes = s.lanes := rfl
@[simp] theorem withLabels_store (s : State) (v : LabelStore) : (s.withLabels v).store = s.store := rfl
@[simp] theorem withLabels_mixer (s : State) (v : LabelStore) : (s.withLabels v).mixer = s.mixer := rfl
@[simp] theorem withLabels_paths (s : State) (v : LabelStore) : (s.withLabels v).paths = s.paths := rfl
@[simp] theorem withLabels_ret (s : State) (v : LabelStore) : (s.withLabels v).ret = s.ret := rfl
@[simp] theorem withLabels_asm (s : State) (v : LabelStore) : (s.withLabels v).asm = s.asm := rfl
@[simp] theorem withLabels_clips (s : State) (v : LabelStore) : (s.withLabels v).clips = s.clips := rfl
@[simp] theorem withLabels_engines (s : State) (v : LabelStore) : (s.withLabels v).engines = s.engines := rfl
@[simp] theorem withLabels_labels (s : State) (v : LabelStore) : (s.withLabels v).labels = v := rfl
@[simp] theorem withLabels_withLabels (s : State) (v w : LabelStore) : (s.withLabels v).withLabels w = s.withLabels w := rfl
@[simp] theorem withLabels_self (s : State) : s.withLabels s.labels = s := rfl

end Sys2Proof.Machine.State
end

