-- ==== Sys2Proof/Laws/Flags.lean ====
section
/-! SUPPORT. What latching an event and raising a counter change, and what they keep (R179, R181, R16). -/

namespace Sys2Proof.Machine

theorem join_eq (h : Handler) (k : EventKind) (u : Nat) :
    h.join k u = { h with flags := insertSorted flagBefore (k, u) h.flags } := rfl

@[simp] theorem join_queue (h : Handler) (k : EventKind) (u : Nat) : (h.join k u).queue = h.queue := rfl
@[simp] theorem join_stopped (h : Handler) (k : EventKind) (u : Nat) : (h.join k u).stopped = h.stopped := rfl
@[simp] theorem join_scopeRead (h : Handler) (k : EventKind) (u : Nat) : (h.join k u).scopeRead = h.scopeRead := rfl
@[simp] theorem join_scopeClip (h : Handler) (k : EventKind) (u : Nat) : (h.join k u).scopeClip = h.scopeClip := rfl
@[simp] theorem join_reserved (h : Handler) (k : EventKind) (u : Nat) : (h.join k u).reserved = h.reserved := rfl
@[simp] theorem join_mask (h : Handler) (k : EventKind) (u : Nat) : (h.join k u).mask = h.mask := rfl
@[simp] theorem join_counters (h : Handler) (k : EventKind) (u : Nat) : (h.join k u).counters = h.counters := rfl
@[simp] theorem add_queue (h : Handler) (c : Fin 40) (n : Nat) : (h.add c n).queue = h.queue := rfl
@[simp] theorem add_stopped (h : Handler) (c : Fin 40) (n : Nat) : (h.add c n).stopped = h.stopped := rfl
@[simp] theorem add_scopeRead (h : Handler) (c : Fin 40) (n : Nat) : (h.add c n).scopeRead = h.scopeRead := rfl
@[simp] theorem add_scopeClip (h : Handler) (c : Fin 40) (n : Nat) : (h.add c n).scopeClip = h.scopeClip := rfl
@[simp] theorem add_reserved (h : Handler) (c : Fin 40) (n : Nat) : (h.add c n).reserved = h.reserved := rfl
@[simp] theorem add_mask (h : Handler) (c : Fin 40) (n : Nat) : (h.add c n).mask = h.mask := rfl
@[simp] theorem add_flags (h : Handler) (c : Fin 40) (n : Nat) : (h.add c n).flags = h.flags := rfl

@[simp] theorem loseNotice_queue (h : Handler) : h.loseNotice.queue = h.queue := by
  unfold Handler.loseNotice; dsimp only; (repeat' split) <;> simp
@[simp] theorem loseNotice_stopped (h : Handler) : h.loseNotice.stopped = h.stopped := by
  unfold Handler.loseNotice; dsimp only; (repeat' split) <;> simp
@[simp] theorem loseNotice_scopeRead (h : Handler) : h.loseNotice.scopeRead = h.scopeRead := by
  unfold Handler.loseNotice; dsimp only; (repeat' split) <;> simp
@[simp] theorem loseNotice_scopeClip (h : Handler) : h.loseNotice.scopeClip = h.scopeClip := by
  unfold Handler.loseNotice; dsimp only; (repeat' split) <;> simp
@[simp] theorem loseNotice_reserved (h : Handler) : h.loseNotice.reserved = h.reserved := by
  unfold Handler.loseNotice; dsimp only; (repeat' split) <;> simp
@[simp] theorem loseNotice_mask (h : Handler) : h.loseNotice.mask = h.mask := by
  unfold Handler.loseNotice; dsimp only; (repeat' split) <;> simp

/-- What latching a pair does: nothing when it is latched; else the pair joins, and, unless the kind is masked, a notice
goes to the egress queue, or is lost at a full one (R179, R16). -/
theorem latchPair_cases (k : EventKind) (u : Nat) (t : Word) (h : Handler) (p : FabricPort) :
    (h.flags.contains (k, u) = true ∧ latchPair k u t h p = (h, p)) ∨
    (h.flags.contains (k, u) = false ∧ h.masked k = true ∧ latchPair k u t h p = (h.join k u, p)) ∨
    (h.flags.contains (k, u) = false ∧ h.masked k = false ∧ p.egress.length < 32 ∧
      latchPair k u t h p = (h.join k u, { p with egress := p.egress ++ [.notice k u t] })) ∨
    (h.flags.contains (k, u) = false ∧ h.masked k = false ∧ 32 ≤ p.egress.length ∧
      latchPair k u t h p = ((h.join k u).loseNotice, p)) := by
  have hm : (h.join k u).masked k = h.masked k := rfl
  unfold latchPair
  cases hf : h.flags.contains (k, u)
  · cases hk : h.masked k
    · by_cases he : p.egress.length < 32
      · simp [hm, hk, he]
      · simp [hm, hk, he]; omega
    · simp [hm, hk]
  · simp

/-- What raising a counter does: the counter rises, and COUNTER_HALF is latched where it passes 2^31 (R181). -/
theorem bumpPair_eq (c : Fin 40) (n : Nat) (t : Word) (h : Handler) (p : FabricPort) :
    bumpPair c n t h p =
      if h.crosses c n then latchPair .counterHalf c.val t (h.add c n) p else (h.add c n, p) := rfl

@[simp] theorem latchPair_queue (k : EventKind) (u : Nat) (t : Word) (h : Handler) (p : FabricPort) :
    (latchPair k u t h p).1.queue = h.queue := by
  unfold latchPair; dsimp only; (repeat' split) <;> simp
@[simp] theorem latchPair_stopped (k : EventKind) (u : Nat) (t : Word) (h : Handler) (p : FabricPort) :
    (latchPair k u t h p).1.stopped = h.stopped := by
  unfold latchPair; dsimp only; (repeat' split) <;> simp
@[simp] theorem latchPair_scopeRead (k : EventKind) (u : Nat) (t : Word) (h : Handler) (p : FabricPort) :
    (latchPair k u t h p).1.scopeRead = h.scopeRead := by
  unfold latchPair; dsimp only; (repeat' split) <;> simp
@[simp] theorem latchPair_scopeClip (k : EventKind) (u : Nat) (t : Word) (h : Handler) (p : FabricPort) :
    (latchPair k u t h p).1.scopeClip = h.scopeClip := by
  unfold latchPair; dsimp only; (repeat' split) <;> simp
@[simp] theorem latchPair_reserved (k : EventKind) (u : Nat) (t : Word) (h : Handler) (p : FabricPort) :
    (latchPair k u t h p).1.reserved = h.reserved := by
  unfold latchPair; dsimp only; (repeat' split) <;> simp
@[simp] theorem latchPair_mask (k : EventKind) (u : Nat) (t : Word) (h : Handler) (p : FabricPort) :
    (latchPair k u t h p).1.mask = h.mask := by
  unfold latchPair; dsimp only; (repeat' split) <;> simp
@[simp] theorem latchPair_video (k : EventKind) (u : Nat) (t : Word) (h : Handler) (p : FabricPort) :
    (latchPair k u t h p).2.video = p.video := by
  unfold latchPair; dsimp only; (repeat' split) <;> simp
@[simp] theorem latchPair_audio (k : EventKind) (u : Nat) (t : Word) (h : Handler) (p : FabricPort) :
    (latchPair k u t h p).2.audio = p.audio := by
  unfold latchPair; dsimp only; (repeat' split) <;> simp
@[simp] theorem latchPair_mgmt (k : EventKind) (u : Nat) (t : Word) (h : Handler) (p : FabricPort) :
    (latchPair k u t h p).2.mgmt = p.mgmt := by
  unfold latchPair; dsimp only; (repeat' split) <;> simp
@[simp] theorem latchPair_bus (k : EventKind) (u : Nat) (t : Word) (h : Handler) (p : FabricPort) :
    (latchPair k u t h p).2.bus = p.bus := by
  unfold latchPair; dsimp only; (repeat' split) <;> simp
@[simp] theorem latchPair_busSeq (k : EventKind) (u : Nat) (t : Word) (h : Handler) (p : FabricPort) :
    (latchPair k u t h p).2.busSeq = p.busSeq := by
  unfold latchPair; dsimp only; (repeat' split) <;> simp
@[simp] theorem latchPair_mgmtSeq (k : EventKind) (u : Nat) (t : Word) (h : Handler) (p : FabricPort) :
    (latchPair k u t h p).2.mgmtSeq = p.mgmtSeq := by
  unfold latchPair; dsimp only; (repeat' split) <;> simp
@[simp] theorem latchPair_held (k : EventKind) (u : Nat) (t : Word) (h : Handler) (p : FabricPort) :
    (latchPair k u t h p).2.held = p.held := by
  unfold latchPair; dsimp only; (repeat' split) <;> simp
@[simp] theorem latchPair_station (k : EventKind) (u : Nat) (t : Word) (h : Handler) (p : FabricPort) :
    (latchPair k u t h p).2.station = p.station := by
  unfold latchPair; dsimp only; (repeat' split) <;> simp
@[simp] theorem latchPair_sent (k : EventKind) (u : Nat) (t : Word) (h : Handler) (p : FabricPort) :
    (latchPair k u t h p).2.sent = p.sent := by
  unfold latchPair; dsimp only; (repeat' split) <;> simp
@[simp] theorem bumpPair_queue (c : Fin 40) (n : Nat) (t : Word) (h : Handler) (p : FabricPort) :
    (bumpPair c n t h p).1.queue = h.queue := by
  unfold bumpPair; split <;> simp
@[simp] theorem bumpPair_stopped (c : Fin 40) (n : Nat) (t : Word) (h : Handler) (p : FabricPort) :
    (bumpPair c n t h p).1.stopped = h.stopped := by
  unfold bumpPair; split <;> simp
@[simp] theorem bumpPair_scopeRead (c : Fin 40) (n : Nat) (t : Word) (h : Handler) (p : FabricPort) :
    (bumpPair c n t h p).1.scopeRead = h.scopeRead := by
  unfold bumpPair; split <;> simp
@[simp] theorem bumpPair_scopeClip (c : Fin 40) (n : Nat) (t : Word) (h : Handler) (p : FabricPort) :
    (bumpPair c n t h p).1.scopeClip = h.scopeClip := by
  unfold bumpPair; split <;> simp
@[simp] theorem bumpPair_reserved (c : Fin 40) (n : Nat) (t : Word) (h : Handler) (p : FabricPort) :
    (bumpPair c n t h p).1.reserved = h.reserved := by
  unfold bumpPair; split <;> simp
@[simp] theorem bumpPair_mask (c : Fin 40) (n : Nat) (t : Word) (h : Handler) (p : FabricPort) :
    (bumpPair c n t h p).1.mask = h.mask := by
  unfold bumpPair; split <;> simp
@[simp] theorem bumpPair_video (c : Fin 40) (n : Nat) (t : Word) (h : Handler) (p : FabricPort) :
    (bumpPair c n t h p).2.video = p.video := by
  unfold bumpPair; split <;> simp
@[simp] theorem bumpPair_audio (c : Fin 40) (n : Nat) (t : Word) (h : Handler) (p : FabricPort) :
    (bumpPair c n t h p).2.audio = p.audio := by
  unfold bumpPair; split <;> simp
@[simp] theorem bumpPair_mgmt (c : Fin 40) (n : Nat) (t : Word) (h : Handler) (p : FabricPort) :
    (bumpPair c n t h p).2.mgmt = p.mgmt := by
  unfold bumpPair; split <;> simp
@[simp] theorem bumpPair_bus (c : Fin 40) (n : Nat) (t : Word) (h : Handler) (p : FabricPort) :
    (bumpPair c n t h p).2.bus = p.bus := by
  unfold bumpPair; split <;> simp
@[simp] theorem bumpPair_busSeq (c : Fin 40) (n : Nat) (t : Word) (h : Handler) (p : FabricPort) :
    (bumpPair c n t h p).2.busSeq = p.busSeq := by
  unfold bumpPair; split <;> simp
@[simp] theorem bumpPair_mgmtSeq (c : Fin 40) (n : Nat) (t : Word) (h : Handler) (p : FabricPort) :
    (bumpPair c n t h p).2.mgmtSeq = p.mgmtSeq := by
  unfold bumpPair; split <;> simp
@[simp] theorem bumpPair_held (c : Fin 40) (n : Nat) (t : Word) (h : Handler) (p : FabricPort) :
    (bumpPair c n t h p).2.held = p.held := by
  unfold bumpPair; split <;> simp
@[simp] theorem bumpPair_station (c : Fin 40) (n : Nat) (t : Word) (h : Handler) (p : FabricPort) :
    (bumpPair c n t h p).2.station = p.station := by
  unfold bumpPair; split <;> simp
@[simp] theorem bumpPair_sent (c : Fin 40) (n : Nat) (t : Word) (h : Handler) (p : FabricPort) :
    (bumpPair c n t h p).2.sent = p.sent := by
  unfold bumpPair; split <;> simp

namespace State

@[simp] theorem latch_pending (s : State) (k : EventKind) (u : Nat) : (s.latch k u).pending = s.pending := rfl
@[simp] theorem latch_power (s : State) (k : EventKind) (u : Nat) : (s.latch k u).power = s.power := rfl
@[simp] theorem latch_straps (s : State) (k : EventKind) (u : Nat) : (s.latch k u).straps = s.straps := rfl
@[simp] theorem latch_freeSeed (s : State) (k : EventKind) (u : Nat) : (s.latch k u).freeSeed = s.freeSeed := rfl
@[simp] theorem latch_ref (s : State) (k : EventKind) (u : Nat) : (s.latch k u).ref = s.ref := rfl
@[simp] theorem latch_contacts (s : State) (k : EventKind) (u : Nat) : (s.latch k u).contacts = s.contacts := rfl
@[simp] theorem latch_lanes (s : State) (k : EventKind) (u : Nat) : (s.latch k u).lanes = s.lanes := rfl
@[simp] theorem latch_store (s : State) (k : EventKind) (u : Nat) : (s.latch k u).store = s.store := rfl
@[simp] theorem latch_mixer (s : State) (k : EventKind) (u : Nat) : (s.latch k u).mixer = s.mixer := rfl
@[simp] theorem latch_paths (s : State) (k : EventKind) (u : Nat) : (s.latch k u).paths = s.paths := rfl
@[simp] theorem latch_ret (s : State) (k : EventKind) (u : Nat) : (s.latch k u).ret = s.ret := rfl
@[simp] theorem latch_asm (s : State) (k : EventKind) (u : Nat) : (s.latch k u).asm = s.asm := rfl
@[simp] theorem latch_clips (s : State) (k : EventKind) (u : Nat) : (s.latch k u).clips = s.clips := rfl
@[simp] theorem latch_engines (s : State) (k : EventKind) (u : Nat) : (s.latch k u).engines = s.engines := rfl
@[simp] theorem latch_labels (s : State) (k : EventKind) (u : Nat) : (s.latch k u).labels = s.labels := rfl
@[simp] theorem latch_handler_queue (s : State) (k : EventKind) (u : Nat) : (s.latch k u).handler.queue = s.handler.queue := by
  simp [State.latch]
@[simp] theorem latch_handler_stopped (s : State) (k : EventKind) (u : Nat) : (s.latch k u).handler.stopped = s.handler.stopped := by
  simp [State.latch]
@[simp] theorem latch_handler_scopeRead (s : State) (k : EventKind) (u : Nat) : (s.latch k u).handler.scopeRead = s.handler.scopeRead := by
  simp [State.latch]
@[simp] theorem latch_handler_scopeClip (s : State) (k : EventKind) (u : Nat) : (s.latch k u).handler.scopeClip = s.handler.scopeClip := by
  simp [State.latch]
@[simp] theorem latch_handler_reserved (s : State) (k : EventKind) (u : Nat) : (s.latch k u).handler.reserved = s.handler.reserved := by
  simp [State.latch]
@[simp] theorem latch_handler_mask (s : State) (k : EventKind) (u : Nat) : (s.latch k u).handler.mask = s.handler.mask := by
  simp [State.latch]
@[simp] theorem latch_port_video (s : State) (k : EventKind) (u : Nat) : (s.latch k u).port.video = s.port.video := by
  simp [State.latch]
@[simp] theorem latch_port_audio (s : State) (k : EventKind) (u : Nat) : (s.latch k u).port.audio = s.port.audio := by
  simp [State.latch]
@[simp] theorem latch_port_mgmt (s : State) (k : EventKind) (u : Nat) : (s.latch k u).port.mgmt = s.port.mgmt := by
  simp [State.latch]
@[simp] theorem latch_port_bus (s : State) (k : EventKind) (u : Nat) : (s.latch k u).port.bus = s.port.bus := by
  simp [State.latch]
@[simp] theorem latch_port_busSeq (s : State) (k : EventKind) (u : Nat) : (s.latch k u).port.busSeq = s.port.busSeq := by
  simp [State.latch]
@[simp] theorem latch_port_mgmtSeq (s : State) (k : EventKind) (u : Nat) : (s.latch k u).port.mgmtSeq = s.port.mgmtSeq := by
  simp [State.latch]
@[simp] theorem latch_port_held (s : State) (k : EventKind) (u : Nat) : (s.latch k u).port.held = s.port.held := by
  simp [State.latch]
@[simp] theorem latch_port_station (s : State) (k : EventKind) (u : Nat) : (s.latch k u).port.station = s.port.station := by
  simp [State.latch]
@[simp] theorem latch_port_sent (s : State) (k : EventKind) (u : Nat) : (s.latch k u).port.sent = s.port.sent := by
  simp [State.latch]

@[simp] theorem bump_pending (s : State) (c : Fin 40) (n : Nat) : (s.bump c n).pending = s.pending := rfl
@[simp] theorem bump_power (s : State) (c : Fin 40) (n : Nat) : (s.bump c n).power = s.power := rfl
@[simp] theorem bump_straps (s : State) (c : Fin 40) (n : Nat) : (s.bump c n).straps = s.straps := rfl
@[simp] theorem bump_freeSeed (s : State) (c : Fin 40) (n : Nat) : (s.bump c n).freeSeed = s.freeSeed := rfl
@[simp] theorem bump_ref (s : State) (c : Fin 40) (n : Nat) : (s.bump c n).ref = s.ref := rfl
@[simp] theorem bump_contacts (s : State) (c : Fin 40) (n : Nat) : (s.bump c n).contacts = s.contacts := rfl
@[simp] theorem bump_lanes (s : State) (c : Fin 40) (n : Nat) : (s.bump c n).lanes = s.lanes := rfl
@[simp] theorem bump_store (s : State) (c : Fin 40) (n : Nat) : (s.bump c n).store = s.store := rfl
@[simp] theorem bump_mixer (s : State) (c : Fin 40) (n : Nat) : (s.bump c n).mixer = s.mixer := rfl
@[simp] theorem bump_paths (s : State) (c : Fin 40) (n : Nat) : (s.bump c n).paths = s.paths := rfl
@[simp] theorem bump_ret (s : State) (c : Fin 40) (n : Nat) : (s.bump c n).ret = s.ret := rfl
@[simp] theorem bump_asm (s : State) (c : Fin 40) (n : Nat) : (s.bump c n).asm = s.asm := rfl
@[simp] theorem bump_clips (s : State) (c : Fin 40) (n : Nat) : (s.bump c n).clips = s.clips := rfl
@[simp] theorem bump_engines (s : State) (c : Fin 40) (n : Nat) : (s.bump c n).engines = s.engines := rfl
@[simp] theorem bump_labels (s : State) (c : Fin 40) (n : Nat) : (s.bump c n).labels = s.labels := rfl
@[simp] theorem bump_handler_queue (s : State) (c : Fin 40) (n : Nat) : (s.bump c n).handler.queue = s.handler.queue := by
  simp [State.bump]
@[simp] theorem bump_handler_stopped (s : State) (c : Fin 40) (n : Nat) : (s.bump c n).handler.stopped = s.handler.stopped := by
  simp [State.bump]
@[simp] theorem bump_handler_scopeRead (s : State) (c : Fin 40) (n : Nat) : (s.bump c n).handler.scopeRead = s.handler.scopeRead := by
  simp [State.bump]
@[simp] theorem bump_handler_scopeClip (s : State) (c : Fin 40) (n : Nat) : (s.bump c n).handler.scopeClip = s.handler.scopeClip := by
  simp [State.bump]
@[simp] theorem bump_handler_reserved (s : State) (c : Fin 40) (n : Nat) : (s.bump c n).handler.reserved = s.handler.reserved := by
  simp [State.bump]
@[simp] theorem bump_handler_mask (s : State) (c : Fin 40) (n : Nat) : (s.bump c n).handler.mask = s.handler.mask := by
  simp [State.bump]
@[simp] theorem bump_port_video (s : State) (c : Fin 40) (n : Nat) : (s.bump c n).port.video = s.port.video := by
  simp [State.bump]
@[simp] theorem bump_port_audio (s : State) (c : Fin 40) (n : Nat) : (s.bump c n).port.audio = s.port.audio := by
  simp [State.bump]
@[simp] theorem bump_port_mgmt (s : State) (c : Fin 40) (n : Nat) : (s.bump c n).port.mgmt = s.port.mgmt := by
  simp [State.bump]
@[simp] theorem bump_port_bus (s : State) (c : Fin 40) (n : Nat) : (s.bump c n).port.bus = s.port.bus := by
  simp [State.bump]
@[simp] theorem bump_port_busSeq (s : State) (c : Fin 40) (n : Nat) : (s.bump c n).port.busSeq = s.port.busSeq := by
  simp [State.bump]
@[simp] theorem bump_port_mgmtSeq (s : State) (c : Fin 40) (n : Nat) : (s.bump c n).port.mgmtSeq = s.port.mgmtSeq := by
  simp [State.bump]
@[simp] theorem bump_port_held (s : State) (c : Fin 40) (n : Nat) : (s.bump c n).port.held = s.port.held := by
  simp [State.bump]
@[simp] theorem bump_port_station (s : State) (c : Fin 40) (n : Nat) : (s.bump c n).port.station = s.port.station := by
  simp [State.bump]
@[simp] theorem bump_port_sent (s : State) (c : Fin 40) (n : Nat) : (s.bump c n).port.sent = s.port.sent := by
  simp [State.bump]

@[simp] theorem count_pending (s : State) (c : Fin 40) (k : EventKind) (u : Nat) : (s.count c k u).pending = s.pending := rfl
@[simp] theorem count_power (s : State) (c : Fin 40) (k : EventKind) (u : Nat) : (s.count c k u).power = s.power := rfl
@[simp] theorem count_straps (s : State) (c : Fin 40) (k : EventKind) (u : Nat) : (s.count c k u).straps = s.straps := rfl
@[simp] theorem count_freeSeed (s : State) (c : Fin 40) (k : EventKind) (u : Nat) : (s.count c k u).freeSeed = s.freeSeed := rfl
@[simp] theorem count_ref (s : State) (c : Fin 40) (k : EventKind) (u : Nat) : (s.count c k u).ref = s.ref := rfl
@[simp] theorem count_contacts (s : State) (c : Fin 40) (k : EventKind) (u : Nat) : (s.count c k u).contacts = s.contacts := rfl
@[simp] theorem count_lanes (s : State) (c : Fin 40) (k : EventKind) (u : Nat) : (s.count c k u).lanes = s.lanes := rfl
@[simp] theorem count_store (s : State) (c : Fin 40) (k : EventKind) (u : Nat) : (s.count c k u).store = s.store := rfl
@[simp] theorem count_mixer (s : State) (c : Fin 40) (k : EventKind) (u : Nat) : (s.count c k u).mixer = s.mixer := rfl
@[simp] theorem count_paths (s : State) (c : Fin 40) (k : EventKind) (u : Nat) : (s.count c k u).paths = s.paths := rfl
@[simp] theorem count_ret (s : State) (c : Fin 40) (k : EventKind) (u : Nat) : (s.count c k u).ret = s.ret := rfl
@[simp] theorem count_asm (s : State) (c : Fin 40) (k : EventKind) (u : Nat) : (s.count c k u).asm = s.asm := rfl
@[simp] theorem count_clips (s : State) (c : Fin 40) (k : EventKind) (u : Nat) : (s.count c k u).clips = s.clips := rfl
@[simp] theorem count_engines (s : State) (c : Fin 40) (k : EventKind) (u : Nat) : (s.count c k u).engines = s.engines := rfl
@[simp] theorem count_labels (s : State) (c : Fin 40) (k : EventKind) (u : Nat) : (s.count c k u).labels = s.labels := rfl
@[simp] theorem count_handler_queue (s : State) (c : Fin 40) (k : EventKind) (u : Nat) : (s.count c k u).handler.queue = s.handler.queue := by
  simp [State.count]
@[simp] theorem count_handler_stopped (s : State) (c : Fin 40) (k : EventKind) (u : Nat) : (s.count c k u).handler.stopped = s.handler.stopped := by
  simp [State.count]
@[simp] theorem count_handler_scopeRead (s : State) (c : Fin 40) (k : EventKind) (u : Nat) : (s.count c k u).handler.scopeRead = s.handler.scopeRead := by
  simp [State.count]
@[simp] theorem count_handler_scopeClip (s : State) (c : Fin 40) (k : EventKind) (u : Nat) : (s.count c k u).handler.scopeClip = s.handler.scopeClip := by
  simp [State.count]
@[simp] theorem count_handler_reserved (s : State) (c : Fin 40) (k : EventKind) (u : Nat) : (s.count c k u).handler.reserved = s.handler.reserved := by
  simp [State.count]
@[simp] theorem count_handler_mask (s : State) (c : Fin 40) (k : EventKind) (u : Nat) : (s.count c k u).handler.mask = s.handler.mask := by
  simp [State.count]
@[simp] theorem count_port_video (s : State) (c : Fin 40) (k : EventKind) (u : Nat) : (s.count c k u).port.video = s.port.video := by
  simp [State.count]
@[simp] theorem count_port_audio (s : State) (c : Fin 40) (k : EventKind) (u : Nat) : (s.count c k u).port.audio = s.port.audio := by
  simp [State.count]
@[simp] theorem count_port_mgmt (s : State) (c : Fin 40) (k : EventKind) (u : Nat) : (s.count c k u).port.mgmt = s.port.mgmt := by
  simp [State.count]
@[simp] theorem count_port_bus (s : State) (c : Fin 40) (k : EventKind) (u : Nat) : (s.count c k u).port.bus = s.port.bus := by
  simp [State.count]
@[simp] theorem count_port_busSeq (s : State) (c : Fin 40) (k : EventKind) (u : Nat) : (s.count c k u).port.busSeq = s.port.busSeq := by
  simp [State.count]
@[simp] theorem count_port_mgmtSeq (s : State) (c : Fin 40) (k : EventKind) (u : Nat) : (s.count c k u).port.mgmtSeq = s.port.mgmtSeq := by
  simp [State.count]
@[simp] theorem count_port_held (s : State) (c : Fin 40) (k : EventKind) (u : Nat) : (s.count c k u).port.held = s.port.held := by
  simp [State.count]
@[simp] theorem count_port_station (s : State) (c : Fin 40) (k : EventKind) (u : Nat) : (s.count c k u).port.station = s.port.station := by
  simp [State.count]
@[simp] theorem count_port_sent (s : State) (c : Fin 40) (k : EventKind) (u : Nat) : (s.count c k u).port.sent = s.port.sent := by
  simp [State.count]

end State

end Sys2Proof.Machine
end

