-- ==== Sys2Proof/Laws/Ops.lean ====
section
/-! SUPPORT. What the taking of a directive does, said once (R175 to R178): every directive's meaning is one of these
cases over its owner's act. -/

namespace Sys2Proof.Machine

theorem live_on {s : State} {f : State → State} (h : s.power = true) : live s f = .next (f s) := by simp [live, h]

theorem live_off {s : State} {f : State → State} (h : s.power = false) : live s f = .next s := by simp [live, h]

theorem atHand_power {q : QueuedDirective} {s : State} (h : atHand q s = true) : s.power = true := by
  simp [atHand] at h; exact h.1.1

/-- A directive at hand is acted on and answered as a whole (R176). -/
theorem takeFront_atHand {q : QueuedDirective} {act : State → Answer} {s : State} (h : atHand q s = true) :
    takeFront q act s = respond q.body.side ⟨q.name, q.body.tag, (act (inHand q s)).result, (act (inHand q s)).report⟩
      (act (inHand q s)).state := by
  simp only [atHand, Bool.and_eq_true, decide_eq_true_eq] at h
  simp [takeFront, inHand, h.1.2, h.2]

/-- A directive that is not at hand has arrived, and waits (R176). -/
theorem takeFront_waits {q : QueuedDirective} {act : State → Answer} {s : State} (hp : s.power = true)
    (h : atHand q s = false) : takeFront q act s = present q s := by
  simp only [atHand, hp, Bool.true_and] at h
  simp only [takeFront]
  rw [if_neg]
  simp [h]

/-- A directive that reaches its owner gets the owner's answer (R175 check 5). -/
theorem takeDirective_owner {n : DirName} {d : Directive} {owner : List Word → State → Answer} {s : State}
    (h : reachesOwner n d s = true) :
    takeDirective n d owner s =
      answered n d (owner d.words (inHand ⟨dirWord n, d⟩ s)).result (owner d.words (inHand ⟨dirWord n, d⟩ s)).report
        (owner d.words (inHand ⟨dirWord n, d⟩ s)).state := by
  simp only [reachesOwner, Bool.and_eq_true, Option.isNone_iff_eq_none] at h
  have ha : answer n d owner (inHand ⟨dirWord n, d⟩ s) = owner d.words (inHand ⟨dirWord n, d⟩ s) := by
    simp [answer, h.2]
  rw [takeDirective, takeFront_atHand h.1, ha]; rfl

/-- A directive that fails a check before the owner's is refused and changes nothing (R175 checks 2 to 4). -/
theorem takeDirective_refused {n : DirName} {d : Directive} {owner : List Word → State → Answer} {s : State} {r : Result}
    (h : atHand ⟨dirWord n, d⟩ s = true) (hv : vet n d (inHand ⟨dirWord n, d⟩ s) = some r) :
    takeDirective n d owner s = answered n d r .empty (inHand ⟨dirWord n, d⟩ s) := by
  have ha : answer n d owner (inHand ⟨dirWord n, d⟩ s) = refuse (inHand ⟨dirWord n, d⟩ s) r := by simp [answer, hv]
  rw [takeDirective, takeFront_atHand h, ha]; rfl

theorem reachesOwner_atHand {n : DirName} {d : Directive} {s : State} (h : reachesOwner n d s = true) :
    atHand ⟨dirWord n, d⟩ s = true := by simp [reachesOwner] at h; exact h.1

theorem reachesOwner_power {n : DirName} {d : Directive} {s : State} (h : reachesOwner n d s = true) : s.power = true :=
  atHand_power (reachesOwner_atHand h)

/-- The command of a directive that reaches its owner (R175 to R177). -/
theorem live_reaches {n : DirName} {d : Directive} {owner : List Word → State → Answer} {s u : State}
    (h : reaches n d s u) : live s (takeDirective n d owner) =
      .next (answered n d (owner d.words u).result (owner d.words u).report (owner d.words u).state) := by
  obtain ⟨h, rfl⟩ := h
  rw [live_on (reachesOwner_power h), takeDirective_owner h]; rfl

/-- The same where the command may mark a clip, so that the label writer looks for work after it. -/
theorem live_reaches_kick {n : DirName} {d : Directive} {owner : List Word → State → Answer} {s u : State}
    (h : reaches n d s u) : live s (fun s => kick (takeDirective n d owner s)) =
      .next (kick (answered n d (owner d.words u).result (owner d.words u).report (owner d.words u).state)) := by
  obtain ⟨h, rfl⟩ := h
  rw [live_on (reachesOwner_power h), takeDirective_owner h]; rfl

/-- A writer that is writing, or a store that is not ready, begins nothing. -/
theorem kick_busy {s : State} (h : writerBusy s.labels = true) : kick s = s := by
  simp only [writerBusy, Bool.or_eq_true, Bool.not_eq_true'] at h
  rcases h with h | h
  · simp [kick, h]
  · cases hw : s.labels.writing with
    | none => simp [hw] at h
    | some w =>
      have hc : serveCompaction s = s := by simp [serveCompaction, hw]
      have hd : serveDirty 514 s = s := by simp [serveDirty, hw]
      have he : serveErase s = s := by simp [serveErase, hw]
      simp [kick, hc, hd, he]

/-- The commands whose meaning is not one act of a machine with power: POWER_ON, the ends of the pins' levels, and the two
that can fault. -/
def standsApart : Instr → Prop
  | .powerOn _ | .contactRawChange _ _ | .carrierPresent _ | .carrierLost _ | .sliceCoded _ _
  | .unknownDirective _ _ => True
  | _ => False

/-- Every other command is one act of a machine with power, and nothing without. -/
theorem exec_live (c : Instr) (h : ¬ standsApart c) : ∃ f, ∀ s, exec c s = live s f := by
  cases c <;> first
    | exact absurd trivial h
    | exact ⟨_, fun s => by simp only [exec]; rfl⟩

end Sys2Proof.Machine
end

