-- ==== Sys2Proof/Laws/Calm.lean ====
section
/-! SUPPORT. What the blocks' own acts leave alone, said once. An act that is `Calm` takes no directive and offers no
response: the handler's queue and its reserved places, the held response and the control list stay; the egress queue only
gains notices while it has room (R179); and the two memories keep their canonical form. One lemma for each act over a
calm prefix. -/

namespace Sys2Proof.Machine

/-- From `s` to `t` no directive was taken and no response offered. -/
structure Calm (s t : State) : Prop where
  pending : t.pending = s.pending
  power : t.power = s.power
  queue : t.handler.queue = s.handler.queue
  reserved : t.handler.reserved = s.handler.reserved
  held : t.port.held = s.port.held
  control : t.asm.control = s.asm.control
  room : s.port.egress.length ≤ 32 → t.port.egress.length ≤ 32
  full : 32 ≤ s.port.egress.length → 32 ≤ t.port.egress.length
  mem : canonicalMemories s = true → canonicalMemories t = true

variable {s t : State}

theorem Calm.refl' (s : State) : Calm s s := ⟨rfl, rfl, rfl, rfl, rfl, rfl, id, id, id⟩

theorem Calm.trans' {a b c : State} (h : Calm a b) (g : Calm b c) : Calm a c :=
  ⟨g.pending.trans h.pending, g.power.trans h.power, g.queue.trans h.queue, g.reserved.trans h.reserved,
   g.held.trans h.held, g.control.trans h.control, g.room ∘ h.room, g.full ∘ h.full, g.mem ∘ h.mem⟩

theorem calm_refl : Calm s s := Calm.refl' s

theorem calm_same (h : Calm s t) {u : State} (h1 : u.pending = t.pending) (h2 : u.power = t.power)
   (h3 : u.handler = t.handler) (h4 : u.port.held = t.port.held) (h4' : u.port.egress = t.port.egress) (h5 : u.asm.control = t.asm.control)
   (h6 : u.store.dram = t.store.dram) (h7 : u.labels.mem = t.labels.mem) : Calm s u := by
  refine h.trans' ⟨h1, h2, by rw [h3], by rw [h3], h4, h5, by rw [h4']; exact id, by rw [h4']; exact id, ?_⟩
  simp [canonicalMemories, h6, h7]

theorem calm_withRef (h : Calm s t) (v) : Calm s (t.withRef v) := calm_same h rfl rfl rfl rfl rfl rfl rfl rfl
theorem calm_withContacts (h : Calm s t) (v) : Calm s (t.withContacts v) :=
  calm_same h rfl rfl rfl rfl rfl rfl rfl rfl
theorem calm_withLanes (h : Calm s t) (v) : Calm s (t.withLanes v) :=
  calm_same h rfl rfl rfl rfl rfl rfl rfl rfl
theorem calm_withMixer (h : Calm s t) (v) : Calm s (t.withMixer v) :=
  calm_same h rfl rfl rfl rfl rfl rfl rfl rfl
theorem calm_withPaths (h : Calm s t) (v) : Calm s (t.withPaths v) :=
  calm_same h rfl rfl rfl rfl rfl rfl rfl rfl
theorem calm_withRet (h : Calm s t) (v) : Calm s (t.withRet v) := calm_same h rfl rfl rfl rfl rfl rfl rfl rfl
theorem calm_withClips (h : Calm s t) (v) : Calm s (t.withClips v) :=
  calm_same h rfl rfl rfl rfl rfl rfl rfl rfl
theorem calm_withEngines (h : Calm s t) (v) : Calm s (t.withEngines v) :=
  calm_same h rfl rfl rfl rfl rfl rfl rfl rfl
theorem calm_withSeed (h : Calm s t) (v) : Calm s (t.withSeed v) :=
  calm_same h rfl rfl rfl rfl rfl rfl rfl rfl
theorem calm_withStore (h : Calm s t) {v} (hv : v.dram = t.store.dram) : Calm s (t.withStore v) :=
  calm_same h rfl rfl rfl rfl rfl rfl hv rfl
theorem calm_withLabels (h : Calm s t) {v} (hv : v.mem = t.labels.mem) : Calm s (t.withLabels v) :=
  calm_same h rfl rfl rfl rfl rfl rfl rfl hv
theorem calm_withAsm (h : Calm s t) {v} (hv : v.control = t.asm.control) : Calm s (t.withAsm v) :=
  calm_same h rfl rfl rfl rfl rfl hv rfl rfl
theorem calm_withPort (h : Calm s t) {v} (hv : v.held = t.port.held) (hv2 : v.egress = t.port.egress) : Calm s (t.withPort v) :=
  calm_same h rfl rfl rfl hv hv2 rfl rfl rfl

theorem calm_latch (h : Calm s t) (k u) : Calm s (t.latch k u) := by
  refine h.trans' ⟨rfl, rfl, by simp, by simp, by simp, by simp, ?_, ?_, by simp [canonicalMemories]⟩
  all_goals
    rcases latchPair_cases k u t.ref.tick t.handler t.port with ⟨_, e⟩ | ⟨_, _, e⟩ | ⟨_, _, _, e⟩ | ⟨_, _, _, e⟩ <;>
      (simp [State.latch, e]; try omega)

theorem calm_bump (h : Calm s t) (c n) : Calm s (t.bump c n) := by
  have : t.bump c n = if t.handler.crosses c n then (t.withHandler (t.handler.add c n)).latch .counterHalf c.val else t.withHandler (t.handler.add c n) := by
    unfold State.bump; rw [bumpPair_eq]; split <;> rfl
  rw [this]
  have h0 : Calm s (t.withHandler (t.handler.add c n)) := h.trans' ⟨rfl, rfl, rfl, rfl, rfl, rfl, id, id, id⟩
  split
  · exact calm_latch h0 _ _
  · exact h0
theorem calm_count (h : Calm s t) (c k u) : Calm s (t.count c k u) := calm_latch (calm_bump h _ _) _ _

theorem calm_setLane (h : Calm s t) (l v) : Calm s (t.setLane l v) := calm_withLanes h _
theorem calm_modLane (h : Calm s t) (l f) : Calm s (t.modLane l f) := calm_withLanes h _
theorem calm_modRate (h : Calm s t) (l f) : Calm s (t.modRate l f) := calm_withLanes h _
theorem calm_setVideo (h : Calm s t) (l v) : Calm s (t.setVideo l v) := calm_withPort h rfl rfl
theorem calm_setAudio (h : Calm s t) (l v) : Calm s (t.setAudio l v) := calm_withPort h rfl rfl
theorem calm_setPath (h : Calm s t) (l v) : Calm s (t.setPath l v) := calm_withPaths h _
theorem calm_modPath (h : Calm s t) (l f) : Calm s (t.modPath l f) := calm_withPaths h _
theorem calm_setContact (h : Calm s t) (l v) : Calm s (t.setContact l v) := calm_withContacts h _
theorem calm_requestKey (h : Calm s t) (l) : Calm s (t.requestKey l) := calm_withLanes h _
theorem calm_advanceTo (h : Calm s t) (n) : Calm s (t.advanceTo n) := calm_withRef h _

theorem calm_ite (c : Prop) [Decidable c] {a b : State} (ha : Calm s a) (hb : Calm s b) : Calm s (if c then a else b) := by
  split; exact ha; exact hb

/-! ## The coded store -/

@[simp] theorem dram_setLive (st l t v) : (setLive st l t v).dram = st.dram := rfl
@[simp] theorem dram_updRecord (st l t v) : (updRecord st l t v).dram = st.dram := rfl
@[simp] theorem dram_abandonWhere (st l v) : (abandonWhere st l v).dram = st.dram := rfl
@[simp] theorem dram_pinOne (st l v) : (pinOne st l v).dram = st.dram := by
  unfold pinOne; split; rfl; dsimp only; split <;> rfl
@[simp] theorem dram_releaseOne (st l v) : (releaseOne st l v).dram = st.dram := by
  unfold releaseOne; split; rfl; split; rfl; dsimp only; split <;> rfl
theorem dram_fold {α} (f : CodedStore → α → CodedStore) (hf : ∀ st a, (f st a).dram = st.dram) : ∀ (l : List α) st, (l.foldl f st).dram = st.dram
  | [], _ => rfl
  | a :: l, st => by rw [List.foldl_cons, dram_fold f hf l, hf]
@[simp] theorem dram_release (st n) : (releaseRequest st n).dram = st.dram :=
  dram_fold _ (fun _ _ => dram_releaseOne _ _ _) _ _
theorem dram_pinRequest {st n st'} (h : pinRequest st n = some st') : st'.dram = st.dram := by
  unfold pinRequest at h; split at h
  · dsimp only at h; split at h
    · cases h; exact dram_fold _ (fun _ _ => dram_pinOne _ _ _) _ _
    · cases h
  · cases h
@[simp] theorem dram_complete (st l v) : (completeRecord st l v).dram = st.dram := by
  unfold completeRecord; split; rfl; dsimp only; split <;> rfl
@[simp] theorem dram_free (st l v) : (freeRecord st l v).dram = st.dram := rfl
@[simp] theorem dram_create (l t tc k n st) : (createRecord l t tc k n st).dram = st.dram := rfl

theorem wf_frame : ∀ (bs : List Byte) (bl m o), Memory.wf dramDefault m = true → Memory.wf dramDefault (writeFrameBytes bl m o bs) = true
  | [], _, _, _, h => h
  | b :: bs, bl, m, o, h => by rw [writeFrameBytes]; exact wf_frame bs _ _ _ (Memory.wf_write h)

theorem calm_dram (h : Calm s t) {v} (hv : Memory.wf dramDefault t.store.dram = true → Memory.wf dramDefault v.dram = true) : Calm s (t.withStore v) := by
  refine h.trans' ⟨rfl, rfl, rfl, rfl, rfl, rfl, id, id, ?_⟩
  simp only [canonicalMemories, Bool.and_eq_true]
  exact fun h => ⟨hv h.1, h.2⟩
theorem calm_lmem (h : Calm s t) {v} (hv : Memory.wf labelDefault t.labels.mem = true → Memory.wf labelDefault v.mem = true) : Calm s (t.withLabels v) := by
  refine h.trans' ⟨rfl, rfl, rfl, rfl, rfl, rfl, id, id, ?_⟩
  simp only [canonicalMemories, Bool.and_eq_true]
  exact fun h => ⟨h.1, hv h.2⟩

theorem calm_appendSlice (h : Calm s t) (l tk x) : Calm s (appendSlice l tk x t) := by
  unfold appendSlice
  split
  · exact h
  dsimp only
  split
  · exact h
  split
  · exact calm_withStore h rfl
  split
  · exact calm_withStore h rfl
  split
  · apply calm_bump; apply calm_withStore h; rfl
  split
  · apply calm_count; apply calm_withStore h; rfl
  · exact calm_dram h (fun hm => wf_frame _ _ _ _ hm)

theorem calm_fold {α} (f : State → α → State) (hf : ∀ s t a, Calm s t → Calm s (f t a)) : ∀ (l : List α) t, Calm s t → Calm s (l.foldl f t)
  | [], _, h => h
  | _ :: l, _, h => calm_fold f hf l _ (hf _ _ _ h)

/-! ## The clip log -/

theorem calm_modClip (h : Calm s t) (l f) : Calm s (t.modClip l f) := calm_withClips h _
theorem calm_markStale (h : Calm s t) (i) : Calm s (markStale i t) := by
  unfold markStale; split; exact h; split; exact calm_withAsm h rfl; exact calm_withClips h _
theorem calm_mark (h : Calm s t) (i) : Calm s (mark i t) := calm_markStale (calm_withClips h _) _
theorem calm_staleEmptied (h : Calm s t) : Calm s (staleEmptied t) := by
  unfold staleEmptied; split
  · exact calm_fold _ (fun _ _ _ h => calm_markStale h _) _ _ (calm_withClips h _)
  · exact h
theorem calm_enterQueued (h : Calm s t) (i) : Calm s (enterQueued i t) := by
  unfold enterQueued; split; exact h; exact calm_modClip (calm_withClips h _) _ _
theorem calm_releasePins (h : Calm s t) (i f) : Calm s (releasePins i f t) := by
  unfold releasePins; split; exact h; exact calm_modClip (calm_withStore h (by simp)) _ _
theorem calm_transferDone (h : Calm s t) (e i) : Calm s (transferDone e i t) := by
  unfold transferDone; dsimp only; apply calm_mark
  have h2 : Calm s (((t.withEngines (t.engines.set e none)).modClip i (fun c => { c with state := .sent, engine := none })).latch .transferDone e.val) :=
    calm_latch (calm_modClip (calm_withEngines h _) _ _) _ _
  (repeat' split) <;> first | exact h2 | exact calm_releasePins h2 _ _
theorem calm_engineTake (h : Calm s t) (e i) : Calm s (engineTake e i t) := by
  unfold engineTake; dsimp only
  have h1 := calm_modClip (calm_withClips h { t.clips with queue := t.clips.queue.tail }) i (fun c => { c with state := .sending, engine := some e, framesSent := 0 })
  split
  · exact h1
  · split
    · exact calm_transferDone (calm_mark (calm_withEngines h1 _) _) _ _
    · exact calm_mark (calm_withEngines h1 _) _
theorem calm_runEngines : ∀ (n : Nat) {t}, Calm s t → Calm s (runEngines n t)
  | 0, _, h => h
  | n+1, t, h => by
    unfold runEngines; split; exact h
    split
    · exact calm_runEngines n (calm_engineTake h _ _)
    · split
      · exact calm_runEngines n (calm_engineTake h _ _)
      · exact h
theorem calm_serveEngines (h : Calm s t) : Calm s (serveEngines t) := calm_runEngines _ h
theorem calm_engineAdvance (h : Calm s t) (e) : Calm s (engineAdvance e t) := by
  unfold engineAdvance
  split
  · split
    · exact calm_withEngines h _
    · dsimp only; split
      · exact calm_modClip h _ _
      · split
        · exact calm_withEngines (calm_modClip h _ _) _
        · exact calm_serveEngines (calm_transferDone (calm_modClip h _ _) _ _)
  · exact h
theorem calm_closeClip (h : Calm s t) (i o c) : Calm s (closeClip i o c t) := by
  unfold closeClip; split; exact h; dsimp only; split
  · exact calm_enterQueued (calm_releasePins (calm_modClip h _ _) _ _) _
  · exact calm_releasePins (calm_modClip h _ _) _ _
theorem calm_removeClip (h : Calm s t) (i) : Calm s (removeClip i t) := by
  unfold removeClip; split; exact h; dsimp only
  apply calm_mark; apply calm_withClips; apply calm_releasePins; apply calm_withClips
  split
  · exact calm_serveEngines (calm_withEngines h _)
  · exact h
theorem calm_makeRoom (h : Calm s t) {u} (hu : makeRoom t = some u) : Calm s u := by
  unfold makeRoom at hu; split at hu
  · cases hu; exact h
  · split at hu
    · cases hu; exact calm_removeClip h _
    · cases hu
theorem dram_stepPoints : ∀ n st pts moved, (stepPoints st n pts moved).2.2.dram = st.dram
  | 0, _, _, _ => rfl
  | n+1, st, pts, moved => by
    unfold stepPoints; split
    · rename_i h; exact dram_pinRequest h
    · split; rfl; exact dram_stepPoints n _ _ _
theorem calm_makeClip (h : Calm s t) (a b c d) : Calm s (makeClip a b c d t).1 := by
  unfold makeClip; dsimp only
  apply calm_mark; apply calm_withClips
  exact calm_fold _ (fun _ _ _ h => calm_latch h _ _) _ _ (calm_withStore h (dram_stepPoints _ _ _ _))
theorem calm_weighRecord (h : Calm s t) (l r i) : Calm s (weighRecord l r i t) := by
  unfold weighRecord; split; exact h; dsimp only; split
  · rename_i hp
    split
    · exact calm_mark (calm_modClip (calm_modClip (calm_withStore h (dram_pinRequest hp)) _ _) _ _) _
    · exact calm_modClip (calm_withStore h (dram_pinRequest hp)) _ _
  · exact calm_serveEngines (calm_mark (calm_latch (calm_closeClip h _ _ _) _ _) _)
theorem calm_newRecord (h : Calm s t) (l r) : Calm s (newRecord l r t) := by
  unfold newRecord; split; exact h
  exact calm_fold _ (fun _ _ _ h => calm_weighRecord h _ _ _) _ _ h
theorem calm_markRefused (h : Calm s t) : Calm s (markRefused t) := calm_bump h _ _
theorem calm_contactMarkIn (h : Calm s t) (a b) : Calm s (contactMarkIn a b t) := by
  unfold contactMarkIn; split; exact calm_markRefused h; split
  · exact calm_latch (calm_markRefused h) _ _
  · rename_i hr
    have h1 := calm_makeRoom h hr
    dsimp only; split
    · exact calm_mark (calm_modClip (calm_makeClip h1 _ _ _ _) _ _) _
    · exact calm_modClip (calm_makeClip h1 _ _ _ _) _ _
theorem calm_contactMarkOut (h : Calm s t) (a) : Calm s (contactMarkOut a t) := by
  unfold contactMarkOut; split; exact calm_markRefused h; split; exact calm_markRefused h; split
  · exact calm_markRefused h
  · exact calm_serveEngines (calm_mark (calm_closeClip h _ _ _) _)
theorem calm_contactToggle (h : Calm s t) (a b) : Calm s (contactToggle a b t) := by
  unfold contactToggle; split; exact calm_contactMarkOut h _; exact calm_contactMarkIn h _ _

/-! ## The cursors and the reclaim -/

theorem calm_setCursor (h : Calm s t) (l c) : Calm s (t.setCursor l c) := calm_withAsm h rfl
theorem calm_setAwaiting (h : Calm s t) (l c) : Calm s (t.setAwaiting l c) := calm_withAsm h rfl
theorem calm_seek (l) : ∀ (rs : List FrameRecord) {t}, Calm s t → Calm s (seek l rs t)
  | [], _, h => calm_setCursor h _ _
  | r :: rs, t, h => by
    unfold seek; split; exact calm_seek l rs h; split
    · apply calm_seek l rs; split; exact calm_withStore h rfl; exact h
    · dsimp only; split; exact calm_setAwaiting (calm_setCursor h _ _) _ _; exact calm_setCursor h _ _
theorem calm_seekOnward (h : Calm s t) (l k) : Calm s (seekOnward l k t) := calm_seek l _ h
theorem calm_weighNew (h : Calm s t) (l k) : Calm s (weighNew l k t) := by
  unfold weighNew; split; exact calm_seek _ _ h; exact h
theorem calm_dropStale : ∀ n {t}, Calm s t → Calm s (dropStale n t)
  | 0, _, h => h
  | n+1, t, h => by
    unfold dropStale; split
    · split
      · apply calm_dropStale n; apply calm_bump; exact calm_withAsm h rfl
      · exact h
    · exact h
theorem calm_settleRedispatch (h : Calm s t) : Calm s (settleRedispatch t) := calm_dropStale _ h
theorem calm_leaveAbandoned (h : Calm s t) (l) : Calm s (leaveAbandoned l t) := by
  unfold leaveAbandoned; split; exact h; split
  · split; exact calm_seekOnward h _ _; exact h
  · exact h
theorem calm_enterAwaiting (h : Calm s t) (l) : Calm s (enterAwaiting l t) := by
  unfold enterAwaiting; apply calm_settleRedispatch; apply calm_leaveAbandoned; exact calm_withAsm h rfl
theorem calm_awaitingOrders : ∀ (ls : List Lane) {t}, Calm s t → Calm s (awaitingOrders ls t)
  | [], _, h => h
  | _ :: ls, _, h => calm_awaitingOrders ls (calm_enterAwaiting h _)
theorem calm_liveSkip (h : Calm s t) (l k) : Calm s (liveSkip l k t) := by
  unfold liveSkip; split; exact h; split; exact h
  apply calm_enterAwaiting; apply calm_count; apply calm_requestKey; apply calm_withStore h; rfl
theorem calm_pathsUpRise (h : Calm s t) : Calm s (pathsUpRise t) := by
  unfold pathsUpRise; dsimp only; split
  · exact calm_fold _ (fun _ _ _ h => calm_requestKey h _) _ _ (calm_withAsm h rfl)
  · exact calm_withAsm h rfl
theorem calm_pathsUpFall (h : Calm s t) : Calm s (pathsUpFall t) := calm_withAsm h rfl
theorem calm_reclaimUnsent (h : Calm s t) (l r) : Calm s (reclaimUnsent l r t) := by
  unfold reclaimUnsent; apply calm_count; apply calm_requestKey; apply calm_withStore h; rfl
theorem calm_reclaim : ∀ n o {t}, Calm s t → Calm s (reclaim n o t).1
  | 0, _, _, h => h
  | n+1, o, t, h => by
    unfold reclaim; split; exact h; split; exact h
    dsimp only
    split
    · apply calm_reclaim; apply calm_reclaimUnsent; apply calm_bump; apply calm_withStore h; rfl
    · apply calm_reclaim; apply calm_bump; apply calm_withStore h; rfl
theorem calm_makeReserve (h : Calm s t) : Calm s (makeReserve t) := by
  unfold makeReserve; split; exact h; exact calm_awaitingOrders _ (calm_reclaim _ _ h)
theorem calm_offerFrame (h : Calm s t) (a b c d e) : Calm s (offerFrame a b c d e t).1 := by
  unfold offerFrame; split; exact calm_count h _ _ _; dsimp only; split
  · exact calm_count (calm_makeReserve h) _ _ _
  · exact calm_withStore (calm_makeReserve h) rfl
theorem calm_workShares (h : Calm s t) (a b) : Calm s (workShares a b t) := by
  unfold workShares; dsimp only; apply calm_modRate; apply calm_withLanes; apply calm_modRate h

/-! ## The lane coders -/

theorem calm_maybeOff (h : Calm s t) (l) : Calm s (maybeOff l t) := by
  unfold maybeOff; dsimp only; split; exact calm_setVideo (calm_setLane h _ _) _ _; exact h
theorem calm_passOne (h : Calm s t) (l e x) : Calm s (passOne l e x t) := by
  unfold passOne; dsimp only; split; exact calm_appendSlice h _ _ _; split
  · exact calm_modRate (calm_withStore (calm_appendSlice h _ _ _) (by simp)) _ _
  · exact calm_appendSlice h _ _ _
theorem calm_passDone (l) : ∀ n {t}, Calm s t → Calm s (passDone l n t)
  | 0, _, h => h
  | n+1, t, h => by
    unfold passDone; split
    · exact calm_passDone l n (calm_passOne (calm_modLane h _ _) _ _ _)
    · exact h
theorem calm_passReady (h : Calm s t) (l) : Calm s (passReady l t) := calm_passDone _ _ h
theorem calm_sliceEnds (h : Calm s t) (l b x) : Calm s (sliceEnds l b x t) := by
  unfold sliceEnds; split; exact h; split; exact h; dsimp only
  apply calm_passReady; apply calm_modLane; apply calm_modRate
  exact calm_ite _ (calm_count (calm_ite _ (calm_count h _ _ _) h) _ _ _) (calm_ite _ (calm_count h _ _ _) h)
theorem calm_beginCoding (h : Calm s t) (l b) : Calm s (beginCoding l b t) := by
  unfold beginCoding; split; exact h; split; exact h; dsimp only; split
  · split
    · exact calm_sliceEnds (calm_modLane h _ _) _ _ _
    · exact calm_modLane (calm_modRate (calm_modLane h _ _) _ _) _ _
  · exact calm_modLane (calm_modLane h _ _) _ _
theorem calm_startEngine (l) : ∀ n {t}, Calm s t → Calm s (startEngine l n t)
  | 0, _, h => h
  | n+1, t, h => by
    unfold startEngine; split; exact h; split; exact h
    exact calm_startEngine l n (calm_beginCoding h _ _)
theorem calm_settleCoder (h : Calm s t) (l) : Calm s (settleCoder l t) :=
  calm_startEngine _ _ (calm_passReady h _)
theorem calm_beginSlice (h : Calm s t) (a b c) : Calm s (beginSlice a b c t) := by
  unfold beginSlice; dsimp only; split; exact calm_modLane h _ _; exact calm_count (calm_modLane h _ _) _ _ _
theorem calm_ensureBegun (h : Calm s t) (l) : Calm s (ensureBegun l t) := by
  unfold ensureBegun; split
  · split; exact h; exact calm_beginSlice h _ _ _
  · exact h
theorem calm_makeReady (h : Calm s t) (l) : Calm s (makeReady l t) :=
  calm_settleCoder (calm_modLane (calm_ensureBegun h _) _ _) _
theorem calm_readyUpTo (l k) : ∀ n {t}, Calm s t → Calm s (readyUpTo l k n t)
  | 0, _, h => h
  | n+1, t, h => by
    unfold readyUpTo; split
    · split; exact calm_readyUpTo l k n (calm_makeReady h _); exact h
    · exact h
theorem calm_endFrame (h : Calm s t) (l) : Calm s (endFrame l t) := by
  unfold endFrame; split; exact h; dsimp only; apply calm_maybeOff; apply calm_modLane; split
  · exact calm_readyUpTo _ _ _ h
  · exact h
theorem calm_laneFrameStart (h : Calm s t) (l) : Calm s (laneFrameStart l t) := by
  unfold laneFrameStart; dsimp only; apply calm_liveSkip
  have key : ∀ a b c d e, Calm s (offerFrame a b c d e ((((workShares l (tallyActive t.contacts l) (t.modLane l (fun c =>
      { c with lastTick := some t.ref.tick, rate := applyHeldRates c.rate }))).withAsm
      { (t.modLane l (fun c => { c with lastTick := some t.ref.tick, rate := applyHeldRates c.rate })).asm with
        effLimit := (t.modLane l (fun c => { c with lastTick := some t.ref.tick, rate := applyHeldRates c.rate })).asm.effLimit.set l
          (effectiveLimit (t.modLane l (fun c => { c with lastTick := some t.ref.tick, rate := applyHeldRates c.rate })) l) }).modRate l (fun r =>
        { r with allots := r.allots ++ [makeAllotment t.ref.tick (frameKind t.lanes[l]) (sliceCount t.lanes[l].format) (fpsOf t.ref.rate) r] })))).1 := by
    intro a b c d e
    apply calm_offerFrame; apply calm_modRate; apply calm_withAsm
    · apply calm_workShares; apply calm_modLane h
    · rfl
  split
  · apply calm_weighNew; apply calm_newRecord; apply calm_modLane; apply key
  · apply calm_modLane; apply key
theorem calm_discardFrame (h : Calm s t) (l) : Calm s (discardFrame l t) :=
  calm_count (calm_modLane h _ _) _ _ _
theorem calm_readyAfter (h : Calm s t) (l k) : Calm s (readyAfter l k t) := by
  unfold readyAfter; split
  · split; exact calm_makeReady h _; exact h
  · exact h
theorem calm_placeLine (h : Calm s t) (l f x) : Calm s (placeLine l f x t) := by
  unfold placeLine; dsimp only; split
  · exact calm_modLane h _ _
  · have h3 := calm_modLane (calm_ensureBegun (calm_readyUpTo l (x.number / 16) (sliceCount f.format) (calm_modLane h l (fun c => { c with fill := match c.fill with | some p => some p | none => some x.pixels }))) l) l (putLine x)
    split
    · exact calm_readyAfter h3 _ _
    · exact h3
theorem calm_wrongLength (h : Calm s t) (l) : Calm s (wrongLength l t) := calm_count h _ _ _
theorem calm_setPrev (h : Calm s t) (l x) : Calm s (setPrev l x t) := calm_modLane h _ _
theorem calm_frameStart (h : Calm s t) (l x) : Calm s (frameStart l x t) := by
  unfold frameStart; dsimp only
  have h1 := calm_modLane (calm_endFrame h l) l applyHeldFormat
  split
  · exact calm_discardFrame h1 _
  · have h2 := calm_laneFrameStart h1 l
    split
    · split; exact calm_placeLine h2 _ _ _; exact h2
    · exact h2
theorem calm_laterLine (h : Calm s t) (l x) : Calm s (laterLine l x t) := by
  unfold laterLine; split
  · split
    · split; exact calm_bump h _ _; split
      · exact calm_setPrev (calm_placeLine h _ _ _) _ _
      · exact calm_wrongLength h _
    · exact calm_setPrev h _ _
  · exact calm_setPrev h _ _
theorem calm_firstLine (h : Calm s t) (l x) : Calm s (firstLine l x t) := by
  unfold firstLine; dsimp only; split
  · exact calm_setPrev (calm_frameStart (calm_modLane h _ _) _ _) _ _
  · exact calm_wrongLength h _
theorem calm_settleStall (h : Calm s t) (l) : Calm s (settleStall l t) := by
  unfold settleStall; split; exact h; split
  · exact calm_count (calm_modLane (calm_endFrame h _) _ _) _ _ _
  · exact calm_endFrame (calm_modLane h _ _) _
  all_goals exact h
theorem calm_actOnLine (h : Calm s t) (l x) : Calm s (actOnLine l x t) := by
  unfold actOnLine; dsimp only; split
  · exact h
  · split; exact calm_firstLine h _ _; exact calm_setPrev h _ _
  · split; exact calm_firstLine h _ _; exact calm_laterLine h _ _
  · split; exact calm_firstLine (calm_modLane h _ _) _ _; exact calm_setPrev (calm_modLane h _ _) _ _
  · split; exact calm_setPrev (calm_endFrame h _) _ _; exact calm_laterLine h _ _
theorem calm_takeLine (h : Calm s t) (l x) : Calm s (takeLine l x t) :=
  calm_maybeOff (calm_actOnLine (calm_modLane (calm_settleStall h _) _ _) _ _) _
theorem calm_pumpLines (l) : ∀ n {t}, Calm s t → Calm s (pumpLines l n t)
  | 0, _, h => h
  | n+1, t, h => by
    unfold pumpLines; split; exact h; split; exact h
    exact calm_pumpLines l n (calm_takeLine (calm_setVideo h _ _) _ _)
theorem calm_pump (h : Calm s t) (l) : Calm s (pump l t) := calm_pumpLines _ _ h
theorem calm_linePlaced (h : Calm s t) (l) : Calm s (linePlaced l t) := by
  unfold linePlaced; split; exact h; dsimp only; apply calm_pump; apply calm_maybeOff
  have h1 := calm_modLane h l (fun c => { c with placing := none })
  split
  · split; exact calm_readyAfter h1 _ _; exact h1
  · exact h1
theorem calm_sliceCoded (h : Calm s t) (l b) : Calm s (sliceCoded l b t) := by
  unfold sliceCoded; split; exact h; exact calm_maybeOff (calm_startEngine _ _ (calm_sliceEnds h _ _ _)) _
theorem calm_laneStall (h : Calm s t) (l) : Calm s (laneStall l t) := calm_maybeOff (calm_settleStall h _) _

/-! ## The label store -/

@[simp] theorem lmem_setSector (g k v) : (setSector g k v).mem = g.mem := by unfold setSector; split <;> rfl
@[simp] theorem lmem_startErasing (g k) : (startErasing g k).mem = g.mem := by unfold startErasing; simp
@[simp] theorem lmem_lookCompaction (g) : (lookCompaction g).mem = g.mem :=
  by unfold lookCompaction; split; split <;> rfl; rfl
@[simp] theorem lmem_openHead (g) : (openHead g).mem = g.mem := by
  unfold openHead; split; rfl; split; simp; rfl
theorem calm_beginWrite (h : Calm s t) (a b c d e) : Calm s (beginWrite a b c d e t) := by
  unfold beginWrite; dsimp only; split
  · exact calm_withLabels h (by simp)
  · exact calm_withLabels h (by simp)
theorem calm_beginNew (h : Calm s t) (a b) : Calm s (beginNew a b t) := by
  unfold beginNew; dsimp only; apply calm_beginWrite; apply calm_withLabels h; rfl
theorem calm_popDirty (h : Calm s t) : Calm s (popDirty t) := calm_withClips h _
theorem calm_serveDirty : ∀ n {t}, Calm s t → Calm s (serveDirty n t)
  | 0, _, h => h
  | n+1, t, h => by
    unfold serveDirty; split; exact h; split; exact h; split
    · apply calm_latch; exact calm_withLabels h rfl
    · split
      · exact calm_beginNew (calm_popDirty h) _ _
      · split
        · exact calm_serveDirty n (calm_popDirty h)
        · exact calm_beginNew (calm_popDirty h) _ _
theorem calm_serveCompaction (h : Calm s t) : Calm s (serveCompaction t) := by
  unfold serveCompaction; split
  · split
    · exact calm_withLabels h (by simp)
    · split
      · apply calm_beginWrite; apply calm_withLabels h; rfl
      · split
        · exact calm_withLabels h (by simp)
        · apply calm_latch; exact calm_withLabels h rfl
  · exact h
theorem calm_serveErase (h : Calm s t) : Calm s (serveErase t) := by
  unfold serveErase; split; exact calm_withLabels h rfl; exact h
theorem calm_kick (h : Calm s t) : Calm s (kick t) := by
  unfold kick; split; exact calm_serveErase (calm_serveDirty _ (calm_serveCompaction h)); exact h
theorem calm_recordWriteEnd (h : Calm s t) : Calm s (recordWriteEnd t) := by
  unfold recordWriteEnd; split; exact h
  rename_i w _
  dsimp only; apply calm_kick
  have h2 : Calm s ((t.advanceTo w.due).withLabels (if w.slot + 1 < 256 then
      { (t.advanceTo w.due).labels with
        mem := Memory.writeRun labelDefault (t.advanceTo w.due).labels.mem (slotAddress w.sector w.slot) w.bytes
        directory := (t.advanceTo w.due).labels.directory ++ [⟨w.id, w.sector, w.slot, w.seq, w.discarded⟩]
        writing := none
        compact := (match w.copy, (t.advanceTo w.due).labels.compact with
          | true, .copying v n => .copying v (n + 1)
          | _, c => c)
        head := some (w.sector, w.slot + 1) }
      else { setSector { (t.advanceTo w.due).labels with
        mem := Memory.writeRun labelDefault (t.advanceTo w.due).labels.mem (slotAddress w.sector w.slot) w.bytes
        directory := (t.advanceTo w.due).labels.directory ++ [⟨w.id, w.sector, w.slot, w.seq, w.discarded⟩]
        writing := none
        compact := (match w.copy, (t.advanceTo w.due).labels.compact with
          | true, .copying v n => .copying v (n + 1)
          | _, c => c) } w.sector .full with head := none, fillOrder := (t.advanceTo w.due).labels.fillOrder ++ [w.sector] })) := by
    apply calm_lmem (calm_advanceTo h _)
    intro hm; split
    · exact Memory.wf_writeRun hm
    · simp only [lmem_setSector]; exact Memory.wf_writeRun hm
  have h3 : Calm s (if w.copy || w.discarded then _ else _) := calm_ite _ h2 (calm_modClip h2 w.id (fun c => { c with wseq := some w.seq }))
  exact h3
theorem calm_eraseEnd (h : Calm s t) : Calm s (eraseEnd t) := by
  unfold eraseEnd; split
  · dsimp only; apply calm_kick; apply calm_withLabels
    · have : ∀ u, Calm s u → Calm s (if u.labels.waiting && roomForNew u.labels then serveDirty 514 (u.withLabels { u.labels with waiting := false }) else u) := by
        intro u hu; split
        · apply calm_serveDirty; exact calm_withLabels hu rfl
        · exact hu
      apply this
      apply calm_lmem (calm_advanceTo h _)
      intro hm; simp only [lmem_setSector]; exact Memory.wf_clear hm
    · simp
  · exact h
theorem calm_rebuildLog (h : Calm s t) : Calm s (rebuildLog t) := by
  unfold rebuildLog; dsimp only
  apply calm_fold _ (fun _ _ _ h => calm_markStale h _); apply calm_withAsm
  · apply calm_withClips h
  · rfl
@[simp] theorem lmem_scanStore (g) : (scanStore g).mem = g.mem := by unfold scanStore; rfl
theorem calm_startUpScan (h : Calm s t) : Calm s (startUpScan t) := by
  have h1 : Calm s (t.withLabels (scanStore t.labels)) := calm_withLabels h (lmem_scanStore _)
  have h2 := calm_fold _ (fun _ _ k h => calm_latch h .labelRecordBad k)
    ((List.range 32).filter (fun k => (scanSector t.labels.mem k).any (fun f => f.2.isNone))) _ h1
  have h3 : ∀ u, Calm s u → Calm s (kick (u.withLabels (lookCompaction { u.labels with ready := true }))) :=
    fun u hu => calm_kick (calm_withLabels hu (lmem_lookCompaction _))
  unfold startUpScan; apply calm_ite _ h
  exact h3 _ (calm_rebuildLog h2)
theorem cut_fold {α} (f : Memory → α → Memory) (hf : ∀ m a, Memory.wf labelDefault m = true → Memory.wf labelDefault (f m a) = true) : ∀ (l : List α) m, Memory.wf labelDefault m = true → Memory.wf labelDefault (l.foldl f m) = true
  | [], _, h => h
  | _ :: l, _, h => cut_fold f hf l _ (hf _ _ h)
theorem calm_cutWriting (h : Calm s t) : Calm s (cutWriting t) := by
  unfold cutWriting; split; exact h; dsimp only; apply calm_withSeed; exact calm_lmem h (fun hm => Memory.wf_writeRun hm)
theorem calm_cutErasing (h : Calm s t) : Calm s (cutErasing t) := by
  unfold cutErasing; dsimp only; split; exact h; apply calm_withSeed; apply calm_lmem h
  exact fun hm => cut_fold _ (fun _ _ hm => Memory.wf_writeRun hm) _ _ hm
theorem calm_finishWriting (h : Calm s t) : Calm s (finishWriting t) := by
  unfold finishWriting; split; exact h; exact calm_lmem h (fun hm => Memory.wf_writeRun hm)

/-! ## The paths and the return receiver -/

theorem calm_redispatchCell (h : Calm s t) (c) : Calm s (redispatchCell c t) := by
  have h1 := calm_settleRedispatch h
  unfold redispatchCell; dsimp only; split; exact calm_settleRedispatch (calm_withAsm h1 rfl); exact calm_bump h1 _ _
theorem calm_openAfterFall (h : Calm s t) (p) : Calm s (openAfterFall t p) := by
  unfold openAfterFall; split; exact calm_withAsm h rfl; exact h
theorem calm_redispatchPath (h : Calm s t) (p) : Calm s (redispatchPath p t) :=
  calm_openAfterFall (calm_fold _ (fun _ _ _ h => calm_redispatchCell h _) _ _ (calm_modPath h _ _)) _
theorem calm_leaveTraffic (h : Calm s t) (p) : Calm s (leaveTraffic p t) := by
  unfold leaveTraffic; split; exact calm_pathsUpFall h; exact h
theorem calm_emptyPath (h : Calm s t) (p st) : Calm s (emptyPath p st t) :=
  calm_redispatchPath (calm_modPath (calm_leaveTraffic h _) _ _) _
theorem calm_enterUp (h : Calm s t) (p) : Calm s (enterUp p t) := by
  unfold enterUp; dsimp only; apply calm_pathsUpRise
  have h1 := calm_count (calm_modPath h p upPath) ctrPathUps .pathUp p.val
  exact calm_ite _ (calm_latch h1 _ _) h1
theorem calm_leaveDown (h : Calm s t) (p) : Calm s (leaveDown p t) := by
  unfold leaveDown; dsimp only; split
  · split; exact calm_enterUp h _; exact calm_modPath h _ _
  · exact h
theorem calm_attemptFailed (h : Calm s t) (p r) : Calm s (attemptFailed p r t) := by
  unfold attemptFailed; dsimp only
  have h1 := calm_bump (calm_modPath h p (fun c => { c with retry := c.retry + 1 })) ctrHandshakeFailures 1
  split
  · exact calm_count (calm_modPath h1 _ _) _ _ _
  · exact calm_modPath h1 _ _
theorem calm_extraInExchange (h : Calm s t) (p w) : Calm s (extraInExchange p w t) := by
  unfold extraInExchange; split
  · dsimp only
    have h1 : ∀ f : PathCtl → PathCtl, Calm s (if 3 < w.code then (t.modPath p f).bump ctrHandshakeDiscarded 1 else t.modPath p f) := by
      intro f; split; exact calm_bump (calm_modPath h _ _) _ _; exact calm_modPath h _ _
    split
    · apply calm_modPath; apply h1
    · apply calm_enterUp; apply h1
  · exact calm_modPath h _ _
theorem calm_offerComplete (h : Calm s t) (p w x) : Calm s (offerComplete p w x t) := by
  unfold offerComplete; dsimp only; split; exact calm_attemptFailed h _ _; split
  · split
    · exact calm_extraInExchange (calm_modPath (calm_modPath h _ _) _ _) _ _
    · exact calm_modPath (calm_modPath h _ _) _ _
  · exact calm_enterUp (calm_modPath h _ _) _
theorem calm_offerInOffer (h : Calm s t) (p w) : Calm s (offerInOffer p w t) := by
  unfold offerInOffer; dsimp only; split; exact calm_modPath h _ _; split
  · split
    · exact calm_offerComplete (calm_modPath h _ _) _ _ _
    · exact calm_modPath h _ _
  · exact calm_modPath h _ _
theorem calm_extraInOffer (h : Calm s t) (p w) : Calm s (extraInOffer p w t) := by
  unfold extraInOffer; split; exact calm_offerComplete h _ _ _; exact calm_bump h _ _
theorem calm_farRestart (h : Calm s t) (p) : Calm s (farRestart p t) :=
  calm_bump (calm_modPath (calm_redispatchPath (calm_leaveTraffic h _) _) _ _) _ _
theorem calm_takeOffer (h : Calm s t) (p w) : Calm s (takeOffer p w t) := by
  unfold takeOffer; dsimp only; split
  · exact calm_offerInOffer h _ _
  · split; exact h; exact calm_offerInOffer (calm_modPath h _ _) _ _
  · split; exact calm_modPath h _ _; exact calm_offerInOffer (calm_farRestart h _) _ _
  · split; exact calm_modPath h _ _; exact calm_offerInOffer (calm_farRestart h _) _ _
  all_goals exact h
theorem calm_takeExtra (h : Calm s t) (p w) : Calm s (takeExtra p w t) := by
  unfold takeExtra; dsimp only; split
  · exact calm_extraInOffer h _ _
  · exact calm_extraInExchange h _ _
  · split; exact calm_modPath h _ _; exact calm_extraInOffer (calm_farRestart h _) _ _
  · split; exact calm_modPath h _ _; exact calm_extraInOffer (calm_farRestart h _) _ _
  all_goals exact h
theorem calm_handshakeCell (h : Calm s t) (p w) : Calm s (handshakeCell p w t) := by
  unfold handshakeCell; dsimp only; split; exact calm_bump h _ _; split; exact calm_takeOffer h _ _; split
  · exact calm_takeExtra h _ _
  · exact calm_bump h _ _
theorem calm_holdCell (h : Calm s t) (p w) : Calm s (holdCell p w t) := by
  unfold holdCell; dsimp only; split; exact calm_bump h _ _; split; exact calm_modPath h _ _
  have h1 : ∀ f : PathCtl → PathCtl, ∀ c : Prop, [Decidable c] → Calm s (if c then (t.modPath p f).latch .pathHeld p.val else t.modPath p f) := by
    intro f c _; split; exact calm_latch (calm_modPath h _ _) _ _; exact calm_modPath h _ _
  split
  · apply calm_redispatchPath; apply h1
  · apply h1
theorem calm_carrierPresent (h : Calm s t) (p) : Calm s (carrierPresent p t) :=
  calm_leaveDown (calm_modPath h _ _) _
theorem calm_carrierLost (h : Calm s t) (p) : Calm s (carrierLost p t) := by
  have h1 := calm_modPath h p (fun c => { c with carrier := false })
  unfold carrierLost; dsimp only; split
  · exact calm_count (calm_emptyPath h1 _ _) _ _ _
  · exact calm_count (calm_emptyPath h1 _ _) _ _ _
  · exact calm_count (calm_emptyPath h1 _ _) _ _ _
  · exact calm_count (calm_emptyPath h1 _ _) _ _ _
  all_goals exact h1
theorem calm_offerPacer (h : Calm s t) (p) : Calm s (offerPacer p t) := by
  unfold offerPacer; split; exact h; exact calm_modPath (calm_advanceTo h _) _ _
theorem calm_handshakeTimerExpiry (h : Calm s t) (p) : Calm s (handshakeTimerExpiry p t) := by
  unfold handshakeTimerExpiry; split; exact h; split; exact calm_attemptFailed (calm_advanceTo h _) _ _; exact h
theorem calm_holdTimerExpiry (h : Calm s t) (p) : Calm s (holdTimerExpiry p t) := by
  unfold holdTimerExpiry; split; exact h; split; exact calm_modPath (calm_advanceTo h _) _ _; exact h
theorem calm_lineReady (h : Calm s t) (p) : Calm s (lineReady p t) := by
  unfold lineReady; dsimp only; split
  all_goals first | exact h | exact calm_modPath h _ _ | exact calm_openAfterFall (calm_modPath h _ _) _
theorem calm_placeHolds (h : Calm s t) (m) : Calm s (placeHolds m t) := calm_withPaths h _
theorem calm_highMark (h : Calm s t) : Calm s (highMark t) := by
  unfold highMark; dsimp only; split; exact calm_withRet (calm_placeHolds h _) _; exact h
theorem calm_lowMark (h : Calm s t) : Calm s (lowMark t) := by
  unfold lowMark; dsimp only; split
  · apply calm_withRet; split; exact calm_placeHolds h _; exact h
  · exact h
theorem calm_insertReturn (h : Calm s t) (x) : Calm s (insertReturn x t) := by
  unfold insertReturn; split; exact calm_bump h _ _; split; exact calm_count h _ _ _; exact calm_highMark (calm_withRet h _)
theorem calm_returnArrival (h : Calm s t) (x) : Calm s (returnArrival x t) := by
  unfold returnArrival; split
  · dsimp only; split; exact calm_bump h _ _; split; exact calm_withRet (calm_bump h _ _) _
    exact calm_insertReturn (calm_withRet (calm_bump h _ _) _) _
  · exact calm_insertReturn h _
theorem calm_takeFrontCell (h : Calm s t) (x r) : Calm s (takeFrontCell x r t) :=
  calm_lowMark (calm_withRet h _)
theorem calm_needCell (h : Calm s t) : Calm s (needCell t) := by
  unfold needCell; split; exact calm_count (calm_withRet h _) _ _ _; split; exact calm_takeFrontCell h _ _; split
  · exact calm_takeFrontCell h _ _
  · exact calm_count (calm_withRet h _) _ _ _
theorem calm_handFrames : ∀ n acc {t}, Calm s t → Calm s (handFrames n t acc).1
  | 0, _, _, h => h
  | n+1, acc, t, h => by
    unfold handFrames; dsimp only
    have h1 : Calm s (if t.ret.playing && usedUp t.ret then needCell t else t) := calm_ite _ (calm_needCell h) h
    split
    · exact calm_handFrames n _ (calm_withRet h1 _)
    · exact calm_handFrames n _ h1
theorem calm_enterPlaying (h : Calm s t) : Calm s (enterPlaying t) := by
  unfold enterPlaying; split; exact h; dsimp only; split; exact calm_takeFrontCell (calm_withRet h _) _ _; exact calm_withRet h _
theorem calm_returnBlock (h : Calm s t) : Calm s (returnBlock t).1 :=
  calm_handFrames _ _ (calm_enterPlaying h)
theorem calm_returnCell (h : Calm s t) (p x) : Calm s (returnCell p x t) := by
  unfold returnCell; dsimp only; split; exact calm_count h _ _ _; exact calm_returnArrival h _

/-! ## The sound mixer -/

theorem calm_handAudio (h : Calm s t) (x) : Calm s (handAudio x t) := by
  unfold handAudio; split; exact calm_withAsm h rfl; apply calm_count; exact calm_withAsm h rfl
theorem calm_handPeriod (c) : ∀ bs {t}, Calm s t → Calm s (handPeriod c bs t)
  | [], _, h => h
  | _ :: bs, _, h => calm_handPeriod c bs (calm_handAudio (calm_withMixer h _) _)
theorem calm_audioRequest (h : Calm s t) (k) : Calm s (audioRequest k t).1 := by
  unfold audioRequest; dsimp only; split; exact calm_setAudio h _ _; exact calm_count h _ _ _
theorem calm_beginBlock (h : Calm s t) : Calm s (beginBlock t) := by
  unfold beginBlock; dsimp only; apply calm_withMixer; apply calm_returnBlock
  apply calm_audioRequest; apply calm_audioRequest; apply calm_audioRequest; apply calm_audioRequest
  exact calm_withMixer (calm_advanceTo h _) _
theorem calm_countClip (h : Calm s t) (b) : Calm s (countClip b t) := calm_count (calm_withMixer h _) _ _ _
theorem calm_countClips : ∀ bs {t}, Calm s t → Calm s (countClips bs t)
  | [], _, h => h
  | b :: bs, _, h => calm_countClips bs (calm_countClip h b)
theorem calm_buildBusPacket (h : Calm s t) (b x) : Calm s (buildBusPacket b x t) := by
  unfold buildBusPacket; split; apply calm_bump; exact calm_withPort h rfl rfl; exact calm_withPort h rfl rfl
theorem calm_completeWork (h : Calm s t) (w) : Calm s (completeWork w t) := by
  unfold completeWork; dsimp only; split
  · apply calm_handPeriod; apply calm_buildBusPacket; apply calm_countClips; exact calm_withMixer h _
  · apply calm_buildBusPacket; apply calm_countClips; exact calm_withMixer h _
theorem calm_blockCompletion (h : Calm s t) : Calm s (blockCompletion t) := by
  unfold blockCompletion; split; exact calm_completeWork h _; exact h
theorem calm_blockRequest (h : Calm s t) : Calm s (blockRequest t) := calm_beginBlock (calm_blockCompletion h)

/-! ## The reference unit and the contacts -/

theorem calm_idleTick (h : Calm s t) (l) : Calm s (idleTick t l) := calm_modLane (calm_settleStall h _) _ _
theorem calm_frameTick (h : Calm s t) : Calm s (frameTick t) :=
  calm_withMixer (calm_fold _ (fun _ _ _ h => calm_idleTick h _) _ _ (calm_withRef h _)) _
theorem calm_referencePulse (h : Calm s t) (n) : Calm s (referencePulse n t) := by
  have h1 := calm_advanceTo h n
  unfold referencePulse; dsimp only; split
  · exact calm_withRef h1 _
  · exact calm_withRef h1 _
  · split
    · split; exact calm_withRef h1 _; exact calm_count (calm_withRef h1 _) _ _ _
    · exact calm_withRef h1 _
  · split; exact calm_withRef h1 _; exact calm_bump (calm_withRef h1 _) _ _
theorem calm_lockingLoss (h : Calm s t) : Calm s (lockingLoss t) := by
  unfold lockingLoss; split; exact calm_withRef (calm_advanceTo h _) _; exact h
theorem calm_referenceLoss (h : Calm s t) : Calm s (referenceLoss t) := by
  unfold referenceLoss; split; exact calm_count (calm_withRef (calm_advanceTo h _) _) _ _ _; exact h
theorem calm_acceptedEdge (h : Calm s t) (c b n) : Calm s (acceptedEdge c b n t) := by
  unfold acceptedEdge; split; exact h; split
  · exact h
  · exact h
  · exact calm_contactMarkIn h _ _
  · exact calm_contactMarkOut h _
  · exact calm_contactToggle h _ _
  · exact calm_withMixer h _
theorem calm_contactRawChange (h : Calm s t) (i b) : Calm s (contactRawChange i b t) := by
  unfold contactRawChange; dsimp only; split; exact h; split
  · split; exact calm_acceptedEdge (calm_setContact h _ _) _ _ _; exact calm_setContact h _ _
  · split; exact calm_bump (calm_setContact h _ _) _ _; exact calm_setContact h _ _
theorem calm_filterRunsOut (h : Calm s t) (i) : Calm s (filterRunsOut i t) := by
  unfold filterRunsOut; dsimp only; split; exact h
  exact calm_acceptedEdge (calm_setContact (calm_advanceTo h _) _ _) _ _ _

/-! ## Cell assembly, but for the CONTROL class -/

theorem calm_placeCell (h : Calm s t) (p x) : Calm s (placeCell p x t) := by
  unfold placeCell; dsimp only; split; apply calm_withAsm; exact calm_modPath h _ _; rfl; exact calm_modPath h _ _
theorem calm_popStale (h : Calm s t) : Calm s (popStale t) := by
  unfold popStale; split; exact calm_withAsm h rfl; exact calm_staleEmptied (calm_withAsm h rfl)
theorem calm_cutVideo (h : Calm s t) (l c r e) : Calm s (cutVideo l c r e t) := by
  unfold cutVideo; dsimp only
  have h1 : Calm s (t.withAsm { t.asm with videoSeq := t.asm.videoSeq.set l (t.asm.videoSeq[l] + 1), laneRot := l }) := calm_withAsm h rfl
  split
  · apply calm_setCursor; exact calm_withStore h1 rfl
  · apply calm_seekOnward; exact calm_withStore h1 rfl
theorem calm_cutClip (h : Calm s t) (e) : Calm s (cutClip e t) := by
  unfold cutClip; apply calm_engineAdvance; apply calm_withAsm h; rfl
end Sys2Proof.Machine
end

