-- ==== Sys2Proof/Laws/Clips.lean ====
section
/-! SUPPORT. What marking clips does, said once (R133): one id, the same id again, and the ids of a whole log. -/

namespace Sys2Proof.Machine

/-- Marking an id on the store-dirty list leaves the log as it is, puts the id at the back, or sets the overflow flag. -/
theorem markDirty_cases (id : Nat) (g : ClipLog) :
    (id ∈ g.dirty ∧ markDirty id g = g) ∨
    (id ∉ g.dirty ∧ g.dirty.length < 256 ∧ markDirty id g = { g with dirty := g.dirty ++ [id] }) ∨
    (id ∉ g.dirty ∧ 256 ≤ g.dirty.length ∧ markDirty id g = { g with dirtyOverflow := true }) := by
  by_cases h : id ∈ g.dirty
  · exact .inl ⟨h, by simp [markDirty, h]⟩
  · rcases Nat.lt_or_ge g.dirty.length 256 with hl | hl
    · exact .inr (.inl ⟨h, hl, by simp [markDirty, h, hl]⟩)
    · exact .inr (.inr ⟨h, hl, by simp [markDirty, h, Nat.not_lt.2 hl]⟩)

/-- The same for the stale-label list, whose overflow flag the clip log holds. -/
theorem markStale_cases (id : Nat) (s : State) :
    (id ∈ s.asm.staleLabels ∧ markStale id s = s) ∨
    (id ∉ s.asm.staleLabels ∧ s.asm.staleLabels.length < 256 ∧
      markStale id s = s.withAsm { s.asm with staleLabels := s.asm.staleLabels ++ [id] }) ∨
    (id ∉ s.asm.staleLabels ∧ 256 ≤ s.asm.staleLabels.length ∧
      markStale id s = s.withClips { s.clips with staleOverflow := true }) := by
  by_cases h : id ∈ s.asm.staleLabels
  · exact .inl ⟨h, by simp [markStale, h]⟩
  · rcases Nat.lt_or_ge s.asm.staleLabels.length 256 with hl | hl
    · exact .inr (.inl ⟨h, hl, by simp [markStale, h, hl]⟩)
    · exact .inr (.inr ⟨h, hl, by simp [markStale, h, Nat.not_lt.2 hl]⟩)

/-- Marking an id a second time changes nothing, whether the list holds it or has overflowed. -/
theorem markDirty_markDirty (id : Nat) (g : ClipLog) : markDirty id (markDirty id g) = markDirty id g := by
  rcases markDirty_cases id g with ⟨h, e⟩ | ⟨h, hl, e⟩ | ⟨h, hl, e⟩ <;> rw [e]
  · exact e
  · simp [markDirty]
  · simp [markDirty, h, Nat.not_lt.2 hl]

theorem markStale_markStale (id : Nat) (s : State) : markStale id (markStale id s) = markStale id s := by
  rcases markStale_cases id s with ⟨h, e⟩ | ⟨h, hl, e⟩ | ⟨h, hl, e⟩ <;> rw [e]
  · exact e
  · simp [markStale]
  · simp [markStale, h, Nat.not_lt.2 hl]

/-- Ids that a list does not hold and has room for join it in their order. -/
theorem foldl_markDirty (ids : List Nat) : ∀ g : ClipLog, (g.dirty ++ ids).Nodup → (g.dirty ++ ids).length ≤ 256 →
    ids.foldl (fun g id => markDirty id g) g = { g with dirty := g.dirty ++ ids } := by
  induction ids with
  | nil => intro g _ _; simp
  | cons a ids ih =>
    intro g hn hl
    have ha : a ∉ g.dirty := fun h => (List.nodup_append.1 hn).2.2 a h a (by simp) rfl
    have hr : g.dirty.length < 256 := by simp at hl; omega
    have he : markDirty a g = { g with dirty := g.dirty ++ [a] } := by simp [markDirty, ha, hr]
    rw [List.foldl_cons, he, ih _ (by simpa using hn) (by simpa using hl)]
    simp

theorem foldl_markStale (ids : List Nat) : ∀ s : State, (s.asm.staleLabels ++ ids).Nodup →
    (s.asm.staleLabels ++ ids).length ≤ 256 →
    ids.foldl (fun s id => markStale id s) s = s.withAsm { s.asm with staleLabels := s.asm.staleLabels ++ ids } := by
  induction ids with
  | nil => intro s _ _; simp; rfl
  | cons a ids ih =>
    intro s hn hl
    have ha : a ∉ s.asm.staleLabels := fun h => (List.nodup_append.1 hn).2.2 a h a (by simp) rfl
    have hr : s.asm.staleLabels.length < 256 := by simp at hl; omega
    have he : markStale a s = s.withAsm { s.asm with staleLabels := s.asm.staleLabels ++ [a] } := by
      simp [markStale, ha, hr]
    rw [List.foldl_cons, he, ih _ (by simpa using hn) (by simpa using hl)]
    simp [State.withAsm]

end Sys2Proof.Machine
end

