-- ==== Sys2Proof/Laws/PerInstr.lean ====
section
/-! SUPPORT. The family DirectiveNamed, one lemma for each command: a command that is a directive of the summary table is
the command of its name, and it is well-formed when its words fit what brings it. -/

namespace Sys2Proof.Laws.DirectiveNamed

open Machine

/-- A command that is a directive of the summary table is the command of its name, well-formed when its directive fits. -/
def Statement (i : Instr) : Prop :=
  ∀ n d, directiveOf i = some (n, d) → directiveCommand n d = i ∧ i.wellFormed = (checkDirective d).isNone

theorem powerOn (straps : Byte) : Statement (.powerOn straps) := fun _ _ h => by cases h
theorem resetLine : Statement .resetLine := fun _ _ h => by cases h
theorem restart : Statement .restart := fun _ _ h => by cases h
theorem frameReceived (frame : EthFrame) : Statement (.frameReceived frame) := fun _ _ h => by cases h
theorem linePlaced (lane : Lane) : Statement (.linePlaced lane) := fun _ _ h => by cases h
theorem sliceCoded (lane : Lane) (coded : List Byte) : Statement (.sliceCoded lane coded) := fun _ _ h => by cases h
theorem laneStall (lane : Lane) : Statement (.laneStall lane) := fun _ _ h => by cases h
theorem blockRequest : Statement .blockRequest := fun _ _ h => by cases h
theorem blockCompletion : Statement .blockCompletion := fun _ _ h => by cases h
theorem transmitterFree : Statement .transmitterFree := fun _ _ h => by cases h
theorem frameTick : Statement .frameTick := fun _ _ h => by cases h
theorem referencePulse (stamp : Nat) : Statement (.referencePulse stamp) := fun _ _ h => by cases h
theorem lockingLoss : Statement .lockingLoss := fun _ _ h => by cases h
theorem referenceLoss : Statement .referenceLoss := fun _ _ h => by cases h
theorem contactRawChange (input : ContactNo) (closed : Bool) : Statement (.contactRawChange input closed) := fun _ _ h => by cases h
theorem filterRunsOut (input : ContactNo) : Statement (.filterRunsOut input) := fun _ _ h => by cases h
theorem carrierPresent (path : PathNo) : Statement (.carrierPresent path) := fun _ _ h => by cases h
theorem carrierLost (path : PathNo) : Statement (.carrierLost path) := fun _ _ h => by cases h
theorem offerPacer (path : PathNo) : Statement (.offerPacer path) := fun _ _ h => by cases h
theorem handshakeTimerExpiry (path : PathNo) : Statement (.handshakeTimerExpiry path) := fun _ _ h => by cases h
theorem holdTimerExpiry (path : PathNo) : Statement (.holdTimerExpiry path) := fun _ _ h => by cases h
theorem lineReady (path : PathNo) : Statement (.lineReady path) := fun _ _ h => by cases h
theorem inboundCell (path : PathNo) (bytes : List Byte) : Statement (.inboundCell path bytes) := fun _ _ h => by cases h
theorem cellAssembly : Statement .cellAssembly := fun _ _ h => by cases h
theorem recordWriteEnd : Statement .recordWriteEnd := fun _ _ h => by cases h
theorem eraseEnd : Statement .eraseEnd := fun _ _ h => by cases h
theorem startUpScan : Statement .startUpScan := fun _ _ h => by cases h
theorem unknownDirective (name : Word) (d : Directive) : Statement (.unknownDirective name d) := fun _ _ h => by cases h
theorem lsta (d : Directive) : Statement (.lsta d) := fun _ _ h => by cases h; exact ⟨rfl, rfl⟩
theorem lstp (d : Directive) : Statement (.lstp d) := fun _ _ h => by cases h; exact ⟨rfl, rfl⟩
theorem lfmt (d : Directive) : Statement (.lfmt d) := fun _ _ h => by cases h; exact ⟨rfl, rfl⟩
theorem lkey (d : Directive) : Statement (.lkey d) := fun _ _ h => by cases h; exact ⟨rfl, rfl⟩
theorem rdln (d : Directive) : Statement (.rdln d) := fun _ _ h => by cases h; exact ⟨rfl, rfl⟩
theorem lrat (d : Directive) : Statement (.lrat d) := fun _ _ h => by cases h; exact ⟨rfl, rfl⟩
theorem lshr (d : Directive) : Statement (.lshr d) := fun _ _ h => by cases h; exact ⟨rfl, rfl⟩
theorem rsrv (d : Directive) : Statement (.rsrv d) := fun _ _ h => by cases h; exact ⟨rfl, rfl⟩
theorem pmrk (d : Directive) : Statement (.pmrk d) := fun _ _ h => by cases h; exact ⟨rfl, rfl⟩
theorem rdas (d : Directive) : Statement (.rdas d) := fun _ _ h => by cases h; exact ⟨rfl, rfl⟩
theorem ceil (d : Directive) : Statement (.ceil d) := fun _ _ h => by cases h; exact ⟨rfl, rfl⟩
theorem rdst (d : Directive) : Statement (.rdst d) := fun _ _ h => by cases h; exact ⟨rfl, rfl⟩
theorem xpnt (d : Directive) : Statement (.xpnt d) := fun _ _ h => by cases h; exact ⟨rfl, rfl⟩
theorem bmst (d : Directive) : Statement (.bmst d) := fun _ _ h => by cases h; exact ⟨rfl, rfl⟩
theorem srce (d : Directive) : Statement (.srce d) := fun _ _ h => by cases h; exact ⟨rfl, rfl⟩
theorem home (d : Directive) : Statement (.home d) := fun _ _ h => by cases h; exact ⟨rfl, rfl⟩
theorem take (d : Directive) : Statement (.take d) := fun _ _ h => by cases h; exact ⟨rfl, rfl⟩
theorem ramp (d : Directive) : Statement (.ramp d) := fun _ _ h => by cases h; exact ⟨rfl, rfl⟩
theorem flaw (d : Directive) : Statement (.flaw d) := fun _ _ h => by cases h; exact ⟨rfl, rfl⟩
theorem rdmt (d : Directive) : Statement (.rdmt d) := fun _ _ h => by cases h; exact ⟨rfl, rfl⟩
theorem rdmx (d : Directive) : Statement (.rdmx d) := fun _ _ h => by cases h; exact ⟨rfl, rfl⟩
theorem path (d : Directive) : Statement (.path d) := fun _ _ h => by cases h; exact ⟨rfl, rfl⟩
theorem pena (d : Directive) : Statement (.pena d) := fun _ _ h => by cases h; exact ⟨rfl, rfl⟩
theorem pdis (d : Directive) : Statement (.pdis d) := fun _ _ h => by cases h; exact ⟨rfl, rfl⟩
theorem prst (d : Directive) : Statement (.prst d) := fun _ _ h => by cases h; exact ⟨rfl, rfl⟩
theorem rtrn (d : Directive) : Statement (.rtrn d) := fun _ _ h => by cases h; exact ⟨rfl, rfl⟩
theorem rdpt (d : Directive) : Statement (.rdpt d) := fun _ _ h => by cases h; exact ⟨rfl, rfl⟩
theorem mkin (d : Directive) : Statement (.mkin d) := fun _ _ h => by cases h; exact ⟨rfl, rfl⟩
theorem mkot (d : Directive) : Statement (.mkot d) := fun _ _ h => by cases h; exact ⟨rfl, rfl⟩
theorem tmpl (d : Directive) : Statement (.tmpl d) := fun _ _ h => by cases h; exact ⟨rfl, rfl⟩
theorem send (d : Directive) : Statement (.send d) := fun _ _ h => by cases h; exact ⟨rfl, rfl⟩
theorem keep (d : Directive) : Statement (.keep d) := fun _ _ h => by cases h; exact ⟨rfl, rfl⟩
theorem disc (d : Directive) : Statement (.disc d) := fun _ _ h => by cases h; exact ⟨rfl, rfl⟩
theorem tagd (d : Directive) : Statement (.tagd d) := fun _ _ h => by cases h; exact ⟨rfl, rfl⟩
theorem tagc (d : Directive) : Statement (.tagc d) := fun _ _ h => by cases h; exact ⟨rfl, rfl⟩
theorem rdcl (d : Directive) : Statement (.rdcl d) := fun _ _ h => by cases h; exact ⟨rfl, rfl⟩
theorem lscl (d : Directive) : Statement (.lscl d) := fun _ _ h => by cases h; exact ⟨rfl, rfl⟩
theorem rdls (d : Directive) : Statement (.rdls d) := fun _ _ h => by cases h; exact ⟨rfl, rfl⟩
theorem tcod (d : Directive) : Statement (.tcod d) := fun _ _ h => by cases h; exact ⟨rfl, rfl⟩
theorem refr (d : Directive) : Statement (.refr d) := fun _ _ h => by cases h; exact ⟨rfl, rfl⟩
theorem cont (d : Directive) : Statement (.cont d) := fun _ _ h => by cases h; exact ⟨rfl, rfl⟩
theorem rdrf (d : Directive) : Statement (.rdrf d) := fun _ _ h => by cases h; exact ⟨rfl, rfl⟩
theorem scop (d : Directive) : Statement (.scop d) := fun _ _ h => by cases h; exact ⟨rfl, rfl⟩
theorem emsk (d : Directive) : Statement (.emsk d) := fun _ _ h => by cases h; exact ⟨rfl, rfl⟩
theorem eclr (d : Directive) : Statement (.eclr d) := fun _ _ h => by cases h; exact ⟨rfl, rfl⟩
theorem stat (d : Directive) : Statement (.stat d) := fun _ _ h => by cases h; exact ⟨rfl, rfl⟩
theorem cntr (d : Directive) : Statement (.cntr d) := fun _ _ h => by cases h; exact ⟨rfl, rfl⟩
theorem rstr (d : Directive) : Statement (.rstr d) := fun _ _ h => by cases h; exact ⟨rfl, rfl⟩
theorem powerLoss : Statement .powerLoss := fun _ _ h => by cases h

end Sys2Proof.Laws.DirectiveNamed
end

