-- ==== Sys2Proof/Tests/Slice0.lean ====
section
/-! SUPPORT. Tests: the refusals of WellFormed; for every statement with hypotheses, states and operands that meet them;
and the worked examples of the chapters. -/

namespace Sys2Proof.Tests

open Sys2Proof Sys2Proof.Machine

-- The evaluations below one after the other: side by side they take more memory than the check allows.
set_option Elab.async false

/-! ## Helpers -/

/-- A directive from the van. -/
def van (ws : List Nat) : Directive := ⟨.van, 7, ws.map (BitVec.ofNat 32), false⟩

/-- A directive from home, by path 2. -/
def afar (ws : List Nat) : Directive := ⟨.home 2, 7, ws.map (BitVec.ofNat 32), false⟩

/-- The machine after power-on with its start-up scan done over erased memory (R159). -/
def ready : State := State.reset.withLabels { resetLabels [] with ready := true }

/-- The state after a command that answers one. -/
def after (c : Instr) (s : State) : State := match exec c s with | .next t => t | _ => s

/-- The command answers a next state. -/
def completes (c : Instr) (s : State) : Bool := match exec c s with | .next _ => true | _ => false

/-- The directive reaches its owner, in a state that meets a condition. -/
def reachesWith (n : DirName) (ws : List Nat) (s : State) (p : State → Bool) : Bool :=
  reachesOwner n (van ws) s && p (taking n (van ws) s)

/-- The directive reaches its owner. -/
def reachesIt (n : DirName) (ws : List Nat) (s : State) : Bool := reachesWith n ws s (fun _ => true)

/-- The result of the last response in the egress queue. -/
def lastResult (s : State) : Option Result :=
  match s.port.egress.getLast? with
  | some (.response r) => some r.result
  | _ => none

/-- The result of a directive from the van. -/
def resultOf (n : DirName) (ws : List Nat) (s : State) : Option Result :=
  lastResult (after (directiveCommand n (van ws)) s)

/-- A lane packet for station 0 in a good frame. -/
def frame (lane kind extra seq number : Nat) (payload : List Byte) : EthFrame :=
  ⟨true, 0x88B6, buildLanePacket 0 lane kind extra (BitVec.ofNat 16 seq) number payload⟩

/-- A small picture format: two slices of sixteen lines. -/
def small : Format := ⟨64, 32, 2⟩

/-- The bytes of one line of it. -/
def lineBytes : List Byte := List.replicate 128 9

/-- `ready` with a lane in a state, in the small format. -/
def onLane (f : LaneCoder → LaneCoder) : State := ready.setLane 0 (f { ready.lanes[0] with format := small })

/-- The frame in progress of lane 0, all but its slice of number `next`. -/
def aFrame (next : Nat) (b : Option BegunSlice) : FrameInProgress :=
  ⟨small, 3, ⟨0, 0, 0, 0⟩, .stored, some .key, some false, next, b⟩

/-- Lane 0's engine is at work on the first slice of its frame, whose allotment is 1,000 bytes in two slices. -/
def codingState (st : LaneState) : State :=
  onLane (fun c => { c with
    state := st, engine := some ⟨1, 24⟩, pass := [⟨3, 0, some 1, none⟩], frame := some (aFrame 1 none)
    buffers := c.buffers.set 1 ⟨.coding, 3, 0, [(0, lineBytes)], none⟩
    rate := { c.rate with allots := [⟨3, .delta, 2, 1000, 1000, 1, 4, 8, 52⟩] } })

/-- `ready` with path 0 as given, and its line up. -/
def onPath (f : PathCtl → PathCtl) : State := ready.setPath 0 (f (resetPath true))

/-- A path in UP. -/
def upPath0 (c : PathCtl) : PathCtl := { c with state := .up, agreed := some 20000, agreedHold := true }

/-- A cell as it comes from the line. -/
def cellFrom (k : CellKind) (payload : List Byte) : List Byte := cellBytes (plainCell k payload) 0

/-- A response that waits. -/
def aResponse : Response := ⟨dirWord .stat, 7, .success, .empty⟩

/-- A clip on lane 0. -/
def aClip (st : ClipState) : Clip :=
  { id := 5, state := st, kept := false, short := false, ceilClosed := false, sendOnClose := false
    lanes := [(0, .at 3), (1, .pending)], inTick := 4, outTick := none, inTc := some ⟨1, 2, 3, 4⟩, onAir := [0, 5]
    tags := [1, 64], priority := 7, keys := true, engine := none, framesSent := 65535, framesTotal := 0, wseq := none
    rebuilt := false, pins := [] }

/-- `ready` with one clip and tags 1 and 64 defined. -/
def withClip (c : Clip) : State :=
  ready.withClips { ready.clips with
    clips := [c], lastId := 5, tags := (ready.clips.tags.set 0 (some [65])).set 63 (some [66]) }

/-- A record of one WRITING frame of lane 0, with one block and 40 bytes. -/
def aRecord : FrameRecord :=
  { tick := 3, timecode := ⟨0, 0, 0, 0⟩, kind := .key, complete := false, n := 2, blocks := [9], bytes := 40
    slices := [⟨.coded, some 24, 40, 0⟩], pins := 0, live := .pending, capped := false, spoiled := false }

/-- A small store that holds it. -/
def aStore (r : FrameRecord) : CodedStore :=
  { free := [4, 2], records := resetStore.records.set 0 [r], pinned := 0, ceiling := 12288, dram := [] }

/-! ## WellFormed -/

theorem test_wellFormed_codedSize : (Instr.sliceCoded 0 (List.replicate 31 0)).check = some .codedSize := by decide
theorem test_wellFormed_knownName :
    (Instr.unknownDirective (dirWord .take) (van [])).check = some .knownName := by decide
theorem test_wellFormed_cellLength : (Instr.inboundCell 0 (List.replicate 255 0)).check = some .cellLength := by
  decide +kernel
theorem test_wellFormed_directiveLength :
    (Instr.flaw (afar (List.replicate 59 0))).check = some .directiveLength := by decide +kernel
theorem test_wellFormed_good : (Instr.take (van [])).wellFormed = true := by decide

/-! ## Decode -/

/-- No row of the table has bits. -/
theorem test_decode_none : decodeTableWord 16 0 = none ∧ ready.withFetchWord 16 0 = ready := ⟨rfl, rfl⟩

/-! ## Witnesses: the queue of commands and the directive handler -/

theorem witness_IdleAndUnpoweredMachines :
    ready.pending = [] ∧ ready.power = true ∧ (ready.withPower false).power = false ∧
      completes .frameTick (ready.withPower false) = true := by decide +kernel

theorem witness_WellFormedCommandsAnswer :
    (Instr.sliceCoded 0 (List.replicate 3072 1)).wellFormed = true ∧
      (3072 ≤ codingWidth (codingState .coding).lanes[0] * 48) ∧
      (Instr.take (afar [])).wellFormed = true := by decide +kernel

theorem witness_DirectivesAreChecked_at_the_owner :
    ready.power = true ∧ ready.handler.stopped = false ∧ ready.port.held = none ∧ ready.handler.queue = [] ∧
      ready.labels.ready = true ∧ shapeOk .mkin ((van [6, 4, 0, 0, 0, 0, 1, 2, 3, 4, 5, 1, 2, 3, 64]).words) = true ∧
      (let s := (ready.withHandler { ready.handler with scopeRead := true, reserved := 7 })
       s.asm.control.length + s.handler.reserved < 8 ∧ scopeOk s.handler .stat (.home 2) = true ∧
         reachesOwner .stat (afar []) s = true) := by decide +kernel

theorem witness_DirectivesAreChecked :
    (atHand ⟨dirWord .mkin, van []⟩ State.reset = true ∧ State.reset.labels.ready = false) ∧
    (atHand ⟨dirWord .take, afar []⟩ ready = true ∧ atHand ⟨dirWord .stat, afar []⟩ ready = true ∧
      ready.handler.scopeRead = false ∧ atHand ⟨dirWord .keep, afar [1]⟩ ready = true ∧
      ready.handler.scopeClip = false) ∧
    (atHand ⟨dirWord .take, van [1]⟩ ready = true ∧ shapeOk .take (van [1]).words = false) ∧
    (atHand ⟨dirWord .take, { van [] with ragged := true }⟩ ready = true) ∧
    (knownName 0 = false ∧ atHand ⟨0, van []⟩ ready = true ∧ knownName (dirWord .take) = true) := by decide +kernel

/-- A full input queue; seven cells in the control list and one place reserved. -/
def fullQueue : State := ready.withHandler { ready.handler with queue := List.replicate 16 ⟨dirWord .take, van []⟩ }

theorem witness_DirectivesArriveAndResponsesLeave :
    fullQueue.handler.queue.length = 16 ∧ ready.asm.control.length + ready.handler.reserved < 8 ∧
    (let s := ready.withAsm { ready.asm with control := List.replicate 8 (plainCell .response []) }
     8 ≤ s.asm.control.length + s.handler.reserved) ∧
    (let s := (ready.withAsm { ready.asm with control := List.replicate 7 (plainCell .response []) })
     s.asm.control.length + s.handler.reserved < 8 ∧ s.handler.queue.length < 16) ∧
    (let s := ready.withPort { ready.port with egress := List.replicate 31 (.response aResponse) }
     s.port.egress.length < 32) ∧
    (let s := ready.withPort { ready.port with egress := List.replicate 32 (.response aResponse) }
     32 ≤ s.port.egress.length) := by decide +kernel

theorem witness_HandlerDirectivesAct :
    reachesIt .scop [1, 0] ready ∧ reachesIt .scop [2, 0] ready ∧ reachesIt .scop [0, 2] ready ∧
    reachesIt .emsk [0xFFFFFFFF] ready ∧ reachesIt .eclr [0x80000000] ready ∧ reachesIt .stat [] ready ∧
    reachesIt .rstr [] ready := by decide +kernel

theorem witness_HandlerDirectivesAct_counters :
    reachesIt .cntr [0, 40, 1] ready ∧ reachesIt .cntr [39, 1, 0] ready ∧ reachesIt .cntr [39, 2, 0] ready ∧
    reachesIt .cntr [40, 1, 0] ready ∧ reachesIt .cntr [0, 0, 0] ready ∧ reachesIt .cntr [0, 41, 0] ready ∧
    reachesIt .cntr [0, 1, 2] ready := by decide +kernel

theorem witness_EventsLatchAndCountersRise :
    (.refLost, 0) ∉ ready.handler.flags ∧ (.refLost, 0) ∈ (ready.latch .refLost 0).handler.flags ∧
    ready.handler.mask.getLsbD 0 = false ∧ ready.port.egress.length < 32 ∧
    (let s := ready.withHandler { ready.handler with mask := 1 }
     s.handler.mask.getLsbD (eventNumber .refLost) = true) ∧
    (let s := ready.withPort { ready.port with egress := List.replicate 32 (.response aResponse) }
     32 ≤ s.port.egress.length ∧ s.handler.mask.getLsbD 0 = false) ∧
    ((3 : Fin 40) ≠ ctrNoticesLost ∧ ready.handler.counters[3].toNat < 2 ^ 31) ∧
    (let s := ready.bump 3 (2 ^ 31 - 1)
     s.handler.counters[3].toNat < 2 ^ 31 ∧ 2 ^ 31 ≤ s.handler.counters[3].toNat + 1) := by decide +kernel

/-! ## Witnesses: power -/

/-- RSTR has been taken and its response has left. -/
def restarting : State := ready.withHandler { ready.handler with stopped := true }

theorem witness_ResetEventsStartAfresh :
    restarting.labels.writing = none ∧ noEraseBegun restarting.labels = true ∧ restarting.power = true ∧
      restartDue restarting = true ∧ restartDue ready = false := by decide +kernel

/-- A record is being written in the last slot of the last sector. -/
def writingState : State :=
  restarting.withLabels { restarting.labels with
    head := some (31, 255), writing := some ⟨31, 255, 5, 0, false, false, clipRecord (aClip .sent) (some 0), 96⟩ }

theorem witness_WritesAndErasesEnd_when_cut :
    writingState.power = true ∧ writingState.labels.writing.isSome = true ∧ noEraseBegun writingState.labels = true ∧
    Memory.wf labelDefault writingState.labels.mem = true ∧ (clipRecord (aClip .sent) (some 0)).length = 128 ∧
    slotBytes writingState.labels.mem 31 255 = List.replicate 128 labelDefault ∧ restartDue writingState = true := by
  decide +kernel

/-! ## Witnesses: the fabric port -/

theorem witness_FramesGoToTheirLane :
    ready.power = true ∧ isLanePacket 0 (frame 7 1 0 0 0 []) = true ∧ isLanePacket 0 (frame 62 1 0 0 0 []) = true ∧
    (isLanePacket 0 (frame 5 1 0 0 0 []) = true ∧ ready.lanes[5].state = .off) ∧
    (let p := parseLanePacket (frame 63 4 0 9 0 (bytes32 (dirWord .ramp).toNat ++ [0, 7, 0, 0, 0, 0, 0, 5])).payload
     p.lane = 63 ∧ seqVerdict true ready.port.mgmt p.seq = .inOrder ∧ p.kind = 4 ∧ 8 ≤ p.length ∧
       p.payload.isSome = true ∧ ready.handler.queue.length < 16) ∧
    (let p := parseLanePacket (frame 63 4 0 9 0 (List.replicate 7 0)).payload
     p.lane = 63 ∧ seqVerdict true ready.port.mgmt p.seq = .inOrder ∧ p.length < 8) := by decide +kernel

/-- A lane 63 packet after a gap, and late packets on a camera lane and on an audio lane. -/
theorem witness_FramesGoToTheirLane_out_of_order :
    seqVerdict true ⟨some 7, 0⟩ (parseLanePacket (frame 63 4 0 9 0 []).payload).seq = .gap 2 ∧
    (let s := (onLane (fun c => { c with state := .acquire })).setVideo 0 ⟨⟨some 10, 6⟩, [], none, none⟩
     s.power = true ∧ s.lanes[0].state ≠ .off ∧ isLanePacket s.port.station (frame 0 1 0 9 5 lineBytes) = true ∧
       seqVerdict false s.port.video[0].seq (parseLanePacket (frame 0 1 0 9 5 lineBytes).payload).seq = .lateDropped) ∧
    (let s := ready.setAudio 3 ⟨⟨some 10, 0⟩, []⟩
     seqVerdict false s.port.audio[3].seq (parseLanePacket (frame 11 2 4 9 0 []).payload).seq = .lateDropped) := by
  decide +kernel

/-- The bounds of each clause: d of 1, 32,767, 32,768 and 65,535; a late run of 6 and of 7. -/
theorem witness_FramesGoToTheirLane_verdicts :
    seqVerdict false ⟨some 65535, 0⟩ (65535 + 1) = .gap 1 ∧ seqVerdict false ⟨some 9, 0⟩ (9 + 32767) = .gap 32767 ∧
    seqVerdict true ⟨some 9, 0⟩ (9 + 32768) = .lateTaken ∧ seqVerdict false ⟨some 9, 6⟩ (9 + 65535) = .lateDropped ∧
    seqVerdict false ⟨some 9, 7⟩ (9 + 65535) = .lateTaken := by decide

/-- Lane 0 is CODING and waits for the placing of a line; its intake buffer holds some lines. -/
def placingLane (n : Nat) : State :=
  (onLane (fun c => { c with state := .coding, placing := some ⟨0, 3⟩ })).setVideo 0
    ⟨⟨some 9, 0⟩, List.replicate n ⟨4, false, lineBytes⟩, some 4, some small⟩

theorem witness_LinesAndBlocksJoinTheirBuffers_lines :
    (let s := placingLane 31
     let p := parseLanePacket (frame 0 1 0 9 5 lineBytes).payload
     s.power = true ∧ isLanePacket s.port.station (frame 0 1 0 9 5 lineBytes) = true ∧ p.lane = 0 ∧
       s.lanes[0].state ≠ .off ∧ seqVerdict false s.port.video[0].seq p.seq = .inOrder ∧
       videoLengthOk (applicableFormat s.lanes[0] s.port.video[0] ⟨5, false, lineBytes⟩) p = true ∧
       s.port.video[0].lines.length < 32 ∧ s.lanes[0].placing.isSome = true) ∧
    (placingLane 32).port.video[0].lines.length = 32 ∧
    videoLengthOk small (parseLanePacket (frame 0 1 0 9 32 lineBytes).payload) = false ∧
    videoLengthOk small (parseLanePacket (frame 0 1 0 9 31 lineBytes).payload) = true := by decide +kernel

theorem witness_LinesAndBlocksJoinTheirBuffers_blocks :
    (let p := parseLanePacket (frame 11 2 4 9 0 (List.replicate 4608 1)).payload
     isLanePacket 0 (frame 11 2 4 9 0 (List.replicate 4608 1)) = true ∧ p.lane = 11 ∧ p.kind = 2 ∧
       p.extra.toNat = 4 ∧ p.payload.isSome = true ∧ p.length = 1152 * 4 ∧
       seqVerdict false ready.port.audio[3].seq p.seq = .inOrder ∧ ready.port.audio[3].blocks.length + 4 ≤ 4) ∧
    (let s := ready.setAudio 3 ⟨⟨none, 0⟩, [[]]⟩
     4 < s.port.audio[3].blocks.length + 4) ∧
    ((parseLanePacket (frame 8 2 5 9 0 []).payload).extra.toNat = 5) := by decide +kernel

/-- A full egress queue, a held response and a bus packet. -/
def busyPort : State :=
  ready.withPort { ready.port with
    egress := List.replicate 32 (.notice .refLost 0 0), held := some aResponse, bus := some ⟨0, 0, []⟩ }

theorem witness_TransmitterSendsTheBusPacketFirst :
    busyPort.power = true ∧ busyPort.port.bus.isSome = true ∧
    ((after .transmitterFree busyPort).port.bus = none ∧ (after .transmitterFree busyPort).port.held.isSome = true ∧
      (after .transmitterFree busyPort).port.egress.length = 32) ∧
    (let s := after .transmitterFree (after .transmitterFree busyPort)
     s.port.bus = none ∧ s.port.egress ≠ [] ∧ s.port.held = none) ∧
    (ready.port.bus = none ∧ ready.port.egress = []) := by decide +kernel

/-! ## Witnesses: the lane coders -/

/-- Lane 0 is placing a line of the first slice; the engine is at work on a slice of the frame before. -/
def placingAt (n : Nat) : State :=
  onLane (fun c => { c with
    state := .coding, frame := some (aFrame 0 (some ⟨0, some 1⟩)), placing := some ⟨3, n⟩, engine := some ⟨0, 24⟩
    pass := [⟨2, 1, some 0, none⟩], idle := 0
    buffers := c.buffers.set 1 ⟨.filling, 3, 0, [(n, lineBytes)], none⟩ })

theorem witness_LaneAndRateDirectivesAct_lanes :
    reachesWith .lsta [5] ready (fun u => u.lanes[5].state == .off) ∧
    reachesWith .lsta [0] (placingAt 3) (fun u => u.lanes[0].state != .off) ∧
    reachesWith .lstp [5] ready (fun u => u.lanes[5].state == .off) ∧
    reachesWith .lstp [0] (placingAt 3) (fun u => u.lanes[0].frame.isSome) ∧
    reachesWith .lstp [0] (onLane (fun c => { c with state := .acquire }))
      (fun u => u.lanes[0].frame.isNone && u.lanes[0].pass.isEmpty) ∧
    reachesWith .lfmt [0, 64, 16, 1] ready (fun u => u.lanes[0].state == .off) ∧
    reachesWith .lfmt [0, 1920, 1088, 255] (placingAt 3) (fun u => u.lanes[0].state != .off) ∧
    reachesIt .lfmt [0, 48, 16, 1] ready ∧ reachesIt .lfmt [0, 72, 16, 1] ready ∧
    reachesIt .lfmt [0, 64, 1089, 1] ready ∧ reachesIt .lfmt [0, 64, 16, 256] ready ∧
    reachesWith .lkey [5] ready (fun u => u.lanes[5].state == .off) ∧
    reachesWith .lkey [0] (placingAt 3) (fun u => u.lanes[0].state != .off) := by decide +kernel

/-- A line of the small format. -/
def aLine (n : Nat) : Line := ⟨n, false, lineBytes⟩

/-- Lane 0 in a state with a frame that is DISCARDED. -/
def discarding (st : LaneState) : State :=
  onLane (fun c => { c with
    state := st, prev := some 3
    frame := some { aFrame 0 none with disposition := .discarded, kind := none, tally := none } })

theorem witness_LinesAreTakenByState :
    (let s := onLane (fun c => { c with state := .acquire })
     let p := parseLanePacket (frame 0 1 0 9 5 lineBytes).payload
     s.power = true ∧ seqVerdict false s.port.video[0].seq p.seq = .inOrder ∧ s.port.video[0].lines = [] ∧
       videoLengthOk (applicableFormat s.lanes[0] s.port.video[0] (aLine 5)) p = true ∧ s.lanes[0].placing = none) ∧
    (beginsFrame (some 3) (aLine 3) = false ∧ beginsFrame (some 3) (aLine 2) = true ∧ (aLine 3).start = false ∧
      lineBytes.length = 2 * small.width ∧ ready.lanes[0].idle < 2 ∧ ready.lanes[0].frame = none) ∧
    (onLane (fun c => { c with state := .acquire, lastTick := some 0 })).lanes[0].lastTick = some ready.ref.tick ∧
    (onLane (fun c => { c with state := .draining, pass := [⟨3, 0, none, none⟩] })).lanes[0].pass ≠ [] ∧
    (discarding .coding).lanes[0].frame.map FrameInProgress.disposition = some .discarded ∧
    (let c := (placingAt 3).lanes[0]
     c.frame.map (fun f => (f.disposition, f.format, f.next, f.begun)) = some (.stored, small, 0, some ⟨0, some 1⟩) ∧
       small.lines ≤ (aLine 32).number ∧ (aLine 15).number < small.lines ∧ (aLine 15).number / 16 = 0) := by
  decide +kernel

/-- Lane 0 waits for a frame, before a store of 64 free blocks. -/
def starting : State :=
  ((onLane (fun c => { c with state := .acquire, engine := some ⟨0, 24⟩, keyReq := true })).withStore
    { resetStore with free := blocksFrom 0 64 })

theorem witness_FrameStartsMakeRecords :
    (let c := starting.lanes[0]
     c.state = .acquire ∧ c.idle < 2 ∧ beginsFrame c.prev ⟨14, true, lineBytes⟩ = true ∧ c.held.getD c.format = small ∧
       c.frame = none ∧ c.lastTick ≠ some starting.ref.tick ∧ c.keyReq = true ∧ c.placing = none ∧
       c.buffers[0].state = .free ∧ 16 ≤ small.lines) ∧
    (tickTest starting.store 0 0 = true ∧ reserveMet starting.store = true ∧ starting.store.free ≠ [] ∧
      starting.asm.cursors[0] = none ∧ starting.clips.clips = [] ∧ starting.asm.awaiting[0] = false) ∧
    tickTest (aStore aRecord) 0 3 = false ∧
    ¬((onLane id).lanes[0].keyReq = true ∨ small.keyInterval ≤ (0 : Nat) + 1) := by decide +kernel

theorem witness_PlacedLinesAndStalls :
    (let c := (placingAt 3).lanes[0]
     c.placing.isSome ∧ c.frame.isSome ∧ (placingAt 3).port.video[0].lines = [] ∧ 3 / 16 = 0 ∧
       3 ≠ lastLineOf small 0) ∧
    (let c := (placingAt 15).lanes[0]
     15 = lastLineOf small 0 ∧ 0 + 1 < sliceCount small ∧ c.engine.isSome ∧ c.pass = [⟨2, 1, some 0, none⟩]) ∧
    ready.lanes[0].placing = none ∧ (ready.lanes[0].idle < 2 ∧ ready.lanes[0].state ≠ .draining) ∧
    (let c := (onLane (fun c => { c with state := .coding, idle := 2 })).lanes[0]
     2 ≤ c.idle ∧ c.state = .coding ∧ c.frame = none) := by decide +kernel

theorem witness_PlacedLinesAndStalls_copies :
    (let taken : List (Nat × List Byte) := [(16, [1]), (18, [3])]
     taken.find? (fun y => decide (y.1 = 16 + 0)) = some (16, [1]) ∧
       taken.find? (fun y => decide (y.1 = 16 + 15)) = none ∧ 15 < 16 ∧
       taken.find? (fun y => decide (y.1 = 32 + 0)) = none ∧ taken.head? = some (16, [1])) := by decide

theorem witness_CodedSlicesArePassed :
    (let c := (codingState .coding).lanes[0]
     (codingState .coding).power = true ∧ c.engine = some ⟨1, 24⟩ ∧ codingWidth c * 48 = 3072 ∧ c.state ≠ .draining ∧
       c.pass = [⟨3, 0, some 1, none⟩] ∧ findAllotment c.rate 3 = some ⟨3, .delta, 2, 1000, 1000, 1, 4, 8, 52⟩ ∧
       0 + 1 < 2 ∧ capped ⟨3, .delta, 2, 1000, 1000, 1, 4, 8, 52⟩ 0 32 = false ∧
       capped ⟨3, .delta, 2, 1000, 1000, 1, 4, 8, 52⟩ 0 2000 = false) := by decide +kernel

/-! ## Witnesses: rate control -/

theorem witness_LaneAndRateDirectivesAct_rates :
    reachesIt .rsrv [2000, 200000] ready ∧ reachesIt .rsrv [2001, 0] ready ∧ reachesIt .rsrv [0, 200001] ready ∧
    reachesIt .lshr [5, 15, 15] ready ∧ reachesIt .lshr [6, 0, 0] ready ∧ reachesIt .lshr [0, 16, 0] ready ∧
    reachesIt .lshr [0, 0, 16] ready ∧
    reachesWith .lrat [5, 63, 63, 63, 64, 4096, 2, 1, 1] ready (fun u => u.lanes[5].state == .off) ∧
    reachesWith .lrat [0, 0, 0, 0, 0, 4194304, 16, 8, 50] (placingAt 3) (fun u => u.lanes[0].state != .off) ∧
    reachesIt .lrat [0, 24, 8, 64, 16, 4096, 4, 4, 12] ready ∧ reachesIt .lrat [0, 7, 8, 52, 16, 4096, 4, 4, 12] ready ∧
    reachesIt .lrat [0, 24, 8, 52, 65, 4096, 4, 4, 12] ready ∧ reachesIt .lrat [0, 24, 8, 52, 16, 4095, 4, 4, 12] ready ∧
    reachesIt .lrat [0, 24, 8, 52, 16, 4096, 17, 4, 12] ready ∧ reachesIt .lrat [0, 24, 8, 52, 16, 4096, 4, 9, 12] ready ∧
    reachesIt .lrat [0, 24, 8, 52, 16, 4096, 4, 4, 51] ready := by decide +kernel

theorem witness_RatesStayInRange_slices :
    (let r := { resetRate with fullness := 262144, settings := { resetRateSettings with gain := 0 } }
     r.settings.qmin ≤ r.settings.qmax ∧ r.settings.qmin ≤ r.q ∧ r.q ≤ r.settings.qmax ∧ r.settings.gain = 0 ∧
       r.settings.qmin ≤ r.settings.qref ∧ r.settings.qref ≤ r.settings.qmax ∧ r.q ≤ r.settings.qref + 4 ∧
       r.settings.qref ≤ r.q + 4 ∧ r.settings.cb < r.fullness + 65 - 64) := by decide

theorem witness_SliceAllotmentsSumToTotal :
    1 ≤ (makeAllotment 5 .delta 68 50 resetRate).n ∧ (makeAllotment 5 .key 68 50 resetRate).n ≤ 68 ∧
      0 < (⟨3, .delta, 3, 1000, 1000, 1, 4, 8, 52⟩ : Allotment).t % 3 := by decide

theorem witness_RatesStayInRange_shares :
    (let s := (onPath upPath0).setLane 0 { ready.lanes[0] with state := .coding }
     s.lanes[0].state = .coding ∧ s.lanes[1].state ≠ .coding ∧
       0 < (workShares 0 false s).lanes[0].rate.capacity.w ∧ 0 < (workShares 0 false s).lanes[0].rate.capacity.v) := by
  decide +kernel

/-! ## Witnesses: the coded store -/

theorem witness_CeilingAndPins_ceiling :
    reachesIt .ceil [1023] ready ∧ reachesIt .ceil [16385] ready ∧
    reachesWith .ceil [1024] (ready.withStore { resetStore with pinned := 1025 }) (fun u => decide (1024 < u.store.pinned)) ∧
    reachesWith .ceil [1024] (ready.withStore { resetStore with pinned := 1024 }) (fun u => u.store.pinned == 1024) ∧
    reachesIt .ceil [16384] ready ∧ (restarting.power = true ∧ restartDue restarting = true) ∧
    (findRecord (aStore { aRecord with pins := 1 }) 0 3 = some { aRecord with pins := 1 } ∧ aRecord.complete = false) := by
  decide +kernel

theorem witness_AppendedSliceReadsBack :
    (let s := ready.withStore (aStore aRecord)
     findRecord s.store 0 3 = some aRecord ∧ aRecord.complete = false ∧ aRecord.spoiled = false ∧
       aRecord.bytes + 16360 ≤ 1048576 ∧
       Memory.wf dramDefault s.store.dram = true ∧ (aRecord.blocks ++ s.store.free).Nodup ∧
       aRecord.blocks.length = blocksNeeded aRecord.bytes ∧
       blocksNeeded (aRecord.bytes + 16360) - aRecord.blocks.length = 1 ∧ 1 ≤ s.store.free.length) ∧
    (findRecord (aStore { aRecord with complete := true }) 0 3).map FrameRecord.complete = some true := by
  decide +kernel

/-- `ready` with a record of lane 0 as given, a tick of 9 and two free blocks. -/
def storing (r : FrameRecord) : State := (ready.withStore (aStore r)).withRef { ready.ref with tick := 9 }

theorem witness_FramesAreOfferedAndReclaimed :
    (newestRecord (aStore aRecord) 0 = some aRecord ∧ later 3 aRecord.tick = false ∧ later 4 aRecord.tick = true) ∧
    (reserveMet starting.store = true ∧ newestRecord starting.store 0 = none) ∧
    (let u := (reclaim 1 [] (storing aRecord)).1
     reserveMet (storing aRecord).store = false ∧ recordsInUse u.store < 4096 ∧ u.store.free ≠ []) ∧
    (let s := (storing aRecord).withStore { aStore aRecord with free := [] }
     (reclaim 1 [] s).1.store.free = []) ∧
    (let r := { aRecord with complete := true }
     nextCandidate (storing r) = some (0, r) ∧ unsent r = true) ∧
    (let r := { aRecord with complete := true, live := .done }
     nextCandidate (storing r) = some (0, r) ∧ unsent r = false) ∧
    recordsInUse (storing aRecord).store = 1 := by decide +kernel

theorem witness_FramesAreOfferedAndReclaimed_spared :
    (let s := ready.withStore (aStore { aRecord with pins := 1 })
     (∀ m : Lane, (s.store.records[m].map FrameRecord.tick).Nodup) ∧ { aRecord with pins := 1 } ∈ s.store.records[0]) ∧
    (let r := { aRecord with complete := true }
     let s := (ready.withStore (aStore r)).withAsm { ready.asm with cursors := ready.asm.cursors.set 0 (some ⟨3, 0, 0⟩) }
     r ∈ s.store.records[0] ∧ cursorNames s 0 3 = true) ∧ aRecord.complete = false := by decide +kernel

/-- The bound of the grant: 64 blocks under a ceiling of 64 and of 63. -/
theorem witness_CeilingAndPins_pins :
    (findRecord (aStore aRecord) 0 3 = some aRecord ∧ aRecord.pins = 0 ∧ [((0 : Lane), (3 : Word))].Nodup) ∧
    (pinOne { aStore aRecord with ceiling := 64 } 0 3).pinned ≤ 64 ∧
    63 < (pinOne { aStore aRecord with ceiling := 63 } 0 3).pinned ∧ findRecord (aStore aRecord) 1 3 = none := by
  decide +kernel

/-! ## Witnesses: the sound mixer -/

theorem witness_MixerDirectivesAct_bank :
    reachesIt .xpnt [35, 7, 255] ready ∧ reachesIt .xpnt [36, 0, 0] ready ∧ reachesIt .xpnt [0, 8, 0] ready ∧
    reachesIt .xpnt [0, 0, 256] ready ∧ reachesIt .bmst [7, 255] ready ∧ reachesIt .bmst [8, 0] ready ∧
    reachesIt .bmst [0, 256] ready ∧
    (let s := ready.withMixer { ready.mixer with takePending := true }
     s.power = true ∧ s.mixer.takePending = true ∧ s.mixer.takeArmed = none) := by decide +kernel

theorem witness_MixerDirectivesAct_controls :
    reachesWith .srce [35, 16, 1, 9600] ready
      (fun u => decide ((u.mixer.cued.delays.set 35 9600).toList.sum ≤ 131072)) ∧
    reachesWith .srce [35, 20, 0, 9600] (ready.withMixer { ready.mixer with
        cued := { ready.mixer.cued with delays := Vector.replicate 36 3600 } })
      (fun u => decide (131072 < (u.mixer.cued.delays.set 35 9600).toList.sum)) ∧
    reachesIt .srce [36, 24, 0, 0] ready ∧ reachesIt .srce [0, 18, 0, 0] ready ∧ reachesIt .srce [0, 24, 2, 0] ready ∧
    reachesIt .srce [0, 24, 0, 9601] ready ∧
    reachesIt .home [7, 0] ready ∧ reachesIt .home [7, 7] ready ∧ reachesIt .home [8] ready ∧ reachesIt .home [] ready ∧
    reachesIt .take [] ready ∧ reachesIt .ramp [4800] ready ∧ reachesIt .ramp [4801] ready ∧
    reachesIt .flaw (List.replicate 256 65535) ready ∧ reachesIt .flaw (List.replicate 256 65536) ready ∧
    reachesIt .flaw (1 :: List.replicate 255 0) ready ∧ reachesIt .rdmt [] ready := by decide +kernel

/-- A take is armed at a sample, which delays source 3 by seven samples. -/
def armed (sample : Nat) : State :=
  ready.withMixer { ready.mixer with
    takeArmed := some ⟨{ resetBank with delays := resetBank.delays.set 3 7 }, Vector.replicate 288 0,
      Vector.replicate 8 16384, 1, sample⟩ }

theorem witness_BlockRequestTakesTheFrontBlocks :
    (ready.power = true ∧ ready.mixer.work = none ∧ ready.port.audio[0].blocks = [] ∧ ready.mixer.takeArmed = none) ∧
    ((armed 1).mixer.takeArmed.map TakeImage.sample = some 1 ∧ 48 * (armed 1).mixer.block < 1) ∧
    ((armed 0).mixer.takeArmed.map TakeImage.sample = some 0 ∧ 0 ≤ 48 * (armed 0).mixer.block ∧
      (armed 0).mixer.takeArmed.map (fun x => x.bank.delays[3]) ≠ some (armed 0).mixer.live.delays[3] ∧
      (armed 0).mixer.takeArmed.map (fun x => x.bank.delays[2]) = some (armed 0).mixer.live.delays[2]) := by
  decide +kernel

theorem witness_BlockCompletionBuildsTheBusPacket :
    ready.power = true ∧ ready.mixer.work = none ∧ (after .blockRequest ready).mixer.work.isSome = true ∧
      (after .blockRequest ready).port.bus = none := by decide +kernel

/-- The bounds of the clauses: levels of 2 and 1 going out, of 46 and 47 coming in; the values at the limits. -/
theorem witness_SourcesBusesAndRamps :
    (let h : DelayHistory := ⟨5, [1, 2, 3]⟩
     h.start + 2 ≤ 7 ∧ 6 < h.start + 2) ∧
    (2 ≤ (⟨0, .fadingOut, 2⟩ : Fade).level ∧ (⟨0, .fadingOut, 1⟩ : Fade).level ≤ 1 ∧
      (⟨0, .fadingIn, 46⟩ : Fade).level < 47 ∧ (⟨0, .fadingIn, 47⟩ : Fade).level = 47) ∧
    ((-8388609 : Int) < -8388608 ∧ (8388607 : Int) < 8388608 ∧ (5 : Sample) ≠ -8388608) ∧
    (let c : Coef := ⟨0, 100, 0, 0, 480⟩
     c.step < c.length ∧ c.length - c.step ≤ 480 ∧ c.target = (100 : Nat) ∧ c.target ≠ (5 : Nat)) := by decide

/-! ## Witnesses: the paths and the return receiver -/

theorem witness_PathSettingsAreLoaded :
    reachesIt .path [4, 0, 64, 0, 1, 0, 1] ready ∧ reachesIt .path [0, 2, 64, 0, 1, 0, 1] ready ∧
    reachesIt .path [0, 0, 63, 0, 1, 0, 1] ready ∧ reachesIt .path [0, 0, 200001, 0, 1, 0, 1] ready ∧
    reachesIt .path [0, 0, 64, 2, 1, 0, 1] ready ∧ reachesIt .path [0, 0, 64, 0, 3, 0, 1] ready ∧
    reachesIt .path [0, 0, 64, 0, 1, 2, 1] ready ∧ reachesIt .path [0, 0, 64, 0, 1, 0, 16] ready ∧
    reachesWith .path [3, 1, 200000, 1, 4, 1, 15] ready (fun u => u.paths[3].state == .disabled) ∧
    reachesWith .path [0, 0, 64, 0, 1, 0, 1] (onPath upPath0) (fun u => u.paths[0].state != .disabled) := by
  decide +kernel

/-- The settings of a path in FIXED mode. -/
def fixedMode (c : PathCtl) : PathCtl := { c with settings := { c.settings with fixed := true } }

theorem witness_PathsAreEnabledAndStopped :
    reachesWith .pena [0] (onPath upPath0) (fun u => u.paths[0].state != .disabled) ∧
    reachesWith .pena [3] ready (fun u => u.paths[3].state == .disabled && !u.paths[3].carrier) ∧
    reachesWith .pena [0] (onPath id) (fun u => u.paths[0].state == .disabled && u.paths[0].carrier) ∧
    reachesWith .pena [0] (onPath fixedMode) (fun u => u.paths[0].settings.fixed && u.paths[0].carrier) ∧
    reachesWith .pdis [3] ready (fun u => u.paths[3].state == .disabled) ∧
    reachesWith .pdis [0] (onPath upPath0) (fun u => u.paths[0].state == .up) ∧
    reachesWith .prst [3] ready (fun u => u.paths[3].state == .disabled) ∧
    reachesWith .prst [0] (onPath (fun c => { c with state := .down, carrier := false }))
      (fun u => !u.paths[0].carrier) ∧
    reachesWith .prst [0] (onPath upPath0) (fun u => u.paths[0].carrier && !u.paths[0].settings.fixed) := by
  decide +kernel

theorem witness_CarrierAndTimersMoveThePath_carrier :
    (onPath (fun c => { c with state := .down, carrier := false })).paths[0].state = .down ∧
    (onPath (fun c => fixedMode { c with state := .down, carrier := false })).paths[0].settings.fixed = true ∧
    ready.paths[0].state = .disabled ∧ (onPath upPath0).paths[0].state = .up ∧ ready.power = true ∧
    (onPath id).asm.pathsUp = 0 ∧ (placingAt 3).lanes[0].state ≠ .off := by decide +kernel

theorem witness_CarrierAndTimersMoveThePath_timers :
    (let c := (onPath (fun c => { c with state := .offer, pacer := some 480, timer := some 48000, retry := 5 })).paths[0]
     c.state = .offer ∧ c.pacer = some 480 ∧ c.timer = some 48000 ∧ c.retry + 1 ≠ c.settings.retryLimit) ∧
    (let c := (onPath (fun c => { c with state := .exchange, pacer := some 480, timer := some 48000, retry := 6 })).paths[0]
     c.state = .exchange ∧ c.pacer = some 480 ∧ c.retry + 1 = c.settings.retryLimit) ∧
    ready.paths[0].pacer = none ∧
    (let c := (onPath (fun c => { c with state := .held, holdTimer := some 99 })).paths[0]
     c.state = .held ∧ c.holdTimer = some 99) := by decide +kernel

/-- A VIDEO cell of lane 0 with a skip generation; that of the lane is 0. -/
def pictureCell (gen : Word) : Cell := { plainCell .video [] with gen := gen }

/-- Path 0 is UP and holds cells; some more wait on the redispatch list. -/
def holding (cells waiting : List Cell) : State :=
  (onPath (fun c => upPath0 { c with queue := cells })).withAsm { ready.asm with redispatch := waiting }

theorem witness_QueuedCellsAreRedispatched :
    (let s := holding [pictureCell 0, plainCell .audio []] [pictureCell 0]
     (∀ x ∈ s.asm.redispatch ++ s.paths[0].queue, staleCell s.asm.gen x = false) ∧ s.paths[0].state = .up ∧
       s.paths[0].agreedHold = true ∧ s.asm.redispatch.length + s.paths[0].queue.length ≤ 512) ∧
    (let s := holding (List.replicate 3 (pictureCell 0)) (List.replicate 510 (plainCell .audio []))
     s.asm.redispatch.length ≤ 512 ∧ 512 < s.asm.redispatch.length + s.paths[0].queue.length) ∧
    (staleCell ready.asm.gen (pictureCell 1) = true ∧ staleCell ready.asm.gen (plainCell .clip []) = false) ∧
    ((parseCell (cellFrom .hold (bytes16 100))).map (fun x => (x.kind, get16 x.payload 0)) = some (.hold, 100)) ∧
    reachesWith .pdis [0] (holding [pictureCell 0] [pictureCell 0])
      (fun u => u.asm.redispatch == [pictureCell 0] && u.paths[0].queue == [pictureCell 0]) ∧
    reachesWith .prst [0] (holding [pictureCell 0] []) (fun u => u.paths[0].queue == [pictureCell 0]) := by
  decide +kernel

theorem witness_ReadyLineTakesOneCell :
    (onPath (fun c => { c with state := .held })).paths[0].slot = none ∧
    (onPath (fun c => { c with state := .held, slot := some (.hold 5) })).paths[0].slot = some (.hold 5) ∧
    (let c := (onPath (fun c => upPath0 { c with queue := [plainCell .audio []] })).paths[0]
     c.state = .up ∧ c.slot = none ∧ c.queue ≠ []) ∧
    (let c := (onPath upPath0).paths[0]
     c.state = .up ∧ c.queue = [] ∧ c.slot = none) := by decide +kernel

theorem witness_InboundCellsGoByKind :
    ready.paths[0].state = .disabled ∧ (onPath upPath0).paths[0].state = .up ∧ parseCell [] = none ∧
    (parseCell (cellFrom .fill [])).isSome = true ∧ (parseCell (cellFrom .response [])).isSome = true ∧
    ((parseCell (cellFrom .hold (bytes16 0))).map (fun x => (x.kind, get16 x.payload 0)) = some (.hold, 0)) ∧
    ((parseCell (cellFrom .hold (bytes16 99))).map (fun x => get16 x.payload 0) = some 99) ∧
    (onPath (fun c => { c with state := .held, agreedHold := true })).paths[0].agreedHold = true ∧
    (onPath (fun c => { c with state := .offer })).paths[0].state = .offer ∧
    ((parseCell (cellFrom .directive (List.replicate 8 0))).map (fun x => x.payload.length) = some 8) ∧
    ((parseCell (cellFrom .handshake [1])).map InboundCell.kind = some .handshake) ∧
    (onPath (fun c => fixedMode (upPath0 c))).paths[0].settings.fixed = true := by decide +kernel

/-- An offer word from the far end. -/
def farWord : OfferWord := ⟨true, false, false, true, 2, 0, 1000⟩

theorem witness_OfferWordsComplete :
    (let c := (onPath (fun c => { c with state := .offer, farOffer := some farWord, run := 3, ownAck := true })).paths[0]
     c.settings.fixed = false ∧ c.state = .offer ∧
       (parseCell (cellFrom .handshake (offerBytes farWord))).map (fun x => parseOffer x.payload) = some farWord ∧
       farWord.fault = 0 ∧ c.farOffer = some farWord ∧ c.ownAck = true ∧ farWord.ack = true ∧ farWord.more = false ∧
       64 ≤ c.settings.rate ∧ 64 ≤ farWord.rate) ∧
    sameContent { farWord with rate := 1001 } farWord = false ∧
    (parseCell (cellFrom .handshake (offerBytes { farWord with fault := 3 }))).map
      (fun x => (parseOffer x.payload).fault) = some 3 := by decide +kernel

/-- A path in EXCHANGE, in the round of toggle 0, or in another state. -/
def inRound (st : PathState) (retry : Nat) : State :=
  onPath (fun c => { c with
    state := st, farOffer := some farWord, run := 3, ownAck := true, agreed := some 1000, agreedHold := true
    retry := retry, lastRound := some true, timer := some 48000 })

/-- A word that comes from the line as it was built. -/
def comesOffer (w : OfferWord) : Bool :=
  (parseCell (cellFrom .handshake (offerBytes w))).map (fun x => parseOffer x.payload) == some w
def comesExtra (w : ExtraWord) : Bool :=
  (parseCell (cellFrom .handshake (extraBytes w))).map (fun x => (byteAt x.payload 0, parseExtra x.payload))
    == some (2, w)

theorem witness_ExchangeAndRestart :
    (let w := { farWord with rate := 63 }
     let c := (inRound .offer 5).paths[0]
     comesOffer w ∧ w.fault = 0 ∧ { farWord with ack := false } ≠ { w with ack := false } ∧ w.ack = true ∧
       c.ownAck = true ∧ min c.settings.rate w.rate < 64 ∧ c.retry + 1 ≠ c.settings.retryLimit ∧
       (inRound .offer 6).paths[0].retry + 1 = c.settings.retryLimit) ∧
    (comesOffer { farWord with more := true } ∧ 64 ≤ min (inRound .offer 5).paths[0].settings.rate farWord.rate) ∧
    (comesOffer farWord ∧ comesOffer { farWord with ack := false } ∧ (inRound .exchange 0).paths[0].state = .exchange) ∧
    ((inRound .up 0).paths[0].farOffer = some farWord ∧ (inRound .held 0).paths[0].lastRound = some true) ∧
    (comesExtra ⟨false, true, 1, 0⟩ ∧ comesExtra ⟨true, false, 2, 4⟩ ∧ comesExtra ⟨false, false, 3, 2⟩ ∧
      comesExtra ⟨false, true, 4, 0⟩ ∧ (inRound .exchange 0).paths[0].toggle = false) ∧
    (onPath (fun c => { c with state := .offer })).paths[0].ownAck = false := by decide +kernel

/-- A return cell with a sequence, as it comes from the line. -/
def returnCellFrom (seq : Word) : List Byte :=
  cellBytes { plainCell .returnAudio (List.replicate 240 1) with seq := seq } 0

/-- Path 0 is UP and the return receiver holds cells with these sequences. -/
def receiving (l : List Nat) : State :=
  (onPath upPath0).withRet { ready.ret with
    queue := l.map (fun n => ⟨BitVec.ofNat 32 n, []⟩), lastPlayed := some 0xFFFFFFFF }

set_option maxRecDepth 8000 in
theorem witness_ReturnReceiverTakesCells :
    reachesWith .rtrn [4, 32, 1000, 1] ready (fun u => !u.ret.holdSent) ∧ reachesIt .rtrn [3, 2, 0, 0] ready ∧
    reachesIt .rtrn [1, 1, 0, 0] ready ∧ reachesIt .rtrn [1, 33, 0, 0] ready ∧ reachesIt .rtrn [1, 2, 1001, 0] ready ∧
    reachesIt .rtrn [1, 2, 0, 2] ready ∧
    ((parseCell (returnCellFrom 5)).map (fun x => (x.kind, x.seq)) = some (.returnAudio, 5) ∧
      (receiving [2, 9]).paths[0].state = .up ∧ (receiving [2, 9]).paths[0].extras.mismatch = false ∧
      (receiving [2, 9]).paths[0].settings.channels = (receiving [2, 9]).ret.channels ∧ later 5 0xFFFFFFFF = true) ∧
    (receiving (List.range 64)).ret.queue.length = 64 ∧ (receiving (List.range 47)).ret.queue.length = 47 ∧
    (later 5 5 = false ∧ later 5 6 = false ∧ 14 + 1 < 16 ∧ 16 ≤ 15 + 1 ∧ (receiving []).ret.queue = []) := by
  decide +kernel

theorem witness_ReturnSoundIsPlayed :
    ((receiving (List.range 7)).ret.playing = false ∧
      (receiving (List.range 7)).ret.queue.length < (receiving (List.range 7)).ret.startDepth) ∧
    ((receiving (List.range 8)).ret.startDepth ≤ (receiving (List.range 8)).ret.queue.length ∧
      (receiving (List.range 8)).ret.lastPlayed = some 0xFFFFFFFF ∧ (0 : Word) = 0xFFFFFFFF + 1 ∧
      (5 : Word) ≠ 0xFFFFFFFF + 1) ∧
    (receiving (List.range 17)).ret.queue.tail.length = 16 ∧
    (let s := ready.withRet { ready.ret with
       playing := true, channels := 1, current := some ⟨List.replicate 80 7, 0⟩ }
     s.ret.current = some ⟨List.replicate 80 7, 0⟩ ∧ 48 * 1 ≤ (List.replicate 80 (7 : Sample)).length) ∧
    (receiving []).ret.current = none := by decide +kernel

theorem witness_FormatsReadBackAsBuilt_cells :
    (plainCell .returnAudio (List.replicate 240 255)).payload.length ≤ 240 ∧ farWord.channels < 256 ∧
      farWord.rate < 2 ^ 32 := by decide +kernel

theorem witness_FormatsReadBackAsBuilt_records :
    (let c := aClip .sending
     c.id < 65536 ∧ c.framesSent < 65536 ∧ c.framesTotal < 65536 ∧ c.priority < 8 ∧ c.lanes.length ≤ 6 ∧
       c.tags.length ≤ 4 ∧ (∀ k ∈ c.tags, k ≤ 64) ∧ c.inTc = some ⟨1, 2, 3, 4⟩ ∧
       c.onAir = (List.finRange 6).filter (fun l => decide (l ∈ c.onAir))) := by decide +kernel

/-! ## Witnesses: cell assembly -/

theorem witness_ArbiterChoosesTheLeastLoad :
    choosePath (onPath upPath0) true = some 0 ∧ choosePath ready false = none ∧
    reachesWith .pmrk [3, 128, 127] ready (fun u => u.paths[3].queue.length ≤ 127) ∧ reachesIt .pmrk [0, 2, 0] ready ∧
    reachesIt .pmrk [4, 2, 0] ready ∧ reachesIt .pmrk [0, 1, 0] ready ∧ reachesIt .pmrk [0, 129, 0] ready ∧
    reachesIt .pmrk [0, 2, 2] ready := by decide +kernel

theorem witness_AssemblyServesTheFirstClass :
    (let s := (onPath upPath0).withAsm { ready.asm with control := [plainCell .response []] }
     s.power = true ∧ s.asm.redispatch = [] ∧ s.asm.control ≠ [] ∧ choosePath s false = some 0) ∧
    (let s := (onPath upPath0).withAsm { ready.asm with audio := [plainCell .audio []] }
     s.asm.control = [] ∧ s.asm.audio ≠ [] ∧ choosePath s false = some 0) ∧
    choosePath ready false = none ∧
    (let s := holding [] [pictureCell 0, plainCell .audio []]
     s.asm.control = [] ∧ staleCell s.asm.gen (pictureCell 0) = false ∧ choosePath s true = some 0) ∧
    (let s := (holding [] []).withAsm { ready.asm with staleTags := [64, 1], staleLabels := [5] }
     s.asm.audio = [] ∧ choosePath s false = some 0 ∧ s.clips.staleOverflow = false) ∧
    (let s := (holding [] [pictureCell 0]).withAsm { ready.asm with
       redispatch := [pictureCell 0], audio := [plainCell .audio []], opened := Vector.replicate 4 false }
     choosePath s true = none ∧ choosePath s false = some 0) := by decide +kernel

/-- Path 0 is UP; lane 0's cursor is at a piece of a record of two slices of three pieces each. -/
def cutting (slice piece : Nat) : State :=
  ((holding [] []).withStore (aStore { aRecord with
    complete := true, bytes := 1000, slices := [⟨.coded, some 24, 500, 0⟩, ⟨.coded, some 24, 500, 500⟩] })).withAsm
    { ready.asm with cursors := ready.asm.cursors.set 0 (some ⟨3, slice, piece⟩) }

/-- The same record, with engine 1 at a piece of it. -/
def sending : State :=
  ((cutting 0 0).withAsm ready.asm).withEngines
    (ready.engines.set 1 (some ⟨5, false, some ⟨0, 3, 0, 0⟩, 1⟩))

theorem witness_PictureIsCutInTurns :
    (∀ i : Fin 3, (livePiece (cutting 0 i) 0).isSome = true ∧ (livePiece (cutting 1 i) 0).isSome = true ∧
      choosePath (cutting 0 i) true = some 0 ∧ pieceCount ⟨.coded, some 24, 500, 0⟩ = 3) ∧
    ((cutting 0 0).asm.control = [] ∧ (cutting 0 0).asm.redispatch = [] ∧ (cutting 0 0).asm.audio = [] ∧
      (cutting 0 0).asm.staleTags = [] ∧ (cutting 0 0).asm.staleLabels = [] ∧ aRecord.n = 2 ∧
      (∀ m : Lane, m ≠ 0 → livePiece (cutting 0 0) m = none) ∧ recordsAfter (cutting 1 2).store 0 3 = []) ∧
    ((∀ l, livePiece sending l = none) ∧ (engineOffer sending 1).isSome = true ∧ engineOffer sending 0 = none ∧
      choosePath sending true = some 0) := by decide +kernel

/-- Lane 0 holds three records: ABANDONED, DELTA and one of a kind; its cursor is at the second. -/
def skipping (k : FrameKind) (awaits : Bool) : State :=
  ((onLane (fun c => { c with state := .coding })).withStore { aStore aRecord with
    records := resetStore.records.set 0 [{ aRecord with live := .abandoned },
      { aRecord with tick := 4, kind := .delta }, { aRecord with tick := 17, kind := k }] }).withAsm
    { ready.asm with
      cursors := ready.asm.cursors.set 0 (some ⟨4, 0, 0⟩), awaiting := ready.asm.awaiting.set 0 awaits }

/-- A lag of thirteen ticks, above a limit of twelve. -/
theorem witness_CursorsSeekAndSkip :
    ((skipping .key true).asm.awaiting[0] = true ∧ (skipping .key false).store.records[0].length = 3) ∧
    (let s := skipping .delta false
     s.asm.cursors[0] = some ⟨4, 0, 0⟩ ∧ (newestRecord s.store 0).map FrameRecord.tick = some 17 ∧
       12 < ((17 : Word) - 4).toNat ∧ ((17 : Word) - 4).toNat ≤ 13 ∧ (s.store.records[0].map FrameRecord.tick).Nodup ∧
       (recordsFrom s.store 0 4).all unsent = true ∧ recordsFrom s.store 0 4 ≠ [] ∧ s.lanes[0].state ≠ .off) ∧
    effectiveLimit ((onPath (fun c => upPath0 { c with extras := ⟨some 5, false, false⟩ }))) 0 = 5 := by decide +kernel
/-! ## Witnesses: reading -/

theorem witness_ReadsChangeNothing :
    reachesIt .rdln [5] ready ∧ reachesIt .rdln [6] ready ∧ reachesIt .rdas [] ready ∧ reachesIt .rdst [] ready ∧
    reachesIt .rdmx [0] ready ∧ reachesIt .rdmx [2] ready ∧ reachesIt .rdmx [3] ready ∧
    reachesWith .rdmx [1] ready (fun u => u.mixer.work.isNone) ∧
    reachesWith .rdmx [1] (after .blockRequest ready) (fun u => u.mixer.work.isSome) ∧
    reachesIt .rdpt [3] ready ∧ reachesIt .rdpt [4] ready ∧
    reachesWith .rdcl [5] (withClip (aClip .sent)) (fun u => (findClip u 5).isSome) ∧ reachesIt .rdcl [5] ready ∧
    reachesIt .lscl [255] ready ∧ reachesIt .lscl [256] ready ∧ reachesIt .rdls [] ready ∧ reachesIt .rdrf [] ready := by
  decide +kernel

/-! ## Witnesses: the clip log -/

/-- A full clip log, no clip of which may be retired (R134). -/
def fullLog : State := ready.withClips { ready.clips with clips := List.replicate 256 (aClip .closed) }

theorem witness_MarkInMakesAClip :
    reachesWith .mkin [1, 2, 1500, 0, 0, 5, 64, 1] (withClip (aClip .sent))
      (fun u => tagDefined u 64 && tagDefined u 1 && decide (u.clips.clips.length < 256)) ∧
    reachesWith .mkin [1, 0, 0, 1, 0, 0] (withClip (aClip .sent)) (fun u => !later 0 u.ref.tick) ∧
    reachesWith .mkin [1, 0, 0, 0, 0, 0] fullLog
      (fun u => decide (256 ≤ u.clips.clips.length) && u.clips.clips.all (fun c => c.state != .sent || c.kept)) ∧
    reachesWith .mkin [1, 1, 0, 0, 0, 0, 2] (withClip (aClip .sent)) (fun u => !tagDefined u 2) := by decide +kernel

/-- Both engines are at work. -/
def busyEngines (s : State) : State := s.withEngines (Vector.replicate 2 (some ⟨9, false, none, 1⟩))

theorem witness_ClipsAreClosedAndSent :
    (withClip (aClip .opened)).clips.queue = [] ∧ findClip (withClip (aClip .opened)) 5 = some (aClip .opened) ∧
    reachesWith .mkot [0] ((withClip (aClip .opened)).withRef { ready.ref with tick := 4 })
      (fun u => newestOpen u == some (aClip .opened) && !earlier u.ref.tick 4) ∧
    reachesWith .mkot [5, 4] ((withClip (aClip .opened)).withRef { ready.ref with tick := 9 })
      (fun u => !later 4 u.ref.tick && !earlier 4 4) ∧
    reachesWith .mkot [5] ((withClip (aClip .opened)).withRef { ready.ref with tick := 3 })
      (fun u => earlier u.ref.tick 4) ∧
    reachesWith .mkot [5] (withClip (aClip .sent)) (fun u => u.clips.queue.isEmpty) ∧
    reachesWith .send [5, 7, 1] (busyEngines (withClip (aClip .closed))) (fun u => u.engines.toList.all Option.isSome) ∧
    reachesIt .send [5, 0, 0] (withClip (aClip .opened)) ∧ reachesIt .send [5, 0, 0] (withClip (aClip .sent)) ∧
    reachesWith .send [5, 0, 0] (busyEngines (withClip { aClip .sent with kept := true }))
      (fun u => u.clips.clips.all Clip.kept) ∧
    reachesWith .mkot [5, 4] (busyEngines ((withClip { aClip .opened with sendOnClose := true }).withRef
      { ready.ref with tick := 4 })) (fun u => u.clips.clips.all Clip.sendOnClose && !later 4 u.ref.tick) ∧
    reachesWith .mkot [5, 1] ready (fun u => later 1 u.ref.tick) ∧
    reachesWith .mkot [5] ready (fun u => (findClip u 5).isNone) ∧
    reachesWith .mkot [0] ready (fun u => u.clips.clips.isEmpty) ∧
    reachesIt .send [5, 8, 0] ready ∧ reachesIt .send [5, 7, 2] ready ∧
    reachesWith .send [5, 7, 1] ready (fun u => (findClip u 5).isNone) := by decide +kernel

/-- One OPEN clip on lane 0 with its record and the one of tick 5, under a ceiling. -/
def recording (ceiling : Nat) (c : Clip) : State :=
  (withClip c).withStore { aStore aRecord with
    records := resetStore.records.set 0 [{ aRecord with complete := true, pins := 1 }, { aRecord with tick := 5 }]
    pinned := 1, ceiling := ceiling }

/-- The clip with its first record. -/
def openClip : Clip := { aClip .opened with pins := [(0, 3)] }

/-- The bound of the grant: 65 blocks under a ceiling of 65 and of 64. -/
theorem witness_NewRecordsReachOpenClips :
    (wants openClip 0 .delta = true ∧ wants openClip 1 .key = true ∧ wants openClip 1 .delta = false) ∧
    (let s := recording 65 openClip
     findClip s 5 = some openClip ∧ findRecord s.store 0 5 = some { aRecord with tick := 5 } ∧
       (pinRequest s.store [(0, 5)]).isSome = true ∧ (1, InPoint.pending) ∈ openClip.lanes ∧ s.clips.queue = []) ∧
    pinRequest (recording 64 openClip).store [(0, 5)] = none ∧
    (busyEngines (recording 64 { openClip with sendOnClose := true })).engines.toList.all Option.isSome = true ∧
    (joinQueue ((withClip (aClip .queued)).withClips { (withClip (aClip .queued)).clips with queue := [5] }) 9 3
      = [5, 9]) := by decide +kernel

theorem witness_EnginesSendClips :
    (let c := { aClip .queued with pins := [(0, 3)], keys := false }
     let s := (withClip c).withClips { (withClip c).clips with queue := [5] }
     s.engines[0] = none ∧ s.engines[1] = none ∧ findClip s c.id = some c ∧ walkOf s c c.keys = [(0, 3)] ∧
       c.pins.all (fun q => decide (q.2.toNat < 2147483648)) = true) ∧
    (let c := { aClip .queued with pins := [(0, 3)] }
     walkOf (withClip c) c true = [] ∧ walkOf (storing aRecord) c true = [(0, 3)]) ∧
    (let k := { aClip .sending with pins := [(0, 3)], engine := some 1 }
     let s := sending.withClips (withClip k).clips
     (engineOffer s 1).isSome = true ∧ findClip s 5 = some k ∧ k.pins.Nodup ∧ walkOf s k false = [] ++ [(0, 3)] ∧
       s.clips.queue = []) ∧
    (let y : SliceEntry := ⟨.coded, some 24, 500, 0⟩
     nextPiece aRecord y 0 1 = some (0, 2) ∧ nextPiece aRecord y 0 2 = some (1, 0) ∧ nextPiece aRecord y 1 2 = none) ∧
    reachesWith .disc [5] (withClip { aClip .sending with engine := some 1 }) (fun u => u.clips.queue.isEmpty) ∧
    reachesWith .send [5, 7, 0] (withClip { aClip .closed with pins := [(0, 3)] })
      (fun u => u.clips.queue.isEmpty && u.engines[0].isNone) := by decide +kernel

theorem witness_ClipDirectivesAct :
    reachesIt .tmpl [3, 1, 1, 1500, 1, 7, 1, 5, 64] ready ∧
    reachesWith .keep [5] (withClip (aClip .orphaned)) (fun u => (findClip u 5).isSome) ∧
    reachesWith .keep [5] (withClip (aClip .closed)) (fun u => (findClip u 5).isSome) ∧
    reachesWith .disc [5] (withClip (aClip .queued)) (fun u => (findClip u 5).isSome) ∧
    reachesIt .tagd [64, 24, 1, 2, 3, 4, 5, 6] ready ∧ reachesIt .tagd [1, 0] ready ∧ reachesIt .tagd [0, 0] ready ∧
    reachesIt .tagd [65, 0] ready ∧
    reachesWith .tagc [5, 2, 64, 1] (withClip (aClip .sent)) (fun u => tagDefined u 64 && tagDefined u 1) ∧
    reachesWith .tagc [5, 1, 2] (withClip (aClip .sent)) (fun u => !tagDefined u 2) := by decide +kernel

/-! ## Witnesses: the label store -/

/-- Sector 31 is being erased. -/
def erasingState : State :=
  ready.withLabels { ready.labels with
    mem := [(1015807, 1), (1015808, 2), (1048575, 3)], eraseList := [⟨31, 48, some 5⟩]
    sectors := ready.labels.sectors.set 31 .erasing }

theorem witness_WritesAndErasesEnd :
    (writingState.power = true ∧ Memory.wf labelDefault writingState.labels.mem = true ∧
      writingState.labels.writing.isSome = true) ∧
    ready.labels.writing = none ∧ ready.labels.eraseList = [] ∧
    (Memory.wf labelDefault erasingState.labels.mem = true ∧ erasingState.labels.eraseList = [⟨31, 48, some 5⟩] ∧
      slotAddress 31 0 = 1015808 ∧ slotAddress 32 0 = 1048576) := by decide +kernel

/-- The store is ready with clip 5, and with the label store and the store-dirty list as given. -/
def marking (f : LabelStore → LabelStore) (dirty : List Nat) : State :=
  let s := withClip (aClip .sent)
  (s.withLabels (f s.labels)).withClips { s.clips with dirty := dirty }

/-- Sector 0 is the victim of a compaction and holds the record of clip 5 in slot 255; the head is sector 1. -/
def copying (c : Clip) : State :=
  (withClip c).withLabels { ready.labels with
    compact := .copying 0 255, directory := [⟨5, 0, 255, 4, false⟩], head := some (1, 0), fillOrder := [0] }

theorem witness_LabelWriterAndCompaction :
    (let s := marking (fun g => { g with head := some (31, 255) }) [5]
     s.labels.ready = true ∧ s.labels.writing = none ∧ s.labels.waiting = false ∧ s.labels.compact = .idle ∧
       s.clips.dirty = [5] ∧ s.clips.dirtyOverflow = false ∧ findClip s 5 = some (aClip .sent)) ∧
    (let s := marking (fun g => { g with head := some (0, 0), directory := [⟨9, 0, 0, 4, false⟩] }) [9]
     findClip s 9 = none ∧ (∃ e ∈ s.labels.directory, e.id = 9)) ∧
    (let s := marking (fun g => { g with head := some (0, 0) }) [9]
     s.labels.head.isSome = true ∧ s.labels.directory = []) ∧
    (let s := marking (fun g => { g with sectors := (Vector.replicate 32 .full).set 7 .erased }) [5]
     s.labels.head = none ∧ (s.labels.sectors.toList.filter (fun x => decide (x = .erased))).length = 1 ∧
       s.labels.sectors[7] = .erased ∧ s.labels.sectors[6] ≠ .erased) ∧
    (let c := { aClip .sent with wseq := some 4 }
     nextCopy (copying c) 0 255 = some ⟨5, 0, 255, 4, false⟩ ∧ (copying c).labels.head = some (1, 0)) ∧
    nextCopy (copying (aClip .sent)) 0 255 = none ∧ (copying (aClip .sent)).clips.dirty = [] := by decide +kernel

set_option maxRecDepth 8000 in
theorem witness_ScanFindsTheValidRecords :
    State.reset.power = true ∧ State.reset.labels.ready = false ∧ State.reset.labels.mem = [] ∧
    Memory.wf labelDefault State.reset.labels.mem = true ∧ recordValid (discardedRecord 9 (some 4)) = true ∧
    (parseRecord (discardedRecord 9 (some 4))).clip.id = 9 := by
  decide +kernel

/-! ## Witnesses: the reference unit and the contacts -/

theorem witness_FrameTickCounts :
    ready.power = true ∧
    (let s := ready.withRef { ready.ref with heldTimecode := some ⟨23, 59, 59, 49⟩ }
     s.ref.heldTimecode = some ⟨23, 59, 59, 49⟩ ∧ s.ref.rate = .fps50) ∧
    (ready.ref.heldTimecode = none ∧ ready.ref.timecode.ff + 1 < 50) ∧
    (let s := ready.withRef { ready.ref with timecode := ⟨23, 59, 59, 49⟩ }
     s.ref.timecode = ⟨23, 59, 59, 49⟩) ∧
    (let s := ready.withMixer { ready.mixer with takePending := true }
     s.mixer.takePending = true ∧ s.mixer.takeArmed = none) ∧ ready.mixer.takePending = false ∧
    (onLane (fun c => { c with state := .coding, idle := 1 })).lanes[0].idle < 2 := by decide +kernel

/-- The reference unit in a state, after a pulse at sample 1,000. -/
def refIn (st : RefState) (run : Nat) : State :=
  ready.withRef { ready.ref with
    state := st, run := run, lastPulse := some 1000, lastGood := some 1000, lastTickSample := 960, nextTick := 1920
    clock := 1000, originHoldover := true }

theorem witness_PulsesLockTheReference :
    ready.ref.state = .absent ∧ (refIn .holdover 0).ref.state = .holdover ∧
    ((refIn .locking 2).ref.lastPulse = some 1000 ∧ 1000 + 960 ≤ 1958 + 2 ∧ 1962 ≤ 1000 + 960 + 2 ∧
      1957 + 2 < 1000 + 960 ∧ 1000 + 960 + 2 < 1963 ∧ (refIn .locking 2).ref.run = 2 ∧ (refIn .locking 1).ref.run < 2) ∧
    ((refIn .locked 3).ref.state = .locked ∧ (1920 : Int) + (refIn .locked 3).ref.phase - 2 ≤ 1918 ∧
      (1922 : Int) ≤ 1920 + (refIn .locked 3).ref.phase + 2 ∧
      (960 : Int) + (refIn .locked 3).ref.phase + 2 < 1917 ∧ (1917 : Int) < 1920 + (refIn .locked 3).ref.phase - 2) := by
  decide +kernel

theorem witness_ReferenceIsLostAndSet :
    ((refIn .locking 1).power = true ∧ (refIn .locking 1).ref.lastPulse = some 1000) ∧
    ((refIn .locked 3).ref.state = .locked ∧ (refIn .locked 3).ref.lastGood = some 1000) ∧
    reachesIt .tcod [23, 59, 59, 49] ready ∧ reachesIt .tcod [24, 0, 0, 0] ready ∧ reachesIt .tcod [0, 60, 0, 0] ready ∧
    reachesIt .tcod [0, 0, 60, 0] ready ∧ reachesIt .tcod [0, 0, 0, 50] ready ∧ reachesIt .refr [55] ready ∧
    reachesWith .refr [50] (placingAt 3) (fun u => u.lanes[0].state != .off) ∧
    reachesWith .refr [60] ready (fun u => u.lanes.toList.all (fun c => c.state == .off) && u.ref.rate == .fps50) ∧
    reachesWith .refr [50] ready (fun u => u.ref.rate == .fps50) := by decide +kernel

/-- Contact input 7 as given. -/
def onContact (c : Contact) : State := ready.setContact 7 c

theorem witness_ContactsAreFiltered :
    (let c := (onContact ⟨.take, 0, .both, 10, false, false, none⟩).contacts[7]
     c.raw ≠ true ∧ c.accepted ≠ true ∧ 0 < c.filterMs ∧ c.raw = false ∧ c.filter = none) ∧
    (let c := (onContact ⟨.take, 0, .rising, 10, false, true, some ⟨480, 0⟩⟩).contacts[7]
     c.raw ≠ false ∧ c.accepted = false ∧ c.filter = some ⟨480, 0⟩ ∧ c.fn = .take ∧ c.edge = .rising ∧ c.raw = true) ∧
    (let c := (onContact ⟨.markIn, 3, .falling, 10, false, true, some ⟨480, 0⟩⟩).contacts[7]
     c.filter.isSome = true ∧ c.edge = .falling ∧ c.raw = true) ∧
    reachesWith .cont [7, 4, 0, 2, 255] ready (fun u => u.contacts[7].raw == u.contacts[7].accepted) ∧
    reachesWith .cont [7, 5, 5, 1, 1] (onContact ⟨.take, 0, .both, 10, false, true, none⟩)
      (fun u => u.contacts[7].raw != u.contacts[7].accepted) ∧
    (fnOf 4 = some .take ∧ fnOf 5 = some .tally ∧ edgeOf 2 = some .both ∧ edgeOf 1 = some .falling ∧
      paramOk .tally 5 = true ∧ paramOk .tally 6 = false) ∧
    reachesIt .cont [7, 5, 6, 1, 1] ready ∧ reachesIt .cont [7, 4, 0, 2, 256] ready := by decide +kernel

theorem witness_ContactMarks :
    (let c := (onContact ⟨.markToggle, 3, .both, 10, false, true, some ⟨480, 7⟩⟩).contacts[7]
     c.filter = some ⟨480, 7⟩ ∧ c.edge = .both ∧ c.param = (3 : Fin 4).val) ∧
    (State.reset.labels.ready = false ∧ ready.labels.ready = true ∧ ready.clips.clips.length < 256) ∧
    (256 ≤ fullLog.clips.clips.length ∧ (fullLog.clips.clips.all (fun c => c.state != .sent || c.kept)) = true) ∧
    (let s := withClip (aClip .opened)
     newestOpen s = some (aClip .opened) ∧ findClip s 5 = some (aClip .opened) ∧
       earlier 3 (aClip .opened).inTick = true ∧ earlier 4 (aClip .opened).inTick = false ∧ (aClip .opened).sendOnClose = false ∧ s.clips.queue = []) := by
  decide +kernel

/-! ## Witnesses: the invariants -/

/-- For StepsKeepCanonicalMemories, StepsKeepHandlerBounds, StepsKeepListBounds and StepsKeepRatesInRange. -/
theorem witness_StepsKeepTheInvariants :
    (let s := ready.withPending [.frameTick]
     canonicalMemories s = true ∧ handlerBounds s = true ∧ listBounds s = true ∧ rateInRange s = true ∧
       (match step s with | .next _ => true | _ => false) = true) := by decide +kernel

/-- The blocks from `a` on are a run of numbers. -/
theorem blocksFrom_eq_range' (n a : Nat) : blocksFrom a n = List.range' a n := by
  induction n generalizing a with
  | zero => rfl
  | succ n ih => rw [blocksFrom, ih, List.range'_succ]

/-- The whole store, with one record that a clip pins and the block 0 in its hand. -/
def soundStore : CodedStore :=
  { resetStore with
    free := blocksFrom 1 16383, records := resetStore.records.set 0 [{ aRecord with blocks := [0], pins := 1 }]
    pinned := 64 }

theorem witness_StepsKeepTheStoreSound :
    storeSound soundStore ∧ recordsYoung ((ready.withStore soundStore).withRef { ready.ref with tick := 9 }) := by
  have hblocks : allBlocks soundStore = List.range' 1 16383 ++ [0] := by
    have h : (allRecords soundStore).flatMap (fun p => p.2.blocks) = [0] := by decide +kernel
    rw [allBlocks, h]
    exact congrArg (· ++ [0]) (blocksFrom_eq_range' 16383 1)
  refine ⟨⟨⟨?_, ?_, ?_⟩, by decide +kernel, by decide +kernel, by decide +kernel, by decide, by decide, by decide⟩,
    by unfold recordsYoung; decide +kernel⟩
  · rw [hblocks]
    simp only [List.nodup_append, List.mem_range'_1, List.mem_singleton]
    exact ⟨List.nodup_range' .., List.nodup_singleton 0, fun a h b hb => by omega⟩
  · rw [hblocks]
    simp
  · rw [hblocks]
    simp only [List.mem_append, List.mem_range'_1, List.mem_singleton]
    omega

/-! ## Examples of the chapters -/

/-- Chapter 3, the capacity at one frame start. -/
def sharesState : State :=
  let path := fun (st : PathState) (r : Option Nat) => { resetPath true with state := st, agreed := r }
  let lane := fun (on off : Nat) (tally : Bool) =>
    { resetLane with state := .coding, rate := { resetRate with wOn := on, wOff := off, tallyOn := tally } }
  ((((ready.withPaths #v[path .up (some 12000), path .up (some 8000), path .held (some 6000), path .down none]).withLanes
    #v[lane 8 3 false, lane 8 3 false, lane 8 3 false, lane 6 2 false, resetLane, resetLane]).withAsm
    { ready.asm with clipReserve := 1998 }).withMixer
    { ready.mixer with live := { ready.mixer.live with home := [0, 1, 2, 3] } })

theorem test_shares_of_chapter_3 :
    (workShares 0 true sharesState).lanes.toList.map (fun c => c.rate.rate) = [6665, 2499, 2499, 1666, 0, 0] ∧
      (workShares 0 true sharesState).lanes[0].rate.capacity = ⟨20000, 4608, 13330, 16⟩ := by decide +kernel

/-- Chapter 3, budget and allotment of lanes 0 and 3. -/
theorem test_allotments_of_chapter_3 :
    (let a := makeAllotment 1 .delta 68 50 { resetRate with rate := 6665 }
     let k := makeAllotment 1 .key 68 50 { resetRate with rate := 6665 }
     let b := makeAllotment 1 .delta 68 50 { resetRate with rate := 1666 }
     a.t = 16662 ∧ sliceAllotment a 1 = 246 ∧ sliceAllotment a 2 = 245 ∧ k.t = 66648 ∧ sliceAllotment k 7 = 981 ∧
       sliceAllotment k 8 = 980 ∧ b.bf = 4352 ∧ sliceAllotment b 67 = 64) := by decide

/-- Chapter 5, the bus arithmetic at the limit. -/
theorem test_bus_arithmetic_of_chapter_5 :
    roundUnity (busSum [4000000, 3000000] [16384, 23170]) = 8242554 ∧
    busOut [4000000, 3000000] [16384, 23170] 16384 = 8242554 ∧
    busOut [4000000, 3000000] [16384, 23170] 18000 = 9055540 ∧ saturate 9055540 = 8388607 := by decide

/-- Chapter 5, a take at 60 frames per second, and a ramp broken by a take. -/
theorem test_ramps_of_chapter_5 :
    (let c := retarget 480 16384 (restCoef 0)
     coefAt c 1 = 34 ∧ coefAt c 48 = 1638 ∧ coefAt c 480 = 16384) ∧
    (let c := retarget 4800 8224 (coefAfter 960 (retarget 4800 16384 (restCoef 0)))
     c.start = 3276 ∧ coefAt c 1 = 3277 ∧ coefAt c 2400 = 5750 ∧ coefAt c 4800 = 8224) := by decide +kernel

/-- Chapter 10, the lock samples of the two pulses of the example. -/
theorem test_locks_of_chapter_10 :
    lockSample .fps50 102380 = 102384 ∧ lockTick .fps50 101760 102384 = 102384 ∧
    lockSample .fps50 101900 = 101904 ∧ lockTick .fps50 101760 101904 = 102864 := by decide

/-- Chapter 1, an audio lane through a poor minute: the packet with a gap, and the overrun. -/
theorem test_audio_of_chapter_1 :
    (let s := ready.setAudio 1 ⟨⟨some 501, 0⟩, [[]]⟩
     let t := after (.frameReceived (frame 9 2 1 503 0 (List.replicate 1152 0))) s
     t.port.audio[1].seq = ⟨some 504, 0⟩ ∧ t.port.audio[1].blocks.length = 2 ∧ (.laneGap, 9) ∈ t.handler.flags) ∧
    (let s := ready.setAudio 1 ⟨⟨some 504, 1⟩, [[], []]⟩
     let t := after (.frameReceived (frame 9 2 3 504 0 (List.replicate 3456 0))) s
     t.port.audio[1].seq = ⟨some 505, 0⟩ ∧ t.port.audio[1].blocks.length = 2 ∧ (.laneOverrun, 9) ∈ t.handler.flags) := by
  decide +kernel

/-- Chapter 7, the arbiter sharing two paths. -/
def twoPaths (a b : Nat) : State :=
  let path := fun (r n : Nat) =>
    { resetPath true with state := .up, agreed := some r, queue := List.replicate n (plainCell .video []) }
  ready.withPaths #v[path 12000 a, path 8000 b, resetPath false, resetPath false]

theorem test_arbiter_of_chapter_7 :
    choosePath (twoPaths 30 18) true = some 1 ∧ choosePath (twoPaths 30 19) true = some 1 ∧
    choosePath (twoPaths 30 20) true = some 0 ∧ choosePath (twoPaths 31 20) true = some 1 := by decide +kernel

/-- Chapter 4, a pin on a frame being written, and a CEIL between, with figures that R69 allows
(notes/assumptions/59.md). -/
theorem test_ceiling_of_chapter_4 :
    (let s := ready.withStore { resetStore with pinned := 1014, ceiling := 1024 }
     resultOf .ceil [1000] s = some .range) ∧
    (let s := ready.withStore { resetStore with pinned := 1100, ceiling := 1124 }
     resultOf .ceil [1050] s = some .state) ∧
    (completeRecord { (aStore { aRecord with pins := 1, blocks := [9, 8, 7] }) with pinned := 1014 } 0 3).pinned = 953 := by
  decide +kernel

/-- Chapter 11, a burst from the van: a packet departs, and the held response takes the freed place. The next directive
is taken by its own command (notes/assumptions/8.md), and its response is held in the same way. -/
theorem test_held_response_of_chapter_11 :
    (let t := after .transmitterFree { busyPort with port := { busyPort.port with bus := none } }
     t.port.held = none ∧ t.port.egress.length = 32 ∧ t.port.egress.getLast? = some (.response aResponse)) ∧
    (let q : List QueuedDirective := [⟨dirWord .lkey, van [2]⟩, ⟨dirWord .rdst, van []⟩]
     let t := after .transmitterFree
       { busyPort with port := { busyPort.port with bus := none }, handler := { ready.handler with queue := q } }
     let u := after (.lkey (van [2])) t
     t.handler.queue = q ∧ t.port.held = none ∧ u.handler.queue = q.tail ∧
       u.port.held.map Response.name = some (dirWord .lkey)) := by
  decide +kernel

/-- Chapter 10, a bouncing button: the filter runs with the tick of the close, and a bounce stops it. -/
theorem test_bounce_of_chapter_10 :
    (let s := (onContact ⟨.markIn, 1, .rising, 20, false, false, none⟩).withRef { ready.ref with tick := 500, clock := 864 }
     let t := after (.contactRawChange 7 true) s
     let u := after (.contactRawChange 7 false) t
     t.contacts[7].filter = some ⟨1824, 500⟩ ∧ t.contacts[7].accepted = false ∧ u.contacts[7].filter = none ∧
       u.handler.counters[ctrContactFiltered] = 1) := by decide +kernel

/-! ## Points that the rules settle and that are easily lost -/

/-- R146: of two clips that a refused pin closes, the first in the log joins the empty queue and takes engine 0,
although the second has the higher priority. -/
theorem test_engine_of_the_first_ceiling_close :
    (let c := { openClip with sendOnClose := true, keys := false, priority := 3, lanes := [(0, .at 3)] }
     let s := (recording 64 c).withClips { (withClip c).clips with clips := [c, { c with id := 6, priority := 7 }] }
     ((newRecord 0 5 s).engines.toList.map (fun e => e.map Transfer.clip) = [some 5, some 6])) := by decide +kernel

/-- R27: a line beyond the active lines does not become the fill line. -/
theorem test_fill_line_of_chapter_2 :
    (let s := (placingAt 3).modLane 0 (fun c => { c with placing := none, fill := some [1] })
     (takeLine 0 (aLine 40) s).lanes[0].fill = some [1] ∧ (takeLine 0 (aLine 4) s).lanes[0].fill = some lineBytes) := by
  decide +kernel

/-- R90: during the block at which a take is applied the read still gives the bank, the take and the ramp length as they
stood at the completion of the block before. -/
theorem test_live_read_of_chapter_5 :
    (let s := (armed 0).withMixer { (armed 0).mixer with lastView := viewNow (armed 0).mixer }
     let t := after .blockRequest (s.withMixer { s.mixer with ramp := 0 })
     t.mixer.live.delays[3] = 7 ∧ t.mixer.takeArmed = none ∧ (viewNow t.mixer).bank.delays[3] = 0 ∧
       (viewNow t.mixer).takeArmed = some 1 ∧ (viewNow t.mixer).ramp = 480) := by decide +kernel

/-- R88: at 60 a tick falls on sample 800, inside block 16, and may come after that block has completed; the cell of the
period that begins there has that tick and offset 0, as it is stamped when it is handed on. -/
theorem test_tick_after_the_completion :
    (periodBlock [5] 800 [[7], [8]] none none).1 = some ⟨[5], 800, [[7], [8]]⟩ ∧
    (let s := ready.withRef { ready.ref with rate := .fps60, nextTick := 800 }
     let cells := fun s : State => (handPeriod ⟨[5], 800, []⟩ [5] s).asm.audio.map (fun x => (x.tick, x.unit))
     cells (after .frameTick s) = [(1, 5 * 4096)] ∧ cells s = [(0, 5 * 4096 + 800)]) := by decide +kernel

/-- R121: a VIDEO cell that turns stale at the front of the redispatch list is dropped and counted at once. -/
theorem test_stale_front_of_chapter_7 :
    (let t := enterAwaiting 0 (holding [] [pictureCell 0, plainCell .audio [], pictureCell 0])
     t.asm.redispatch = [plainCell .audio [], pictureCell 0] ∧ t.handler.counters[ctrRedispatchDropped] = 1) := by
  decide +kernel

/-! ## Witnesses of further clauses, each under the name of its statement -/

/-- Lane 0 is CODING with no FREE buffer, the slice in progress as given. -/
def overrunLane (b : Option BegunSlice) : State :=
  onLane (fun c => { c with
    state := .coding, prev := some 0, frame := some (aFrame 0 b), engine := some ⟨0, 24⟩, pass := [⟨2, 1, some 0, none⟩]
    buffers := Vector.replicate 2 ⟨.ready, 2, 1, [], none⟩ })

/-- R29: the first line of an overrun slice, one inside it and its last line. -/
theorem witness_LinesAreTakenByState_overrun :
    (let c := (overrunLane none).lanes[0]
     (∀ b : Fin 2, c.buffers[b].state ≠ .free) ∧ c.idle < 2 ∧ beginsFrame c.prev (aLine 3) = false ∧
       (aLine 3).number / 16 = 0 ∧ 3 ≠ lastLineOf small 0 ∧ c.placing = none) ∧
    (let c := (overrunLane (some ⟨0, none⟩)).lanes[0]
     15 = lastLineOf small 0 ∧ 0 + 1 < sliceCount small ∧ c.engine.isSome = true ∧ c.pass = [⟨2, 1, some 0, none⟩]) ∧
    ((takeLine 0 (aLine 15) (overrunLane (some ⟨0, none⟩))).lanes[0].pass.length = 2) := by decide +kernel

/-- R58, R59: before a sound store with its reserve; and a frame that starts while one is in progress (R22). -/
theorem witness_FrameStartsMakeRecords_store :
    (let s := starting.withStore resetStore
     storeSound s.store ∧ reserveMet s.store = true ∧ s.store.free ≠ [] ∧ tickTest s.store 0 s.ref.tick = true) ∧
    (let c := (overrunLane none).lanes[0]
     c.state = .coding ∧ c.idle < 2 ∧ beginsFrame c.prev ⟨14, true, lineBytes⟩ = true ∧
       lineBytes.length = 2 * (c.held.getD c.format).width ∧ c.frame.isSome = true) := by
  have hblocks : allBlocks resetStore = List.range' 0 16384 := by
    have h : (allRecords resetStore).flatMap (fun p => p.2.blocks) = [] := by decide +kernel
    rw [allBlocks, h, List.append_nil]
    exact blocksFrom_eq_range' 16384 0
  refine ⟨⟨⟨⟨?_, ?_, ?_⟩, by decide +kernel, by decide +kernel, by decide +kernel, by decide, by decide, by decide⟩,
    by decide +kernel, ?_, by decide +kernel⟩, by decide +kernel⟩
  · show (allBlocks resetStore).Nodup
    rw [hblocks]; exact List.nodup_range' ..
  · show (allBlocks resetStore).length = 16384
    rw [hblocks]; simp
  · show ∀ b ∈ allBlocks resetStore, b < 16384
    rw [hblocks]; simp only [List.mem_range'_1]; omega
  · intro h; cases h

/-- Lane 0 in a state with two idle ticks behind it, a frame and a pass list. -/
def idling (st : LaneState) (f : Option FrameInProgress) (l : List PassEntry) : State :=
  onLane (fun c => { c with state := st, idle := 2, frame := f, pass := l, engine := some ⟨0, 24⟩ })

/-- R31 to R34: a lane stalls with a frame in progress; a DRAINING lane stays for its pass list, or ends. -/
theorem witness_PlacedLinesAndStalls_frame :
    (let s := idling .coding (some (aFrame 1 (some ⟨1, some 1⟩))) [⟨3, 0, some 0, none⟩]
     2 ≤ s.lanes[0].idle ∧ s.lanes[0].state = .coding ∧ 1 < sliceCount small ∧ s.lanes[0].engine.isSome = true ∧
       (endFrame 0 s).lanes[0].pass.length = 2) ∧
    (let s := idling .draining (some (aFrame 1 none)) [⟨3, 0, some 0, none⟩]
     2 ≤ s.lanes[0].idle ∧ s.lanes[0].state = .draining ∧
       (endFrame 0 (s.setLane 0 { s.lanes[0] with idle := 0 })).lanes[0].pass ≠ []) ∧
    (idling .draining none []).lanes[0].frame = none ∧
    ((idling .draining (some { aFrame 1 none with disposition := .dropped }) []).lanes[0].pass = []) := by
  decide +kernel

/-- Lane 0's engine is at the slice `i` of its frame; the other slice is READY in buffer 0 when asked. -/
def codingSlice (st : LaneState) (i : Nat) (ready : Bool) : State :=
  (codingState st).modLane 0 (fun c => { c with
    frame := none, pass := ⟨3, i, some 1, none⟩ :: (if ready then [⟨3, 1, some 0, none⟩] else [])
    buffers := c.buffers.set 0 ⟨if ready then .ready else .free, 3, 1, [(16, lineBytes)], none⟩ })

/-- R45, R62, R28, R33: a slice above its cap, the last slice of a frame, a slice with a READY one behind it, the last
slice of a DRAINING lane; R47: a forced slice of a DELTA and of a KEY frame. -/
theorem witness_CodedSlicesArePassed_more :
    (let a : Allotment := ⟨3, .delta, 2, 1000, 1000, 1, 4, 8, 52⟩
     sliceAllotment a 0 * a.capF < 3072 ∧ 3072 ≤ codingWidth (codingSlice .coding 0 false).lanes[0] * 48 ∧
       1 + 1 = a.n ∧ 0 + 1 < a.n ∧ a.kind = .delta) ∧
    (let c := (codingSlice .coding 0 true).lanes[0]
     let c1 := { c with engine := none, buffers := c.buffers.set 1 freeBuffer, pass := [⟨3, 1, some 0, none⟩] }
     c.rate.force = false ∧ firstReady c1 = some 0 ∧ entryIn c1 0 = some ⟨3, 1, some 0, none⟩ ∧
       (findAllotment c1.rate 3).isSome = true) ∧
    (let c := (codingSlice .draining 1 false).lanes[0]
     c.state = .draining ∧ c.frame = none ∧ c.pass = [⟨3, 1, some 1, none⟩] ∧ c.engine = some ⟨1, 24⟩) ∧
    (let c := (codingSlice .coding 0 false).lanes[0]
     entryIn { c with engine := none, rate := { c.rate with force := true } } 1 = some ⟨3, 0, some 1, none⟩) ∧
    (let t := beginCoding 0 1 ((codingSlice .coding 0 false).modLane 0 (fun c => { c with
       engine := none, rate := { c.rate with force := true } }))
     t.lanes[0].pass = [] ∧ t.lanes[0].rate.force = false) := by decide +kernel

/-- R50: the raw index of a bucket at its midpoint is q_ref; R48: the debt of a KEY frame. -/
theorem witness_RatesStayInRange_more :
    resetRate.settings.qmin ≤ resetRate.settings.qmax ∧
    (rateAfterSlice 64 64 { resetRate with fullness := resetRate.settings.cb / 2 }).q = resetRate.settings.qref ∧
    (addDebt (makeAllotment 5 .key 68 50 { resetRate with rate := 100 }) { resetRate with fullness := 0 }).fullness
      = (resetRate.settings.kw - 1) * 4352 := by decide

/-- R49, R60, R61: a plain slice, one past the frame cap, one past the free list, and one of a spoiled frame. -/
theorem witness_AppendedSliceReadsBack_plain :
    (findRecord (aStore { aRecord with spoiled := true }) 0 3 = some { aRecord with spoiled := true }) ∧
    (findRecord (aStore { aRecord with bytes := 1048570 }) 0 3 = some { aRecord with bytes := 1048570 } ∧
      1048576 < 1048570 + 32) ∧
    (aRecord.bytes + 100000 ≤ 1048576 ∧
      (aStore aRecord).free.length < blocksNeeded (aRecord.bytes + 100000) - aRecord.blocks.length) := by
  decide +kernel

/-- Block `n` is in work, with the cell period given and the same sample in every source. -/
def working (n : Nat) (x : Sample) (q : Option CellPeriod) : State :=
  ready.withMixer { ready.mixer with
    block := n, work := some ⟨List.replicate 48 (List.replicate 36 x), Vector.replicate 36 24⟩, period := q }

/-- A cell period of two buses. -/
def aPeriod : Option CellPeriod := some ⟨[5, 2], 0, []⟩

/-- R87: a period that begins, goes on, ends with the block and ends inside it; R122: a full audio list. -/
theorem witness_BlockCompletionBuildsTheBusPacket_cells :
    ready.power = true ∧ (working 0 1 aPeriod).mixer.work.isSome = true ∧
    (48 * 0 % 80 = 0 ∧ 48 * 2 % 80 = 16 ∧ 48 * 4 % 80 = 32 ∧ 48 * 1 % 80 = 48) ∧
    ((working 4 1 aPeriod).mixer.period = some ⟨[5, 2], 0, []⟩ ∧ ([5, 2] : List (Fin 8)).Nodup ∧
      (working 4 1 aPeriod).asm.audio.length + 2 ≤ 48) ∧
    (let s := ready.withAsm { ready.asm with audio := List.replicate 48 (plainCell .audio []) }
     48 ≤ s.asm.audio.length) ∧
    ready.ref.recent = [(0, 0)] := by decide +kernel

/-- R80: two sources of full scale clip a bus, and R72 counts the clips sample by sample: bus 2 in the first sample, buses
1 and 2 in the second; each bus is reported once. -/
theorem test_clips_in_sample_order :
    ((sourceStage 24 false 0 0 [8388607] ⟨0, .steady, 48⟩ ⟨0, []⟩).1 = [8388607] ∧
      clips (busOut [8388607, 8388607] [16384, 16384] 16384) = true) ∧
    clippedBuses [[0, 0, 8388608], [0, -8388609, 8388608]] = [2, 1, 2] ∧
    (let t := countClips [2, 1, 2] ready
     t.mixer.clipCount.toList = [0, 1, 2, 0, 0, 0, 0, 0] ∧ t.handler.counters[ctrBusClips] = 3 ∧
       t.port.egress = [.notice .busClip 2 0, .notice .busClip 1 0]) := by decide +kernel

/-- R86: a coefficient inside its ramp. -/
theorem witness_SourcesBusesAndRamps_mid :
    (let c : Coef := ⟨0, 16384, 0, 0, 480⟩
     c.step + 48 ≤ c.length ∧ c.step < c.length ∧ (coefAfter 48 c).value = 1638) := by decide

/-- R96, R102: offer words with a fault in EXCHANGE and in UP, and cells that wait at a far restart. -/
theorem witness_ExchangeAndRestart_faults :
    comesOffer { farWord with ack := false, fault := 2 } ∧ comesOffer { farWord with rate := 2000, fault := 1 } ∧
    (inRound .exchange 0).paths[0].state = .exchange ∧
    (let s := holding [pictureCell 0, plainCell .audio []] [pictureCell 0]
     (∀ y ∈ s.asm.redispatch ++ s.paths[0].queue, staleCell s.asm.gen y = false) ∧
       (s.asm.redispatch ++ s.paths[0].queue).length ≤ 512) := by decide +kernel

set_option maxRecDepth 8000 in
/-- R106: a path with a format mismatch, and one whose channel count is not the receiver's. -/
theorem witness_ReturnReceiverTakesCells_format :
    (let c := (onPath (fun c => upPath0 { c with extras := ⟨none, true, false⟩ })).paths[0]
     c.state = .up ∧ c.extras.mismatch = true) ∧
    (let s := (receiving []).withRet { ready.ret with channels := 4 }
     s.paths[0].settings.channels ≠ s.ret.channels) ∧
    (parseCell (returnCellFrom 5)).map InboundCell.kind = some .returnAudio := by decide +kernel

/-- A full log whose second clip alone may be retired. -/
def retiring : State :=
  let s := withClip (aClip .sent)
  s.withClips { s.clips with
    clips := (List.range 256).map (fun i => { aClip (if i = 1 then .sent else .closed) with id := i + 1 }) }

theorem witness_MarkInMakesAClip_retire :
    reachesWith .mkin [1, 1, 0, 0, 0, 0, 64] retiring (fun u => tagDefined u 64 && u.clips.clips.length == 256) ∧
    (retiring.clips.clips.map Clip.id).Nodup ∧
    ((retiring.clips.clips.take 1).all (fun x => x.state != .sent)) = true ∧
    retiring.clips.clips[1]?.map (fun k => (k.state, k.kept)) = some (.sent, false) := by decide +kernel

/-- The store of three records of lane 0: KEY at 3, DELTA at 5 and KEY at 9, each of one block, the ceiling as given. -/
def pointStore (ceiling : Nat) : CodedStore :=
  { aStore aRecord with
    ceiling := ceiling
    records := resetStore.records.set 0 ([(3, FrameKind.key), (5, .delta), (9, .key)].map (fun p =>
      { aRecord with tick := p.1, kind := p.2, complete := true })) }

/-- R135: targets on a KEY record, behind it and before every one. R136: the earliest in-point moves on, and at last the
lane is PENDING. -/
theorem witness_MarkInMakesAClip_points :
    (choosePoint (pointStore 64) 9 0 = (.at 9, false) ∧ choosePoint (pointStore 64) 8 0 = (.at 3, false) ∧
      choosePoint (pointStore 64) 3 0 = (.at 3, false) ∧ choosePoint (pointStore 64) 2 0 = (.at 3, true) ∧
      choosePoint (pointStore 64) 9 1 = (.pending, true)) ∧
    (pinRequest (pointStore 2) (namedRecords (pointStore 2) [(0, .at 3)]) = none ∧
      earliestPoint [(1, InPoint.pending), (0, .at 3), (2, .at 3)] = some (0, 3) ∧
      (pinRequest (pointStore 3) (namedRecords (pointStore 3) [(0, .at 3)])).isSome = true) ∧
    (stepPoint (pointStore 2) 0 3 = .at 9 ∧ stepPoint (pointStore 2) 0 9 = .pending ∧
      (pointStore 2).records[0].map FrameRecord.kind = [.key, .delta, .key]) := by decide +kernel

/-- The MKIN of lane 0 under a ceiling that lets one of the three records be pinned. -/
theorem test_mark_in_under_the_ceiling :
    (let s := (ready.withStore (pointStore 1)).withRef { ready.ref with tick := 9 }
     let t := after (directiveCommand .mkin (van [1, 0, 4, 0, 0, 0])) s
     (t.clips.clips.map (fun c => (c.lanes, c.short, c.pins))) = [([(0, .at 9)], true, [(0, 9)])]) := by decide +kernel

/-- The end of a write in the last slot and before it; erases of a sector with and without a head (R152, R158). -/
theorem witness_WritesAndErasesEnd_sectors :
    (writingState.labels.writing.map (fun w => (w.sector, w.slot, w.copy, w.discarded)) = some (31, 255, false, false) ∧
      writingState.labels.compact = .idle ∧ writingState.clips.dirty = []) ∧
    ((after .recordWriteEnd writingState).labels.fillOrder = [31] ∧
      (after .recordWriteEnd writingState).labels.head = none) ∧
    (erasingState.labels.ready = true ∧ 31 ∉ erasingState.labels.fillOrder ∧ erasingState.labels.head = none ∧
      erasingState.labels.compact = .idle) ∧
    (let s := erasingState.withLabels { erasingState.labels with head := some (3, 7) }
     s.labels.head.isSome = true ∧ (after .eraseEnd s).labels.sectors[31] = .erased) := by decide +kernel

set_option maxRecDepth 8000 in
/-- R163: while a record is written RDLS gives the slot and the record. -/
theorem test_writer_state_of_RDLS :
    (labelReport writingState).writing
      = some ⟨31, 255, 5, 0, false, clipRecord (aClip .sent) (some 0)⟩ := by decide +kernel

/-! ## Witnesses: the start-up scan over a memory that is not erased -/

/-- A record that every slot may hold. -/
def aRecordBytes : List Byte := discardedRecord 9 (some 4)

/-- The memory with that record in the first `n` slots of a sector. -/
def filled (k : Nat) : Nat → Memory
  | 0 => []
  | n + 1 => Memory.writeRun labelDefault (filled k n) (slotAddress k n) aRecordBytes

theorem aRecordBytes_length : aRecordBytes.length = 128 := by decide +kernel

theorem filled_wf (k : Nat) : ∀ n, Memory.wf labelDefault (filled k n) = true
  | 0 => rfl
  | n + 1 => Memory.wf_writeRun (filled_wf k n)

theorem readRun_congr {m m' : Memory} : ∀ (n a : Nat),
    (∀ x, a ≤ x → x < a + n → Memory.read labelDefault m x = Memory.read labelDefault m' x) →
    Memory.readRun labelDefault m a n = Memory.readRun labelDefault m' a n
  | 0, _, _ => rfl
  | n + 1, a, h => by
    simp only [Memory.readRun]
    rw [h a (by omega) (by omega), readRun_congr n (a + 1) (fun x h1 h2 => h x (by omega) (by omega))]

theorem slotBytes_nil (k i : Nat) : slotBytes [] k i = List.replicate 128 labelDefault := by
  have h : ∀ n a, Memory.readRun labelDefault [] a n = List.replicate n labelDefault := by
    intro n
    induction n with
    | zero => intro a; rfl
    | succ n ih => intro a; simp only [Memory.readRun, ih]; rfl
  exact h 128 _

/-- A slot of a sector after a record of 128 bytes is written into one. -/
theorem slotBytes_writeRun {m : Memory} {bs : List Byte} (h : Memory.wf labelDefault m = true) (hl : bs.length = 128)
    (k n i : Nat) :
    slotBytes (Memory.writeRun labelDefault m (slotAddress k n) bs) k i = if i = n then bs else slotBytes m k i := by
  split
  · rename_i hi
    subst hi
    rw [slotBytes, ← hl]; exact Memory.readRun_writeRun h
  · refine readRun_congr 128 _ (fun x h1 h2 => ?_)
    rw [Memory.read_writeRun h, if_neg]
    simp only [slotAddress] at *; omega

/-- Its slots: the record in the first `n`, erased memory in the others. -/
theorem slotBytes_filled (k i : Nat) : ∀ n,
    slotBytes (filled k n) k i = if i < n then aRecordBytes else List.replicate 128 labelDefault
  | 0 => slotBytes_nil k i
  | n + 1 => by
    rw [filled, slotBytes_writeRun (filled_wf k n) aRecordBytes_length, slotBytes_filled k i n]
    by_cases h1 : i = n
    · rw [if_pos h1, if_pos (by omega)]
    · rw [if_neg h1]; congr 1; simp only [eq_iff_iff]; omega

set_option maxRecDepth 8000 in
/-- A sector of one valid slot, of 255 and of 256 valid slots, and an erased one: the classes of R159 at their bounds. -/
theorem witness_ScanFindsTheValidRecords_classes :
    (∀ m, Memory.wf labelDefault (filled 7 m) = true ∧
      (∀ n, n < m → recordValid (slotBytes (filled 7 m) 7 n) = true) ∧
      ∀ n, m ≤ n → slotBytes (filled 7 m) 7 n = List.replicate 128 0xFF) := by
  have hv : recordValid aRecordBytes = true := by decide +kernel
  intro m
  refine ⟨filled_wf 7 m, fun n hn => ?_, fun n hn => ?_⟩
  · rw [slotBytes_filled, if_pos hn, hv]
  · rw [slotBytes_filled, if_neg (by omega)]; rfl

set_option maxRecDepth 8000 in
/-- A slot that holds no record, and the memory with it in slot 1 of sector 7. -/
def badSlot : List Byte := List.replicate 5 0xFF ++ [3] ++ List.replicate 122 0xFF
def tornMemory : Memory := Memory.writeRun labelDefault [] (slotAddress 7 1) badSlot

theorem badSlot_length : badSlot.length = 128 := by decide +kernel

/-- A bad slot, and a programmed slot after an erased one: a torn sector. -/
theorem witness_ScanFindsTheValidRecords_torn :
    Memory.wf labelDefault tornMemory = true ∧ slotBytes tornMemory 7 1 = badSlot ∧
      slotBytes tornMemory 7 0 = List.replicate 128 0xFF ∧ badSlot ≠ List.replicate 128 0xFF ∧
      recordValid badSlot = false := by
  refine ⟨Memory.wf_writeRun rfl, ?_, ?_, by decide +kernel, ?_⟩
  · rw [tornMemory, slotBytes_writeRun rfl badSlot_length, if_pos rfl]
  · rw [tornMemory, slotBytes_writeRun rfl badSlot_length, if_neg (by omega), slotBytes_nil]; rfl
  · have h : (get16 badSlot 126 == 0x3C3C) = false := by decide +kernel
    rw [recordValid, h, Bool.and_false, Bool.false_and]

/-- R169: the carries at 50 and the cut of a held timecode. -/
theorem test_carries_of_the_timecode :
    (let tc := fun (rate : FrameRate) (now : Timecode) (held : Option Timecode) =>
       (after .frameTick (ready.withRef { ready.ref with rate := rate, timecode := now, heldTimecode := held })).ref.timecode
     tc .fps50 ⟨1, 2, 3, 49⟩ none = ⟨1, 2, 4, 0⟩ ∧ tc .fps50 ⟨1, 2, 59, 49⟩ none = ⟨1, 3, 0, 0⟩ ∧
       tc .fps60 ⟨1, 59, 59, 59⟩ none = ⟨2, 0, 0, 0⟩ ∧ tc .fps60 ⟨23, 59, 59, 59⟩ none = ⟨0, 0, 0, 0⟩ ∧
       tc .fps50 ⟨0, 0, 0, 0⟩ (some ⟨1, 2, 3, 55⟩) = ⟨1, 2, 3, 49⟩) := by decide +kernel

/-- R170: the next tick after a REFR: one new period after the last, or, where that has passed, soon after the REFR. -/
theorem witness_ReferenceIsLostAndSet_next :
    rateTick .fps60 960 1000 = 1760 ∧ rateTick .fps60 960 1761 = 1762 ∧ rateTick .fps50 100 1000 = 1104 ∧
    (100 : Nat) + 960 ≤ 1104 ∧ (1104 : Nat) < 100 + 1008 ∧ 1104 % 48 = 0 ∧ rateTick .fps50 100 1105 = 1152 := by decide

/-- R26, R31: the placing of the last line of the frame's last slice. -/
theorem witness_PlacedLinesAndStalls_last :
    (let c := (placingAt 31).lanes[0]
     31 = lastLineOf small 1 ∧ 1 + 1 = sliceCount small ∧ 31 / 16 = 1 ∧ c.engine = some ⟨0, 24⟩ ∧
       c.pass = [⟨2, 1, some 0, none⟩]) ∧
    (let s := (placingAt 31).modLane 0 (fun c => { c with frame := some (aFrame 1 (some ⟨1, some 1⟩)) })
     (after (.linePlaced 0) s).lanes[0].frame = none ∧ (after (.linePlaced 0) s).lanes[0].fill = none ∧
       (after (.linePlaced 0) s).lanes[0].pass.length = 2) := by decide +kernel

/-- Lane 0 is CODING in a frame of five slices, its engine at work, buffer 1 as given. -/
def skippingLane (b : BufferState) (begun : Option BegunSlice) : State :=
  let fmt : Format := ⟨64, 80, 2⟩
  onLane (fun c => { c with
    state := .coding, format := fmt, prev := some 0, frame := some { aFrame 0 begun with format := fmt }
    engine := some ⟨0, 24⟩, pass := [⟨2, 1, some 0, none⟩], fill := some lineBytes
    buffers := #v[⟨.coding, 2, 1, [], none⟩, ⟨b, 3, 0, [], none⟩] })

/-- R26, R27: the first line of a later slice with a FREE buffer, and a line that skips slices, with and without one. -/
theorem witness_LinesAreTakenByState_skips :
    (let s := skippingLane .free none
     s.lanes[0].buffers[1].state = .free ∧ (aLine 3).number / 16 = 0 ∧
       (takeLine 0 (aLine 3) s).lanes[0].buffers[1].lines = [(3, lineBytes)]) ∧
    (let c := (skippingLane .free none).lanes[0]
     c.idle < 2 ∧ beginsFrame c.prev (aLine 35) = false ∧ lineBytes.length = 2 * 64 ∧ 35 / 16 = 2 ∧ 0 < 2 ∧
       35 ≠ lastLineOf ⟨64, 80, 2⟩ 2 ∧ c.placing = none ∧ c.pass.map PassEntry.done = [none]) ∧
    (let t := takeLine 0 (aLine 35) (skippingLane .free none)
     t.lanes[0].pass.map PassEntry.buffer = [some 0, some 1, none] ∧ t.lanes[0].placing = none) ∧
    (let t := takeLine 0 (aLine 19) (skippingLane .filling (some ⟨0, some 1⟩))
     t.lanes[0].buffers[1].state = .ready ∧ t.lanes[0].placing = none ∧ t.lanes[0].pass.length = 2) ∧
    (let t := takeLine 0 (aLine 19) (skippingLane .free (some ⟨0, none⟩))
     t.lanes[0].placing = some ⟨3, 19⟩ ∧ t.lanes[0].pass.length = 2) := by decide +kernel

/-- A lane frame start with a cursor, an OPEN clip and a record before it; and one that the store refuses. -/
theorem witness_FrameStartsMakeRecords_general :
    (let s0 := (starting.withStore { aStore aRecord with free := blocksFrom 10 64 }).withRef { ready.ref with tick := 9 }
     let s := (s0.withAsm { ready.asm with cursors := ready.asm.cursors.set 0 (some ⟨3, 0, 0⟩) }).withClips
       { ready.clips with clips := [aClip .opened] }
     s.lanes[0].lastTick ≠ some s.ref.tick ∧ tickTest s.store 0 9 = true ∧ s.asm.cursors[0].isSome = true ∧
       (let t := takeLine 0 ⟨14, true, lineBytes⟩ s
        t.lanes[0].frame.map FrameInProgress.disposition = some .stored ∧ t.asm.effLimit[0] = effectiveLimit s 0)) ∧
    (let s := (starting.withStore (aStore aRecord)).withRef { ready.ref with tick := 3 }
     tickTest s.store 0 3 = false ∧
       (takeLine 0 ⟨14, true, lineBytes⟩ s).lanes[0].frame.map FrameInProgress.disposition = some .dropped) := by
  decide +kernel

/-- R53: a frame in another block, beside the record that grows. -/
theorem witness_AppendedSliceReadsBack_others :
    (∀ b ∈ [7, 8], b ∉ aRecord.blocks ++ (aStore aRecord).free.take 1) ∧ 16380 + 16388 ≤ 16384 * [7, 8].length := by
  decide +kernel

/-- The return receiver is PLAYING with the channels given, `l` samples of its current cell left, and whole cells. -/
def playingBlock (c l : Nat) (seqs : List Nat) : State :=
  ready.withRet { ready.ret with
    channels := c, playing := true, lastPlayed := some 0xFFFFFFFF, current := some ⟨List.replicate l 7, 0⟩
    queue := seqs.map (fun n => ⟨BitVec.ofNat 32 n, List.replicate 80 5⟩) }

/-- R110: blocks of two cells with c = 2 and of three with c = 4, an underrun and a gap in mid-block. -/
theorem witness_ReturnSoundIsPlayed_blocks :
    ((48 * 2 ≤ 16 + 80 * 1 ∧ 16 < 48 * 2 ∧ 16 % 2 = 0) ∧
      (returnBlock (playingBlock 2 16 [0, 1])).1.ret.queue.length = 1 ∧
      (returnBlock (playingBlock 2 16 [0, 1])).1.ret.current.map PlayCell.samples = some []) ∧
    ((48 * 4 ≤ 40 + 80 * 2 ∧ 40 + 80 * 1 < 48 * 4) ∧ (returnBlock (playingBlock 4 40 [0, 1])).1.ret.queue = []) ∧
    (16 + 80 * 0 < 48 * 2 ∧ (returnBlock (playingBlock 2 16 [])).1.ret.playing = false) ∧
    (16 < 48 * 2 ∧ 48 * 2 ≤ 16 + 80 ∧ (5 : Word) ≠ 0xFFFFFFFF + 1 + 0 ∧
      (returnBlock (playingBlock 2 16 [5])).1.ret.playing = true) := by decide +kernel

/-- R157: an entry to copy, one whose clip has a newer record, and a DISCARDED one with an older record outside. -/
theorem witness_LabelWriterAndCompaction_toCopy :
    (let s := copying { aClip .sent with wseq := some 4 }
     toCopy s 0 ⟨5, 0, 255, 4, false⟩ = true ∧ (∀ y ∈ s.labels.directory, y.seq.toNat < 2 ^ 31)) ∧
    toCopy (copying { aClip .sent with wseq := some 3 }) 0 ⟨5, 0, 255, 4, false⟩ = false ∧
    (let d : List DirEntry := [⟨9, 0, 7, 4, true⟩, ⟨9, 1, 0, 3, false⟩]
     let s := ready.withLabels { ready.labels with directory := d }
     toCopy s 0 ⟨9, 0, 7, 4, true⟩ = true ∧ toCopy s 1 ⟨9, 1, 0, 3, false⟩ = false) := by decide +kernel

/-- The copying store without a head, the sectors and the fill order as given. -/
def headless (secs : Vector SectorState 32) (order : List Nat) : State :=
  let s := copying { aClip .sent with wseq := some 4 }
  s.withLabels { s.labels with head := none, sectors := secs, fillOrder := order }

/-- R155, R157: a record and a copy that open a head; a copy without room, with and without another sector to erase. -/
theorem witness_LabelWriterAndCompaction_room :
    (let s := marking (fun g => { g with sectors := ((Vector.replicate 32 .full).set 7 .erased).set 9 .erased }) [5]
     s.labels.head = none ∧ s.labels.sectors[7] = .erased ∧ s.labels.compact = .idle ∧
       2 ≤ (s.labels.sectors.toList.filter (fun x => decide (x = .erased))).length) ∧
    (let s := headless ((Vector.replicate 32 .full).set 7 .erased) [0]
     s.labels.sectors[7] = .erased ∧ s.labels.compact = .copying 0 255 ∧ (nextCopy s 0 255).isSome = true) ∧
    (let s := headless (Vector.replicate 32 .full) [0, 3]
     s.labels.fillOrder = [0] ++ 3 :: [] ∧ nextCopy s 0 0 ≠ none ∧ nextCopy s 3 0 = none ∧ s.clips.dirty = []) ∧
    (∀ k ∈ (headless (Vector.replicate 32 .full) [0]).labels.fillOrder,
      nextCopy (headless (Vector.replicate 32 .full) [0]) k 0 ≠ none) := by decide +kernel

/-- R171, R173: a change at a filter time of 0, a CONT that loads 0 while one waits, and the RANGE forms of CONT. -/
theorem witness_ContactsAreFiltered_zero :
    (let c := (onContact ⟨.markOut, 0, .rising, 0, false, false, none⟩).contacts[7]
     c.raw ≠ true ∧ c.accepted ≠ true ∧ c.filterMs = 0 ∧ c.fn = .markOut ∧ c.edge = .rising) ∧
    (onContact ⟨.tally, 5, .both, 0, true, true, none⟩).contacts[7].fn = .tally ∧
    reachesWith .cont [7, 5, 5, 1, 0] (onContact ⟨.take, 0, .both, 10, false, true, none⟩)
      (fun u => u.contacts[7].raw != u.contacts[7].accepted) ∧
    reachesIt .cont [8, 0, 0, 0, 0] ready ∧ reachesIt .cont [7, 6, 0, 0, 0] ready ∧
    reachesIt .cont [7, 0, 0, 3, 0] ready := by decide +kernel

/-- R20, R93, R134, R140, R142, R143, R145: the RANGE and NOT_FOUND forms of the directives that name a lane, a path, a
clip or a tag. -/
theorem witness_refusals_by_number :
    (reachesIt .lsta [6] ready ∧ reachesIt .lstp [6] ready ∧ reachesIt .lfmt [6, 64, 16, 1] ready ∧
      reachesIt .lkey [6] ready ∧ reachesIt .pena [4] ready ∧ reachesIt .pdis [4] ready ∧ reachesIt .prst [4] ready) ∧
    (reachesIt .mkin [1, 0, 0, 0, 0, 6] ready ∧ reachesIt .mkin [2, 0, 0, 0, 0, 1, 1] ready ∧
      reachesIt .mkin [1, 0, 1501, 0, 0, 0] ready ∧ reachesIt .mkin [1, 1, 0, 0, 0, 0, 65] ready ∧
      reachesWith .mkin [1, 0, 0, 1, 1, 0] ready (fun u => later 1 u.ref.tick)) ∧
    (reachesIt .tmpl [4, 1, 0, 0, 0, 0, 0, 1] ready ∧ reachesIt .tmpl [0, 2, 0, 0, 0, 0, 0, 1, 1] ready ∧
      reachesIt .tmpl [0, 1, 0, 0, 0, 8, 0, 1] ready) ∧
    (reachesWith .keep [9] ready (fun u => (findClip u 9).isNone) ∧
      reachesWith .disc [9] ready (fun u => (findClip u 9).isNone) ∧
      reachesWith .tagc [9, 0] ready (fun u => (findClip u 9).isNone)) ∧
    (reachesWith .tagc [5, 1, 65] (withClip (aClip .sent)) (fun u => (findClip u 5).isSome) ∧
      reachesWith .tagc [5, 2, 1, 1] (withClip (aClip .sent)) (fun u => (findClip u 5).isSome)) := by decide +kernel

/-- R93: PRST of a FIXED path with carrier. R143: DISC of a clip that is not SENDING and holds a pin. -/
theorem witness_stops_with_pins :
    reachesWith .prst [0] (onPath (fun c => fixedMode (upPath0 c)))
      (fun u => u.paths[0].carrier && u.paths[0].settings.fixed) ∧
    (let s := (withClip { aClip .closed with pins := [(0, 3)] }).withStore
       { aStore { aRecord with pins := 1 } with pinned := 64 }
     reachesWith .disc [5] s (fun u => (findClip u 5).isSome) ∧
       (after (directiveCommand .disc (van [5])) s).store.pinned = 0) := by decide +kernel

/-- R187: a DIRECTIVE cell of seven payload bytes, and a HANDSHAKE cell that begins with 3. -/
theorem witness_InboundCellsGoByKind_short :
    ((parseCell (cellFrom .directive (List.replicate 7 0))).map (fun x => (x.kind, x.payload.length))
      = some (.directive, 7)) ∧
    ((parseCell (cellFrom .handshake [3])).map (fun x => (x.kind, byteAt x.payload 0)) = some (.handshake, 3)) := by
  decide +kernel

/-- R84: a tick with a take both pending and armed. -/
theorem witness_FrameTickCounts_armed :
    (let s := after .frameTick (ready.withMixer { ready.mixer with takePending := true })
     let u := s.withMixer { s.mixer with takePending := true }
     u.mixer.takeArmed.isSome = true ∧ u.mixer.takePending = true ∧ (after .frameTick u).mixer.takePending = true) := by
  decide +kernel

/-- Lane 0's engine is idle and its pass list empty; the last line of slice `i` is placed, under a force or not, and two
lines wait in the intake buffer. -/
def placingIdle (i : Nat) (force : Bool) : State :=
  ((placingAt (16 * i + 15)).modLane 0 (fun c => { c with
    frame := some (aFrame i (some ⟨i, some 1⟩)), engine := none, pass := []
    rate := { c.rate with force := force, allots := [⟨3, .delta, 2, 1000, 1000, 1, 4, 8, 52⟩] } })).setVideo 0
      ⟨⟨some 9, 0⟩, [aLine 16, aLine 17], some 16, some small⟩

/-- R9, R28: a line is taken from the front of the intake buffer once the placing ends, and the idle engine begins the
slice just made READY, or replaces it under a force and passes it; a placing whose frame has ended only ends. -/
theorem witness_PlacedLinesAndStalls_pump :
    (let s := (placingAt 3).setVideo 0 ⟨⟨some 9, 0⟩, [aLine 4, aLine 5], some 5, some small⟩
     s.port.video[0].lines ≠ [] ∧ s.lanes[0].placing.isSome ∧
       (after (.linePlaced 0) s).port.video[0].lines = [aLine 5] ∧
       (after (.linePlaced 0) s).lanes[0].placing = some ⟨3, 4⟩) ∧
    (let t := after (.linePlaced 0) (placingIdle 0 false)
     t.lanes[0].engine = some ⟨1, 24⟩ ∧ t.lanes[0].placing = some ⟨3, 16⟩ ∧ t.port.video[0].lines = [aLine 17]) ∧
    (let t := after (.linePlaced 0) (placingIdle 0 true)
     t.lanes[0].engine = none ∧ t.lanes[0].pass = [] ∧ t.lanes[0].rate.force = false) ∧
    ((after (.linePlaced 0) (placingIdle 1 false)).lanes[0].frame = none ∧
      (after (.linePlaced 0) (placingIdle 1 false)).lanes[0].engine = some ⟨1, 24⟩) ∧
    (let s := (placingIdle 1 true).modLane 0 (fun c => { c with state := .draining })
     (after (.linePlaced 0) s).lanes[0].state = .off) ∧
    (let c := { (placingAt 3).lanes[0] with frame := none }
     c.placing.isSome ∧ c.state ≠ .draining) := by decide +kernel

/-- R31: a STORED frame of five slices ends at its first one, in a buffer, as an overrun slice and before it has begun; a
frame ends at its last slice, and a DRAINING lane whose list that empties is OFF. -/
theorem witness_PlacedLinesAndStalls_ends :
    ((skippingLane .filling (some ⟨0, some 1⟩)).lanes[0].frame.isSome ∧ 0 + 1 < sliceCount ⟨64, 80, 2⟩) ∧
    (endFrame 0 (skippingLane .filling (some ⟨0, none⟩))).lanes[0].pass.length = 6 ∧
    ((skippingLane .free none).lanes[0].buffers[1].state = .free ∧
      ∀ b : Fin 2, (skippingLane .filling none).lanes[0].buffers[b].state ≠ .free) ∧
    ((endFrame 0 (placingIdle 1 false)).lanes[0].pass.length = 1 ∧ 1 + 1 = sliceCount small) ∧
    (let s := (placingIdle 1 true).modLane 0 (fun c => { c with state := .draining })
     (endFrame 0 s).lanes[0].state = .off) := by decide +kernel

/-- R21: a STALLED lane takes a line with the frame-start flag; a line that begins a frame in DRAINING ends the frame in
progress, its lane OFF at once or with its pass list still to go. R29, R30: the last line of an overrun slice, at the
front of the pass list. -/
theorem witness_LinesAreTakenByState_starts :
    (let s := onLane (fun c => { c with state := .stalled })
     s.lanes[0].idle < 2 ∧ (takeLine 0 ⟨3, true, lineBytes⟩ s).lanes[0].state = .coding ∧
       (takeLine 0 ⟨3, true, lineBytes⟩ s).lanes[0].prev = some 3) ∧
    (let s := (codingState .draining).modLane 0 (fun c => { c with idle := 0 })
     s.lanes[0].frame.isSome ∧ beginsFrame s.lanes[0].prev ⟨0, true, lineBytes⟩ = true ∧
       (endFrame 0 (s.setLane 0 { s.lanes[0] with idle := 0 })).lanes[0].state ≠ .off ∧
       (takeLine 0 ⟨0, true, lineBytes⟩ s).lanes[0].pass.length = 2) ∧
    ((takeLine 0 ⟨0, true, lineBytes⟩ (discarding .draining)).lanes[0].state = .off) ∧
    (let s := (overrunLane (some ⟨0, none⟩)).modLane 0 (fun c => { c with engine := none, pass := [] })
     (takeLine 0 (aLine 15) s).lanes[0].pass = [] ∧ (takeLine 0 (aLine 15) s).lanes[0].state = .coding) ∧
    (let s := onLane (fun c => { c with
       state := .draining, prev := some 30, frame := some (aFrame 1 (some ⟨1, none⟩)), engine := none, pass := [] })
     31 = lastLineOf small 1 ∧ (takeLine 0 (aLine 31) s).lanes[0].state = .off) := by decide +kernel

/-- R30: a done slice behind the coded one; R47: a forced slice, the last of its frame, with another READY slice
behind it. -/
theorem witness_CodedSlicesArePassed_behind :
    (let s := (codingSlice .coding 0 false).modLane 0 (fun c => { c with
       pass := c.pass ++ [⟨3, 1, none, some ⟨.repeated, none, 16, []⟩⟩] })
     let t := after (.sliceCoded 0 (List.replicate 32 5)) s
     t.lanes[0].pass = [] ∧ t.lanes[0].rate.allots = [] ∧ t.lanes[0].engine = none) ∧
    (let s := (codingSlice .coding 1 false).modLane 0 (fun c => { c with
       engine := none, rate := { c.rate with force := true }
       pass := c.pass ++ [⟨4, 0, some 0, none⟩], buffers := c.buffers.set 0 ⟨.ready, 4, 0, [], none⟩ })
     entryIn s.lanes[0] 1 = some ⟨3, 1, some 1, none⟩ ∧ (beginCoding 0 1 s).lanes[0].pass = [⟨4, 0, some 0, none⟩] ∧
       firstReady (beginCoding 0 1 s).lanes[0] = some 0 ∧ (beginCoding 0 1 s).lanes[0].rate.allots = []) ∧
    (firstReady (codingSlice .coding 0 true).lanes[0] = some 0 ∧
      firstReady (codingSlice .coding 0 false).lanes[0] = none) := by decide +kernel

/-- R65, R127: the cursor of a lane that enters awaiting key is at an ABANDONED record, with a KEY record behind it, and
without one; and at no such record. -/
theorem witness_FramesAreOfferedAndReclaimed_awaiting :
    (let leave := fun k => let s := skipping k false
       s.withStore (setLive s.store 0 4 .abandoned)
     (findRecord (leave .key).store 0 4).map FrameRecord.live = some .abandoned ∧
       (recordsAfter (leave .key).store 0 4).map (fun r => (r.tick, r.kind, r.live)) = [(17, .key, .pending)] ∧
       (enterAwaiting 0 (leave .key)).asm.cursors[0] = some ⟨17, 0, 0⟩ ∧
       (enterAwaiting 0 (leave .delta)).asm.cursors[0] = none ∧
       (enterAwaiting 0 (leave .delta)).asm.awaiting[0] = true ∧ (enterAwaiting 0 (leave .delta)).asm.gen[0] = 1) ∧
    (let s := skipping .key false
     s.asm.cursors[0] = some ⟨4, 0, 0⟩ ∧ (findRecord s.store 0 4).map FrameRecord.live = some .pending) ∧
    (let s := holding [] [pictureCell 0, plainCell .audio [], pictureCell 0]
     (enterAwaiting 0 s).asm.redispatch.length = 2) := by decide +kernel

/-- R17: a bus packet waits when the next block completes. -/
theorem witness_BlockCompletionBuildsTheBusPacket_waiting :
    (let s := (working 0 1 aPeriod).withPort { ready.port with bus := some ⟨5, 3, []⟩, busSeq := 6 }
     s.mixer.work.isSome = true ∧ (after .blockCompletion s).port.bus.map BusPacket.seq = some 5 ∧
       (after .blockCompletion s).port.egress.length < 32) := by decide +kernel

/-- R97: the forms of an extra word that completes the offer. -/
theorem witness_ExchangeAndRestart_completing :
    (let c := (inRound .offer 5).paths[0]
     c.state = .offer ∧ c.ownAck = true ∧ c.farOffer = some farWord ∧ 64 ≤ min c.settings.rate farWord.rate ∧
       c.settings.fixed = false) ∧
    (let s := (inRound .offer 6).modPath 0 (fun c => { c with farOffer := some { farWord with rate := 63 } })
     s.paths[0].retry + 1 = s.paths[0].settings.retryLimit ∧ min s.paths[0].settings.rate 63 < 64) ∧
    (comesExtra ⟨true, true, 1, 0⟩ ∧ comesExtra ⟨false, true, 1, 5⟩ ∧ comesExtra ⟨false, true, 4, 0⟩ ∧
      comesExtra ⟨false, false, 0, 0⟩) := by decide +kernel

/-- R108: RTRN while the own hold is SENT. R116: a path with room, closed to picture. R168: the lock at a third good
interval. R136: each lane that the ceiling moves. -/
theorem witness_further_clauses :
    reachesWith .rtrn [2, 8, 20, 0] ((receiving [1]).withRet { ready.ret with holdSent := true })
      (fun u => u.ret.holdSent && decide (u.paths[0].state = .up) && u.paths[0].agreedHold) ∧
    (let s := (onPath upPath0).withAsm { ready.asm with opened := ready.asm.opened.set 0 false }
     isCandidate s false 0 = true ∧ isCandidate s true 0 = false) ∧
    ((refIn .locking 2).ref.run = 2 ∧ (after (.referencePulse 1960) (refIn .locking 2)).ref.state = .locked) ∧
    ((stepPoints (pointStore 0) 10 [(0, .at 3)] []).2.1 = [0, 0] ∧
      (stepPoints (pointStore 1) 10 [(0, .at 3)] []).2.1 = [0]) := by decide +kernel

/-- R73: a block request with two of the four audio lanes empty. -/
theorem test_audio_underruns_of_one_request :
    (let s := (ready.setAudio 1 ⟨⟨none, 0⟩, [[]]⟩).setAudio 3 ⟨⟨none, 0⟩, [[]]⟩
     let t := after .blockRequest s
     t.handler.counters[ctrAudioUnderruns] = 2 ∧ t.handler.flags = [(.audioUnderrun, 8), (.audioUnderrun, 10)]) := by
  decide +kernel

/-- Path 0 is UP, the receiver waits with fifteen late cells behind it, 9 played last and these sequences in its queue. -/
def lateReceiver (l : List Nat) : State :=
  (receiving l).withRet { (receiving l).ret with lastPlayed := some 9, lateRun := 15 }

set_option maxRecDepth 8000 in
/-- R109: the sixteenth late cell in a row joins a queue that holds cells, is a duplicate, finds the queue full, and
raises it to the high mark. -/
theorem witness_ReturnReceiverTakesCells_sixteenth :
    ((lateReceiver []).paths[0].state = .up ∧ (lateReceiver []).ret.playing = false ∧ later 5 9 = false ∧
      16 ≤ (lateReceiver []).ret.lateRun + 1 ∧ (parseCell (returnCellFrom 5)).map InboundCell.seq = some 5) ∧
    (let t := after (.inboundCell 0 (returnCellFrom 5)) (lateReceiver [10, 12])
     t.ret.queue.map RetCell.seq = [5, 10, 12] ∧ t.ret.lastPlayed = none ∧ t.ret.lateRun = 0 ∧
       t.handler.counters[ctrReturnLate] = 1) ∧
    (let t := after (.inboundCell 0 (returnCellFrom 5)) (lateReceiver [5, 12])
     t.ret.queue.length = 2 ∧ t.ret.lastPlayed = none ∧ t.handler.counters[ctrReturnDuplicate] = 2) ∧
    (let t := after (.inboundCell 0 (returnCellFrom 5)) (lateReceiver (List.range' 10 64))
     t.ret.queue.length = 64 ∧ t.ret.lastPlayed = none ∧ (.returnOverrun, 0) ∈ t.handler.flags) ∧
    (let t := after (.inboundCell 0 (returnCellFrom 5)) (lateReceiver (List.range' 10 47))
     t.ret.queue.length = 48 ∧ t.ret.holdSent = true ∧ t.paths[0].slot = some (.hold 20)) := by decide +kernel

/-- R91, R118: an agreed rate, and the three causes that make a path label-only. -/
theorem witness_ArbiterChoosesTheLeastLoad_figures :
    ((onPath upPath0).paths[0].agreed = some 20000 ∧ loadFigure (twoPaths 31 20).paths[0] = 2583) ∧
    labelOnly (onPath upPath0).paths[0] = false ∧
    labelOnly { resetPath true with settings := { (resetPath true).settings with labelOnly := true } } = true ∧
    labelOnly { resetPath true with farOffer := some { farWord with labelOnly := true } } = true ∧
    labelOnly { resetPath true with extras := ⟨none, false, true⟩ } = true := by decide +kernel

/-- A log of clips 5 and 6, both lists with one id and both overflow flags set; path 0 is UP. -/
def overflowed (id : Nat) : State :=
  let s := withClip (aClip .closed)
  ((s.withPaths (onPath upPath0).paths).withAsm { ready.asm with staleLabels := [id] }).withClips { s.clips with
    clips := [aClip .closed, { aClip .closed with id := 6 }], dirty := [id], dirtyOverflow := true
    staleOverflow := true }

/-- R133: the last stale label is served under the overflow flag. -/
theorem witness_AssemblyServesTheFirstClass_overflow :
    (let s := overflowed 6
     s.asm.staleLabels = [6] ∧ s.clips.staleOverflow = true ∧ (s.clips.clips.map Clip.id).Nodup ∧
       choosePath s false = some 0 ∧ s.asm.staleTags = [] ∧ s.asm.control = [] ∧ s.asm.redispatch = []) ∧
    (let t := after .cellAssembly (overflowed 6)
     t.asm.staleLabels = [5, 6] ∧ t.clips.staleOverflow = false ∧ t.paths[0].queue.length = 1) := by decide +kernel

/-- R133: the writer takes the last dirty entry under the overflow flag: of a clip of the log, and of an id that has left
it and has no record. -/
theorem witness_LabelWriterAndCompaction_overflow :
    (let s := (overflowed 6).withLabels { ready.labels with head := some (0, 0) }
     s.clips.dirty = [6] ∧ s.clips.dirtyOverflow = true ∧ (findClip s 6).isSome = true ∧
       (kick s).clips.dirty = [5, 6] ∧ (kick s).clips.dirtyOverflow = false ∧
       (kick s).labels.writing.map (fun w => w.id) = some 6) ∧
    (let s := (overflowed 9).withLabels { ready.labels with head := some (0, 0) }
     (findClip s 9).isNone = true ∧ s.labels.directory = [] ∧ (kick s).clips.dirty = [6] ∧
       (kick s).labels.writing.map (fun w => w.id) = some 5) := by decide +kernel

/-- R133: marking at a full list and of an id on it, and lists that become empty under their flags. -/
theorem witness_ClipDirectivesAct_marks :
    (let s := marking id (List.range' 6 256)
     5 ∉ s.clips.dirty ∧ 256 ≤ s.clips.dirty.length ∧ 261 ∈ s.clips.dirty) ∧
    (let s := ready.withAsm { ready.asm with staleLabels := List.range' 6 256 }
     5 ∉ s.asm.staleLabels ∧ 256 ≤ s.asm.staleLabels.length) ∧
    (let s := (overflowed 6).withAsm ready.asm
     s.asm.staleLabels = [] ∧ s.clips.staleOverflow = true ∧ s.clips.clips.length ≤ 256 ∧
       (staleEmptied s).asm.staleLabels = [5, 6]) ∧
    (dirtyEmptied { (overflowed 6).clips with dirty := [] }).dirty = [5, 6] := by decide +kernel

/-- R116: a VIDEO and a CLIP cell that take the fill of their queue past the high mark. -/
theorem test_picture_closes_the_queue :
    (let s := fun u : State => u.withAsm { u.asm with marks := u.asm.marks.set 0 ⟨2, 0⟩ }
     let full := fun u : State => (s u).modPath 0 (fun c => { c with queue := List.replicate 2 (pictureCell 0) })
     (after .cellAssembly (full (cutting 0 0))).asm.opened[0] = false ∧
       (after .cellAssembly (full sending)).asm.opened[0] = false ∧
       (after .cellAssembly (s (cutting 0 0))).asm.opened[0] = true) := by decide +kernel

/-- R68, R139: the store after an OPEN clip with records at 3 and 5 is marked out at 4, by MKOT and by a contact, and with
send-on-close while both engines are at work. -/
theorem witness_ClipsAreClosedAndSent_release :
    (let c := { openClip with pins := [(0, 3), (0, 5)] }
     let st := (recording 65 c).store
     let s := fun k => ((recording 65 k).withStore { st with
       records := resetStore.records.set 0
         [{ aRecord with complete := true, pins := 1 }, { aRecord with tick := 5, pins := 1 }]
       pinned := 65 }).withRef { ready.ref with tick := 4 }
     reachesWith .mkot [5, 4] (s c) (fun u => (findClip u 5 == some c) && !earlier 4 c.inTick) ∧
       (after (directiveCommand .mkot (van [5, 4])) (s c)).store.pinned = 1 ∧
       (contactMarkOut 4 (s c)).store.pinned = 1 ∧ newestOpen (s c) = some c ∧
       (let b := busyEngines (s { c with sendOnClose := true })
        (contactMarkOut 4 b).clips.queue = [5] ∧ (contactMarkOut 4 b).store.pinned = 1)) := by decide +kernel

/-- R140, R171, R173: a MARK_TOGGLE change at a filter time of 0, and a CONT that loads 0 while the level differs, with
each function that acts, on a wanted edge and on one that is not. -/
theorem witness_ContactsAreFiltered_marks :
    (let c := (onContact ⟨.markToggle, 3, .both, 0, false, false, none⟩).contacts[7]
     c.raw ≠ true ∧ c.accepted ≠ true ∧ c.filterMs = 0 ∧ c.fn = .markToggle ∧ c.param = (3 : Fin 4).val) ∧
    ((after (.contactRawChange 7 true) (onContact ⟨.markToggle, 3, .both, 0, false, false, none⟩)).clips.clips.length
      = 1) ∧
    (let s := onContact ⟨.none, 0, .rising, 10, false, true, none⟩
     reachesWith .cont [7, 4, 0, 0, 0] s (fun u => u.contacts[7].raw != u.contacts[7].accepted) ∧
       reachesIt .cont [7, 2, 0, 2, 0] s ∧ reachesIt .cont [7, 1, 3, 0, 0] s ∧ reachesIt .cont [7, 3, 3, 0, 0] s ∧
       reachesIt .cont [7, 4, 0, 1, 0] s ∧
       (after (directiveCommand .cont (van [7, 4, 0, 0, 0])) s).mixer.takePending = true ∧
       (after (directiveCommand .cont (van [7, 4, 0, 1, 0])) s).mixer.takePending = false ∧
       (after (directiveCommand .cont (van [7, 1, 3, 0, 0])) s).clips.clips.length = 1) := by decide +kernel

end Sys2Proof.Tests
end

section
/-! SUPPORT. The coded store's invariant under the store's own operations (R53, R55, R60, R67, R69): a change of one run
of one lane's records, and from it the pins, the filling, the completion, the freeing and the making of a record. -/

namespace Sys2Proof.Machine

/-! ## Sums over the frame index -/

/-- What a measure of frame records comes to over the whole frame index. -/
def indexSum {M : Type} [AddCommMonoid M] (μ : FrameRecord → M) (st : CodedStore) : M :=
  ∑ l : Lane, (st.records[l].map μ).sum

theorem lane_set {α : Type} (v : Vector α 6) (l k : Lane) (x : α) : (v.set l x)[k] = if l = k then x else v[k] := by
  simp [Vector.getElem_set, Fin.ext_iff]

/-- A run of one lane's records gives way to another: the sum changes by what the two runs come to. -/
theorem indexSum_splice {M : Type} [AddCommMonoid M] (μ : FrameRecord → M) {st st' : CodedStore} {l : Lane}
    {front old new back : List FrameRecord} (hl : st.records[l] = front ++ old ++ back)
    (hr : st'.records = st.records.set l (front ++ new ++ back)) :
    indexSum μ st' + (old.map μ).sum = indexSum μ st + (new.map μ).sum := by
  have hrest : ∑ k ∈ Finset.univ.erase l, (st'.records[k].map μ).sum
      = ∑ k ∈ Finset.univ.erase l, (st.records[k].map μ).sum :=
    Finset.sum_congr rfl fun k hk => by rw [hr, lane_set, if_neg (Finset.ne_of_mem_erase hk).symm]
  have hnew : st'.records[l] = front ++ new ++ back := by rw [hr, lane_set, if_pos rfl]
  unfold indexSum
  rw [← Finset.add_sum_erase _ _ (Finset.mem_univ l), ← Finset.add_sum_erase _ _ (Finset.mem_univ l), hrest, hnew, hl]
  simp only [List.map_append, List.sum_append]
  abel

theorem coe_flatMap_blocks : ∀ rs : List FrameRecord, ((rs.flatMap FrameRecord.blocks : List Nat) : Multiset Nat)
    = (rs.map (fun r => (r.blocks : Multiset Nat))).sum
  | [] => rfl
  | r :: rs => by rw [List.flatMap_cons, ← Multiset.coe_add, coe_flatMap_blocks rs, List.map_cons, List.sum_cons]

/-- The blocks of all records and the free list, as a multiset. -/
theorem coe_allBlocks (st : CodedStore) :
    (allBlocks st : Multiset Nat) = (st.free : Multiset Nat) + indexSum (fun r => (r.blocks : Multiset Nat)) st := by
  have hall : ∀ ls : List Lane,
      ((ls.flatMap (fun l => st.records[l].flatMap FrameRecord.blocks) : List Nat) : Multiset Nat)
      = (ls.map (fun l => (st.records[l].map (fun r => (r.blocks : Multiset Nat))).sum)).sum := fun ls => by
    induction ls with
    | nil => rfl
    | cons l ls ih => rw [List.flatMap_cons, ← Multiset.coe_add, ih, coe_flatMap_blocks, List.map_cons, List.sum_cons]
  have hflat : (allRecords st).flatMap (fun p => p.2.blocks)
      = (List.finRange 6).flatMap (fun l => st.records[l].flatMap FrameRecord.blocks) := by
    simp only [allRecords, List.flatMap_assoc, List.flatMap_map]
  rw [allBlocks, ← Multiset.coe_add, hflat, hall, indexSum, ← Fin.sum_univ_def]

/-- R67: the blocks that a record adds to the pinned blocks. -/
def pinnedPart (r : FrameRecord) : Nat := if 0 < r.pins then pinWeight r else 0

theorem pinnedSum_eq (st : CodedStore) : pinnedSum st = indexSum pinnedPart st := by
  have hall : ∀ ls : List Lane,
      ((ls.flatMap (fun l => st.records[l].map (fun r => (l, r)))).map (fun p => pinnedPart p.2)).sum
      = (ls.map (fun l => (st.records[l].map pinnedPart).sum)).sum := fun ls => by
    induction ls with
    | nil => rfl
    | cons l ls ih =>
      rw [List.flatMap_cons, List.map_append, List.sum_append, ih, List.map_cons, List.sum_cons, List.map_map]; rfl
  rw [indexSum, Fin.sum_univ_def, ← hall]; rfl

/-! ## The invariant less the ceiling -/

/-- The store's invariant less the test of the pinned blocks against the ceiling, which a pin request makes last. -/
structure Tidy (st : CodedStore) : Prop where
  nodup : (allBlocks st).Nodup
  count : (allBlocks st).length = 16384
  below : ∀ b ∈ allBlocks st, b < 16384
  rising : ∀ l : Lane, (st.records[l].map FrameRecord.tick).Pairwise (fun a b => earlier a b = true)
  short : ∀ l : Lane, ∀ r ∈ st.records[l], r.blocks.length ≤ 64
  pinned : st.pinned = pinnedSum st
  least : 1024 ≤ st.ceiling
  most : st.ceiling ≤ 16384

theorem storeSound_iff {st : CodedStore} : storeSound st ↔ Tidy st ∧ st.pinned ≤ st.ceiling :=
  ⟨fun ⟨⟨h1, h2, h3⟩, h4, h5, h6, h7, h8, h9⟩ => ⟨⟨h1, h2, h3, h4, h5, h6, h8, h9⟩, h7⟩,
   fun ⟨⟨h1, h2, h3, h4, h5, h6, h8, h9⟩, h7⟩ => ⟨⟨h1, h2, h3⟩, h4, h5, h6, h7, h8, h9⟩⟩

theorem not_earlier_self (t : Word) : earlier t t = false := by simp [earlier]

/-- A run of one lane's records gives way to another with the same blocks, given to or taken from the free list. -/
theorem allBlocks_splice {st st' : CodedStore} {l : Lane} {front old new back : List FrameRecord}
    (hl : st.records[l] = front ++ old ++ back) (hr : st'.records = st.records.set l (front ++ new ++ back))
    (hb : (st'.free ++ new.flatMap FrameRecord.blocks).Perm (st.free ++ old.flatMap FrameRecord.blocks)) :
    (allBlocks st').Perm (allBlocks st) := by
  have hsum := indexSum_splice (fun r => (r.blocks : Multiset Nat)) hl hr
  rw [← Multiset.coe_eq_coe, ← Multiset.coe_add, ← Multiset.coe_add, coe_flatMap_blocks, coe_flatMap_blocks] at hb
  rw [← Multiset.coe_eq_coe, coe_allBlocks, coe_allBlocks,
    ← add_left_inj ((old.map (fun r => (r.blocks : Multiset Nat))).sum), add_assoc, hsum, add_left_comm, hb]
  abel

/-- The invariant where a run of one lane's records gives way to another: the blocks and the pinned blocks match,
and the new run fits its place. -/
theorem tidy_splice {st st' : CodedStore} {l : Lane} {front old new back : List FrameRecord} (h : Tidy st)
    (hl : st.records[l] = front ++ old ++ back) (hr : st'.records = st.records.set l (front ++ new ++ back))
    (hb : (st'.free ++ new.flatMap FrameRecord.blocks).Perm (st.free ++ old.flatMap FrameRecord.blocks))
    (ho : ((front ++ new ++ back).map FrameRecord.tick).Pairwise (fun a b => earlier a b = true))
    (hs : ∀ r ∈ new, r.blocks.length ≤ 64)
    (hp : st'.pinned + (old.map pinnedPart).sum = st.pinned + (new.map pinnedPart).sum)
    (hc : st'.ceiling = st.ceiling) : Tidy st' := by
  have hblocks := allBlocks_splice hl hr hb
  refine ⟨hblocks.nodup_iff.2 h.nodup, hblocks.length_eq.trans h.count, fun b m => h.below b (hblocks.mem_iff.1 m),
    fun k => ?_, fun k r m => ?_, ?_, hc ▸ h.least, hc ▸ h.most⟩
  · rw [hr, lane_set]
    split
    · exact ho
    · exact h.rising k
  · rw [hr, lane_set] at m
    split at m
    · have hold := h.short l
      simp only [hl, List.mem_append] at hold m
      rcases m with (m | m) | m
      · exact hold r (.inl (.inl m))
      · exact hs r m
      · exact hold r (.inr m)
    · exact h.short k r m
  · have hsum := indexSum_splice pinnedPart hl hr
    have hpin := h.pinned
    rw [pinnedSum_eq] at hpin ⊢
    omega

/-! ## One record -/

/-- The record that the index finds, between those before and after it, none of which has its tick. -/
theorem findRecord_split {st : CodedStore} {l : Lane} {t : Word} {r : FrameRecord} (h : Tidy st)
    (hf : findRecord st l t = some r) :
    r.tick = t ∧ ∃ front back, st.records[l] = front ++ [r] ++ back ∧ (∀ x ∈ front, x.tick ≠ t) ∧
      ∀ x ∈ back, x.tick ≠ t := by
  obtain ⟨ht, front, back, hl, hfront⟩ := List.find?_eq_some_iff_append.1 hf
  have ht : r.tick = t := by simpa using ht
  refine ⟨ht, front, back, by simpa using hl, fun x hx => by simpa using hfront x hx, fun x hx e => ?_⟩
  have hrise := h.rising l
  rw [hl, List.map_append, List.map_cons, List.pairwise_append, List.pairwise_cons] at hrise
  have := hrise.2.1.1 x.tick (List.mem_map_of_mem hx)
  rw [e, ht, not_earlier_self] at this
  cases this

theorem mem_of_findRecord {st : CodedStore} {l : Lane} {t : Word} {r : FrameRecord}
    (hf : findRecord st l t = some r) : r ∈ st.records[l] := List.mem_of_find?_eq_some hf

/-- A record counts no more than the pinned blocks. -/
theorem pinnedPart_le {st : CodedStore} {l : Lane} {t : Word} {r : FrameRecord} (h : Tidy st)
    (hf : findRecord st l t = some r) : pinnedPart r ≤ st.pinned := by
  rw [h.pinned, pinnedSum_eq]
  calc pinnedPart r ≤ (st.records[l].map pinnedPart).sum :=
        List.single_le_sum (fun _ _ => Nat.zero_le _) _ (List.mem_map_of_mem (mem_of_findRecord hf))
    _ ≤ indexSum pinnedPart st :=
        Finset.single_le_sum (f := fun k : Lane => (st.records[k].map pinnedPart).sum) (fun _ _ => Nat.zero_le _)
          (Finset.mem_univ l)

/-- One record changes, with the free list and the pinned blocks to match. -/
theorem tidy_edit {st st' : CodedStore} {l : Lane} {t : Word} {r : FrameRecord} {f : FrameRecord → FrameRecord}
    (h : Tidy st) (hf : findRecord st l t = some r) (hr : st'.records = (updRecord st l t f).records)
    (ht : (f r).tick = r.tick) (hb : (st'.free ++ (f r).blocks).Perm (st.free ++ r.blocks))
    (hs : (f r).blocks.length ≤ 64) (hp : st'.pinned + pinnedPart r = st.pinned + pinnedPart (f r))
    (hc : st'.ceiling = st.ceiling) : Tidy st' := by
  obtain ⟨htick, front, back, hl, hfront, hback⟩ := findRecord_split h hf
  have hkeep : ∀ xs : List FrameRecord, (∀ x ∈ xs, x.tick ≠ t) → xs.map (fun x => if x.tick = t then f x else x) = xs :=
    fun xs hx => (List.map_congr_left fun x m => if_neg (hx x m)).trans (List.map_id' xs)
  have hmap : st.records[l].map (fun x => if x.tick = t then f x else x) = front ++ [f r] ++ back := by
    rw [hl, List.map_append, List.map_append, hkeep front hfront, hkeep back hback]
    simp [htick]
  have hrise := h.rising l
  refine tidy_splice h hl (by rw [hr, updRecord, hmap]) (by simpa using hb) ?_ (by simpa using hs)
    (by simpa using hp) hc
  rw [hl] at hrise
  simpa [ht] using hrise

/-! ## What an operation keeps of a store -/

/-- From `st` to `st'` the invariant is kept, and no record has a tick that its lane did not hold before. -/
structure Tended (st st' : CodedStore) : Prop where
  sound : storeSound st → storeSound st'
  ticks : ∀ l : Lane, st'.records[l].map FrameRecord.tick ⊆ st.records[l].map FrameRecord.tick

theorem Tended.refl (st : CodedStore) : Tended st st := ⟨id, fun _ => List.Subset.refl _⟩

theorem Tended.trans {a b c : CodedStore} (h : Tended a b) (g : Tended b c) : Tended a c :=
  ⟨g.sound ∘ h.sound, fun l => List.Subset.trans (g.ticks l) (h.ticks l)⟩

/-- The invariant where the pinned blocks have not risen and the ceiling stands. -/
theorem storeSound_of_tidy {st st' : CodedStore} (h : storeSound st) (ht : Tidy st → Tidy st')
    (hp : st'.pinned ≤ st.pinned) (hc : st'.ceiling = st.ceiling) : storeSound st' := by
  rw [storeSound_iff] at h ⊢
  exact ⟨ht h.1, by omega⟩

theorem ticks_set {st st' : CodedStore} {l : Lane} {rs : List FrameRecord} (hr : st'.records = st.records.set l rs)
    (hs : rs.map FrameRecord.tick ⊆ st.records[l].map FrameRecord.tick) (k : Lane) :
    st'.records[k].map FrameRecord.tick ⊆ st.records[k].map FrameRecord.tick := by
  rw [hr, lane_set]
  split
  · next e => exact e ▸ hs
  · exact List.Subset.refl _

theorem ticks_updRecord {st st' : CodedStore} {l : Lane} {t : Word} {f : FrameRecord → FrameRecord}
    (hr : st'.records = (updRecord st l t f).records) (hf : ∀ r, (f r).tick = r.tick) (k : Lane) :
    st'.records[k].map FrameRecord.tick ⊆ st.records[k].map FrameRecord.tick := by
  refine ticks_set hr ?_ k
  have he : (st.records[l].map (fun r => if r.tick = t then f r else r)).map FrameRecord.tick
      = st.records[l].map FrameRecord.tick := by
    rw [List.map_map]
    exact List.map_congr_left fun r _ => by simp only [Function.comp]; split <;> simp [hf]
  exact he ▸ List.Subset.refl _

/-- What the invariant speaks of in a record, the order of the ticks included, stays as it is. -/
structure Quiet (f : FrameRecord → FrameRecord) : Prop where
  tick : ∀ r, (f r).tick = r.tick
  blocks : ∀ r, (f r).blocks = r.blocks
  part : ∀ r, pinnedPart (f r) = pinnedPart r

/-- The records of a lane change in what the invariant does not speak of. -/
theorem tended_map (st : CodedStore) (l : Lane) {f : FrameRecord → FrameRecord} (hf : Quiet f) :
    Tended st { st with records := st.records.set l (st.records[l].map f) } := by
  have hticks : (st.records[l].map f).map FrameRecord.tick = st.records[l].map FrameRecord.tick := by
    simp [List.map_map, Function.comp_def, hf.tick]
  refine ⟨fun h => storeSound_of_tidy h (fun ht => ?_) le_rfl rfl, ticks_set rfl (hticks ▸ List.Subset.refl _)⟩
  refine tidy_splice ht (l := l) (front := []) (old := st.records[l]) (new := st.records[l].map f) (back := [])
    (by simp) (by simp) ?_ (by simpa [List.map_map, Function.comp_def, hf.tick] using ht.rising l) ?_ ?_ rfl
  · rw [List.flatMap_map, List.flatMap_congr fun r _ => hf.blocks r]
  · simpa [hf.blocks] using ht.short l
  · simp [List.map_map, Function.comp_def, hf.part]

theorem tended_updQuiet (st : CodedStore) (l : Lane) (t : Word) {f : FrameRecord → FrameRecord} (hf : Quiet f) :
    Tended st (updRecord st l t f) :=
  tended_map st l ⟨fun r => by split <;> simp [hf.tick], fun r => by split <;> simp [hf.blocks],
    fun r => by split <;> simp [hf.part]⟩

theorem tended_setLive (st : CodedStore) (l : Lane) (t : Word) (v : LiveState) : Tended st (setLive st l t v) :=
  tended_updQuiet st l t ⟨fun _ => rfl, fun _ => rfl, fun _ => rfl⟩

theorem tended_abandonWhere (st : CodedStore) (l : Lane) (sel : FrameRecord → Bool) :
    Tended st (abandonWhere st l sel) :=
  tended_map st l ⟨fun r => by split <;> rfl, fun r => by split <;> rfl, fun r => by split <;> rfl⟩

/-! ## Pins (R67, R68) -/

theorem pinOne_ceiling (st : CodedStore) (l : Lane) (t : Word) : (pinOne st l t).ceiling = st.ceiling := by
  unfold pinOne
  split
  · rfl
  · dsimp only; split <;> rfl

theorem tidy_pinOne {st : CodedStore} (l : Lane) (t : Word) (h : Tidy st) : Tidy (pinOne st l t) := by
  unfold pinOne
  split
  · exact h
  · next r hf =>
    dsimp only
    split
    · next hz =>
      exact tidy_edit h hf rfl rfl (.refl _) (h.short l r (mem_of_findRecord hf))
        (by simp [pinnedPart, hz, pinWeight, updRecord]) rfl
    · next hz =>
      exact tidy_edit h hf rfl rfl (.refl _) (h.short l r (mem_of_findRecord hf))
        (by simp [pinnedPart, Nat.pos_of_ne_zero hz, pinWeight, updRecord]) rfl

theorem ticks_pinOne (st : CodedStore) (l : Lane) (t : Word) :
    ∀ k : Lane, (pinOne st l t).records[k].map FrameRecord.tick ⊆ st.records[k].map FrameRecord.tick := by
  unfold pinOne
  split
  · exact fun _ => List.Subset.refl _
  · dsimp only
    split
    · exact ticks_updRecord rfl fun _ => rfl
    · exact ticks_updRecord rfl fun _ => rfl

/-- R67: the pins of a whole request, before the ceiling is looked at. -/
theorem pinAll_keeps (names : List (Lane × Word)) : ∀ st : CodedStore,
    let st' := names.foldl (fun st n => pinOne st n.1 n.2) st
    (Tidy st → Tidy st') ∧ st'.ceiling = st.ceiling ∧
      ∀ k : Lane, st'.records[k].map FrameRecord.tick ⊆ st.records[k].map FrameRecord.tick := by
  induction names with
  | nil => exact fun st => ⟨id, rfl, fun _ => List.Subset.refl _⟩
  | cons n names ih =>
    intro st
    obtain ⟨htidy, hceil, hticks⟩ := ih (pinOne st n.1 n.2)
    exact ⟨fun h => htidy (tidy_pinOne n.1 n.2 h), hceil.trans (pinOne_ceiling st n.1 n.2),
      fun k => List.Subset.trans (hticks k) (ticks_pinOne st n.1 n.2 k)⟩

/-- R67: a granted request has looked at the ceiling, or names no record. -/
theorem tended_pinRequest {st st' : CodedStore} {names : List (Lane × Word)} (h : pinRequest st names = some st') :
    Tended st st' := by
  obtain ⟨htidy, -, hticks⟩ := pinAll_keeps names st
  unfold pinRequest at h
  split at h
  · dsimp only at h
    split at h
    · next hroom =>
      cases h
      refine ⟨fun hs => ?_, hticks⟩
      simp only [Bool.or_eq_true, List.isEmpty_iff, decide_eq_true_eq] at hroom
      rcases hroom with rfl | hroom
      · exact hs
      · exact storeSound_iff.2 ⟨htidy (storeSound_iff.1 hs).1, by simpa [(pinAll_keeps names st).2.1] using hroom⟩
    · cases h
  · cases h

theorem tended_releaseOne (st : CodedStore) (l : Lane) (t : Word) : Tended st (releaseOne st l t) := by
  unfold releaseOne
  split
  · exact .refl st
  · next r hf =>
    split
    · exact .refl st
    · next hz =>
      dsimp only
      have hshort := fun h : Tidy st => h.short l r (mem_of_findRecord hf)
      split
      · next h1 =>
        refine ⟨fun hs => storeSound_of_tidy hs (fun h => ?_) (Nat.sub_le ..) rfl, ticks_updRecord rfl fun _ => rfl⟩
        have hle := pinnedPart_le h hf
        simp only [pinnedPart, h1, Nat.one_pos, if_true] at hle
        exact tidy_edit h hf rfl rfl (.refl _) (hshort h)
          (by simp [pinnedPart, h1, updRecord, Nat.sub_add_cancel hle]) rfl
      · next h1 =>
        refine ⟨fun hs => storeSound_of_tidy hs (fun h => ?_) le_rfl rfl, ticks_updRecord rfl fun _ => rfl⟩
        have hpos : 0 < r.pins - 1 := by omega
        exact tidy_edit h hf rfl rfl (.refl _) (hshort h)
          (by simp [pinnedPart, hpos, Nat.pos_of_ne_zero hz, pinWeight, updRecord]) rfl

theorem tended_releaseRequest (names : List (Lane × Word)) :
    ∀ st : CodedStore, Tended st (releaseRequest st names) := by
  induction names with
  | nil => exact .refl
  | cons n names ih => exact fun st => (tended_releaseOne st n.1 n.2).trans (ih _)

/-! ## Filling and completing a record (R60 to R62) -/

/-- R62: a pinned record that was being written counted sixty-four blocks, and counts its own from now on. -/
theorem tended_completeRecord (st : CodedStore) (l : Lane) (t : Word) : Tended st (completeRecord st l t) := by
  unfold completeRecord
  split
  · exact .refl st
  · next r hf =>
    dsimp only
    have hshort := fun h : Tidy st => h.short l r (mem_of_findRecord hf)
    split
    · next hq =>
      refine ⟨fun hs => storeSound_of_tidy hs (fun h => ?_) le_rfl rfl, ticks_updRecord rfl fun _ => rfl⟩
      have hpart : pinnedPart { r with complete := true } = pinnedPart r := by
        simp only [Bool.or_eq_true, decide_eq_true_eq] at hq
        rcases hq with hq | hq <;> simp [pinnedPart, pinWeight, hq]
      exact tidy_edit h hf rfl rfl (.refl _) (hshort h) (by rw [hpart]; rfl) rfl
    · next hq =>
      simp only [Bool.or_eq_true, decide_eq_true_eq, not_or] at hq
      have hpart : pinnedPart r = 64 := by simp [pinnedPart, pinWeight, hq.1, Nat.pos_of_ne_zero hq.2]
      have hnew : pinnedPart { r with complete := true } = r.blocks.length := by
        simp [pinnedPart, pinWeight, Nat.pos_of_ne_zero hq.2]
      refine ⟨fun hs => ?_, ticks_updRecord rfl fun _ => rfl⟩
      have h := (storeSound_iff.1 hs).1
      have hle := pinnedPart_le h hf
      have hlen := hshort h
      refine storeSound_of_tidy hs (fun h => tidy_edit h hf rfl rfl (.refl _) (hshort h) ?_ rfl) ?_ rfl
      · rw [hnew, hpart]; show st.pinned - 64 + r.blocks.length + 64 = _; omega
      · show st.pinned - 64 + r.blocks.length ≤ st.pinned; omega

theorem quiet_addPlain (k : SliceKind) : Quiet (addPlain k) := ⟨fun _ => rfl, fun _ => rfl, fun _ => rfl⟩

/-- R60: a slice that is stored takes the blocks that its frame still needs, up to sixty-four, off the free list. -/
theorem tended_takeBlocks {st : CodedStore} {l : Lane} {t : Word} {r : FrameRecord} (hf : findRecord st l t = some r)
    (hw : r.complete = false) {size : Nat} (hb : r.bytes + size ≤ 1048576) (mem : Memory)
    (entry : FrameRecord → SliceEntry) :
    let k := blocksNeeded (r.bytes + size) - r.blocks.length
    Tended st (updRecord { st with free := st.free.drop k, dram := mem } l t (fun x =>
      { x with blocks := r.blocks ++ st.free.take k, bytes := x.bytes + size, slices := x.slices ++ [entry x] })) := by
  intro k
  refine ⟨fun hs => storeSound_of_tidy hs (fun h => ?_) le_rfl rfl, ticks_updRecord rfl fun _ => rfl⟩
  have hneed : blocksNeeded (r.bytes + size) ≤ 64 := by unfold blocksNeeded ceilDiv; omega
  have hshort := h.short l r (mem_of_findRecord hf)
  refine tidy_edit h hf rfl rfl ?_ ?_ ?_ rfl
  · show (st.free.drop k ++ (r.blocks ++ st.free.take k)).Perm (st.free ++ r.blocks)
    rw [← List.append_assoc]
    refine List.perm_append_comm.trans ?_
    rw [← List.append_assoc, List.take_append_drop]
  · show (r.blocks ++ st.free.take k).length ≤ 64
    rw [List.length_append, List.length_take]
    omega
  · simp [pinnedPart, pinWeight, hw, updRecord]

/-! ## Freeing and making a record (R58, R63) -/

/-- R63: a record that no pin holds gives its blocks back and leaves its lane. -/
theorem tended_freeRecord {st : CodedStore} {l : Lane} {r : FrameRecord} (hm : r ∈ st.records[l]) (hz : r.pins = 0) :
    Tended st (freeRecord st l r) := by
  refine ⟨fun hs => storeSound_of_tidy hs (fun h => ?_) le_rfl rfl,
    ticks_set rfl ((List.filter_sublist).map _).subset⟩
  obtain ⟨x, hf⟩ := Option.isSome_iff_exists.1
    (List.find?_isSome.2 ⟨r, hm, decide_eq_true rfl⟩ : (findRecord st l r.tick).isSome)
  obtain ⟨hx, front, back, hl, hfront, hback⟩ := findRecord_split h hf
  have hr : r = x := by
    simp only [hl, List.mem_append, List.mem_singleton] at hm
    rcases hm with (hm | hm) | hm
    · exact absurd rfl (hfront r hm)
    · exact hm
    · exact absurd rfl (hback r hm)
  subst hr
  have hkeep : ∀ xs : List FrameRecord, (∀ x ∈ xs, x.tick ≠ r.tick) →
      xs.filter (fun x => decide (x.tick ≠ r.tick)) = xs :=
    fun xs hxs => List.filter_eq_self.2 fun a ha => decide_eq_true (hxs a ha)
  have hfilter : st.records[l].filter (fun x => decide (x.tick ≠ r.tick)) = front ++ [] ++ back := by
    rw [hl, List.filter_append, List.filter_append, hkeep front hfront, hkeep back hback]
    simp
  have hrise := h.rising l
  refine tidy_splice h hl (by rw [freeRecord, hfilter]) ?_ ?_ (by simp) (by simp [freeRecord, pinnedPart, hz]) rfl
  · simp [freeRecord]
  · rw [hl] at hrise
    exact hrise.sublist (List.Sublist.map _ (by simp))

/-- Every record of a store is younger than 2^31 ticks at a tick. -/
def youngAt (now : Word) (st : CodedStore) : Prop :=
  ∀ l : Lane, ∀ r ∈ st.records[l], (now - r.tick).toNat < 2 ^ 31

theorem youngAt_of_tended {now : Word} {st st' : CodedStore} (h : Tended st st') (hy : youngAt now st) :
    youngAt now st' := fun l r hm => by
  obtain ⟨x, hx, e⟩ := List.mem_map.1 (h.ticks l (List.mem_map_of_mem hm))
  exact e ▸ hy l x hx

/-- R1, R58: a tick later than that of the lane's newest record is later than every tick of a lane whose records are
young: the tick of an older one is no repetition of it, as it is earlier than the newest. -/
theorem earlier_of_tickTest {st : CodedStore} {l : Lane} {now : Word} (h : Tidy st) (hy : youngAt now st)
    (ht : tickTest st l now = true) : ∀ r ∈ st.records[l], earlier r.tick now = true := by
  intro r hm
  obtain ⟨init, last, hl⟩ : ∃ init last, st.records[l] = init ++ [last] :=
    ⟨_, _, (List.dropLast_append_getLast (List.ne_nil_of_mem hm)).symm⟩
  have hlast : earlier last.tick now = true := by simpa [tickTest, newestRecord, hl, later] using ht
  rw [hl, List.mem_append, List.mem_singleton] at hm
  rcases hm with hm | rfl
  · have hrise := h.rising l
    rw [hl, List.map_append, List.pairwise_append] at hrise
    have hold := hrise.2.2 r.tick (List.mem_map_of_mem hm) last.tick (by simp)
    have hyoung := hy l r (by rw [hl]; exact List.mem_append_left _ hm)
    simp only [earlier, Bool.and_eq_true, decide_eq_true_eq] at hold hlast ⊢
    bv_omega
  · exact hlast

/-- R58: the record of a frame that starts at the present tick, later than every tick of its lane. -/
theorem createRecord_keeps {st : CodedStore} {l : Lane} {now : Word} (tc : Timecode) (kind : FrameKind) (n : Nat)
    (hs : storeSound st) (hy : youngAt now st) (ht : ∀ r ∈ st.records[l], earlier r.tick now = true)
    (hfree : st.free ≠ []) :
    storeSound (createRecord l now tc kind n st) ∧ youngAt now (createRecord l now tc kind n st) := by
  obtain ⟨b, rest, hb⟩ := List.exists_cons_of_ne_nil hfree
  refine ⟨storeSound_of_tidy hs (fun h => ?_) le_rfl rfl, fun k r hm => ?_⟩
  · have hrise := h.rising l
    refine tidy_splice h (l := l) (front := st.records[l]) (old := []) (back := [])
      (new := [⟨now, tc, kind, false, n, st.free.take 1, 0, [], 0, .pending, false, false⟩]) (by simp)
      (by simp [createRecord]) ?_ ?_ (by simp [hb]) (by simp [createRecord, pinnedPart]) rfl
    · simp [createRecord, hb]
    · rw [List.append_nil, List.map_append, List.pairwise_append]
      refine ⟨hrise, List.pairwise_singleton .., fun a ha c hc => ?_⟩
      obtain ⟨r, hr, rfl⟩ := List.mem_map.1 ha
      rw [List.mem_singleton.1 hc]
      exact ht r hr
  · rw [createRecord, lane_set] at hm
    split at hm
    · next e =>
      subst e
      rw [List.mem_append, List.mem_singleton] at hm
      rcases hm with hm | rfl
      · exact hy _ r hm
      · simp
    · exact hy k r hm

/-- R69: the ceiling moves within its range, and not below the pinned blocks. -/
theorem storeSound_ceiling {st : CodedStore} {v : Nat} (h : storeSound st) (hlo : 1024 ≤ v) (hhi : v ≤ 16384)
    (hp : st.pinned ≤ v) : storeSound { st with ceiling := v } := by
  obtain ⟨hblocks, hrise, hshort, hsum, -, -, -⟩ := h
  exact ⟨hblocks, hrise, hshort, hsum, hp, hlo, hhi⟩

end Sys2Proof.Machine
end

section
/-! SUPPORT. What the blocks' acts keep of the coded store, said once. An act `Keeps` the store when it leaves the frame
tick and tends the store (`Tended`). For an act that leaves the store alone this is an equivalence, which `simp`
applies; for one that changes it, an implication. -/

namespace Sys2Proof.Machine

/-- From `s` to `t` the frame tick stands, and the store has been tended. -/
def Keeps (s t : State) : Prop := t.ref.tick = s.ref.tick ∧ Tended s.store t.store

theorem Keeps.refl (s : State) : Keeps s s := ⟨rfl, .refl _⟩

theorem Keeps.sound {s t : State} (h : Keeps s t) (hs : storeSound s.store) : storeSound t.store := h.2.sound hs

theorem Keeps.young {s t : State} (h : Keeps s t) (hs : recordsYoung s) : recordsYoung t :=
  youngAt_of_tended h.2 (show youngAt t.ref.tick s.store from h.1 ▸ hs)

variable {s t : State}

theorem keeps_withStore (h : Keeps s t) {st : CodedStore} (ht : Tended t.store st) : Keeps s (t.withStore st) :=
  ⟨h.1, h.2.trans ht⟩

theorem keeps_foldl {α : Type} {f : State → α → State} (hf : ∀ u a, Keeps s u → Keeps s (f u a)) :
    ∀ (l : List α) (t : State), Keeps s t → Keeps s (l.foldl f t)
  | [], _, h => h
  | a :: l, t, h => keeps_foldl hf l (f t a) (hf t a h)

theorem keeps_foldl_iff {α : Type} {f : State → α → State} (hf : ∀ u a, Keeps s (f u a) ↔ Keeps s u) :
    ∀ (l : List α) (t : State), Keeps s (l.foldl f t) ↔ Keeps s t
  | [], _ => .rfl
  | a :: l, t => (keeps_foldl_iff hf l (f t a)).trans (hf t a)

@[simp] theorem keeps_ite (c : Prop) [Decidable c] (a b : State) :
    Keeps s (if c then a else b) ↔ if c then Keeps s a else Keeps s b := by split <;> rfl

theorem keeps_ite_of {c : Prop} [Decidable c] {a b : State} (ha : Keeps s a) (hb : Keeps s b) :
    Keeps s (if c then a else b) := by
  split
  · exact ha
  · exact hb

/-! ## Updates of one block -/

@[simp] theorem keeps_withRef {v : ReferenceUnit} (hv : v.tick = t.ref.tick) : Keeps s (t.withRef v) ↔ Keeps s t := by
  simp [Keeps, hv]
@[simp] theorem keeps_withSeed (v) : Keeps s (t.withSeed v) ↔ Keeps s t := .rfl
@[simp] theorem keeps_withPower (v) : Keeps s (t.withPower v) ↔ Keeps s t := .rfl
@[simp] theorem keeps_withPort (v) : Keeps s (t.withPort v) ↔ Keeps s t := .rfl
@[simp] theorem keeps_withHandler (v) : Keeps s (t.withHandler v) ↔ Keeps s t := .rfl
@[simp] theorem keeps_withContacts (v) : Keeps s (t.withContacts v) ↔ Keeps s t := .rfl
@[simp] theorem keeps_withLanes (v) : Keeps s (t.withLanes v) ↔ Keeps s t := .rfl
@[simp] theorem keeps_withMixer (v) : Keeps s (t.withMixer v) ↔ Keeps s t := .rfl
@[simp] theorem keeps_withPaths (v) : Keeps s (t.withPaths v) ↔ Keeps s t := .rfl
@[simp] theorem keeps_withRet (v) : Keeps s (t.withRet v) ↔ Keeps s t := .rfl
@[simp] theorem keeps_withAsm (v) : Keeps s (t.withAsm v) ↔ Keeps s t := .rfl
@[simp] theorem keeps_withClips (v) : Keeps s (t.withClips v) ↔ Keeps s t := .rfl
@[simp] theorem keeps_withEngines (v) : Keeps s (t.withEngines v) ↔ Keeps s t := .rfl
@[simp] theorem keeps_withLabels (v) : Keeps s (t.withLabels v) ↔ Keeps s t := .rfl
@[simp] theorem keeps_latch (k u) : Keeps s (t.latch k u) ↔ Keeps s t := .rfl
@[simp] theorem keeps_bump (c n) : Keeps s (t.bump c n) ↔ Keeps s t := .rfl
@[simp] theorem keeps_count (c k u) : Keeps s (t.count c k u) ↔ Keeps s t := .rfl
@[simp] theorem keeps_setLane (l v) : Keeps s (t.setLane l v) ↔ Keeps s t := .rfl
@[simp] theorem keeps_modLane (l f) : Keeps s (t.modLane l f) ↔ Keeps s t := .rfl
@[simp] theorem keeps_modRate (l f) : Keeps s (t.modRate l f) ↔ Keeps s t := .rfl
@[simp] theorem keeps_requestKey (l) : Keeps s (t.requestKey l) ↔ Keeps s t := .rfl
@[simp] theorem keeps_setVideo (l v) : Keeps s (t.setVideo l v) ↔ Keeps s t := .rfl
@[simp] theorem keeps_setAudio (k v) : Keeps s (t.setAudio k v) ↔ Keeps s t := .rfl
@[simp] theorem keeps_modPath (p f) : Keeps s (t.modPath p f) ↔ Keeps s t := .rfl
@[simp] theorem keeps_setContact (i v) : Keeps s (t.setContact i v) ↔ Keeps s t := .rfl
@[simp] theorem keeps_advanceTo (n) : Keeps s (t.advanceTo n) ↔ Keeps s t := .rfl
@[simp] theorem keeps_modClip (i f) : Keeps s (t.modClip i f) ↔ Keeps s t := .rfl
@[simp] theorem keeps_setCursor (l c) : Keeps s (t.setCursor l c) ↔ Keeps s t := .rfl
@[simp] theorem keeps_setAwaiting (l b) : Keeps s (t.setAwaiting l b) ↔ Keeps s t := .rfl

/-! ## The handler and the port -/

@[simp] theorem keeps_arrive (q) : Keeps s (arrive q t) ↔ Keeps s t := by unfold arrive; split <;> simp
@[simp] theorem keeps_present (q) : Keeps s (present q t) ↔ Keeps s t := by simp [present]
@[simp] theorem keeps_respond (d r) : Keeps s (respond d r t) ↔ Keeps s t := by unfold respond; split <;> simp

/-- A directive's command keeps the store when its act does (R176). -/
theorem keeps_takeFront {q : QueuedDirective} {act : State → Answer} (ha : ∀ u, Keeps s u → Keeps s (act u).state)
    (h : Keeps s t) : Keeps s (takeFront q act t) := by
  unfold takeFront
  dsimp only
  split
  · rw [keeps_respond]
    exact ha _ (by simpa using h)
  · simpa using h

theorem keeps_takeDirective {n : DirName} {d : Directive} {owner : List Word → State → Answer}
    (ho : ∀ ws u, Keeps s u → Keeps s (owner ws u).state) (h : Keeps s t) :
    Keeps s (takeDirective n d owner t) := by
  refine keeps_takeFront (fun u hu => ?_) h
  unfold answer
  split
  · exact hu
  · exact ho _ _ hu

@[simp] theorem keeps_seqCounts (l v) : Keeps s (seqCounts l v t) ↔ Keeps s t := by unfold seqCounts; split <;> simp
@[simp] theorem keeps_audioPacket (k p) : Keeps s (audioPacket k p t) ↔ Keeps s t := by simp [audioPacket]
@[simp] theorem keeps_mgmtPacket (p) : Keeps s (mgmtPacket p t) ↔ Keeps s t := by simp [mgmtPacket]
@[simp] theorem keeps_transmitterFree : Keeps s (transmitterFree t) ↔ Keeps s t := .rfl
@[simp] theorem keeps_buildBusPacket (b x) : Keeps s (buildBusPacket b x t) ↔ Keeps s t := by
  unfold buildBusPacket; split <;> simp

/-! ## The redispatch list and the paths -/

@[simp] theorem keeps_dropStale : ∀ (n : Nat) (t : State), Keeps s (dropStale n t) ↔ Keeps s t
  | 0, _ => .rfl
  | n + 1, t => by
    unfold dropStale
    split
    · simp [keeps_dropStale n]
    · rfl
@[simp] theorem keeps_settleRedispatch : Keeps s (settleRedispatch t) ↔ Keeps s t := keeps_dropStale _ _
@[simp] theorem keeps_pathsUpRise : Keeps s (pathsUpRise t) ↔ Keeps s t := by
  simp [pathsUpRise, keeps_foldl_iff]
@[simp] theorem keeps_pathsUpFall : Keeps s (pathsUpFall t) ↔ Keeps s t := .rfl
@[simp] theorem keeps_redispatchCell (c) : Keeps s (redispatchCell c t) ↔ Keeps s t := by simp [redispatchCell]
@[simp] theorem keeps_openAfterFall (p) : Keeps s (openAfterFall t p) ↔ Keeps s t := by simp [openAfterFall]
@[simp] theorem keeps_redispatchPath (p) : Keeps s (redispatchPath p t) ↔ Keeps s t := by
  simp [redispatchPath, keeps_foldl_iff]
@[simp] theorem keeps_leaveTraffic (p) : Keeps s (leaveTraffic p t) ↔ Keeps s t := by simp [leaveTraffic]
@[simp] theorem keeps_emptyPath (p st) : Keeps s (emptyPath p st t) ↔ Keeps s t := by simp [emptyPath]
@[simp] theorem keeps_enterUp (p) : Keeps s (enterUp p t) ↔ Keeps s t := by
  unfold enterUp; dsimp only; split <;> simp
@[simp] theorem keeps_leaveDown (p) : Keeps s (leaveDown p t) ↔ Keeps s t := by simp [leaveDown]
@[simp] theorem keeps_attemptFailed (p r) : Keeps s (attemptFailed p r t) ↔ Keeps s t := by
  unfold attemptFailed; dsimp only; split <;> simp
@[simp] theorem keeps_extraInExchange (p w) : Keeps s (extraInExchange p w t) ↔ Keeps s t := by simp [extraInExchange]
@[simp] theorem keeps_offerComplete (p w x) : Keeps s (offerComplete p w x t) ↔ Keeps s t := by
  cases x <;> simp [offerComplete]
@[simp] theorem keeps_offerInOffer (p w) : Keeps s (offerInOffer p w t) ↔ Keeps s t := by simp [offerInOffer]
@[simp] theorem keeps_extraInOffer (p w) : Keeps s (extraInOffer p w t) ↔ Keeps s t := by
  unfold extraInOffer; split <;> simp
@[simp] theorem keeps_farRestart (p) : Keeps s (farRestart p t) ↔ Keeps s t := by simp [farRestart]
@[simp] theorem keeps_takeOffer (p w) : Keeps s (takeOffer p w t) ↔ Keeps s t := by
  unfold takeOffer; dsimp only; split <;> simp
@[simp] theorem keeps_takeExtra (p w) : Keeps s (takeExtra p w t) ↔ Keeps s t := by
  unfold takeExtra; dsimp only; split <;> simp
@[simp] theorem keeps_handshakeCell (p w) : Keeps s (handshakeCell p w t) ↔ Keeps s t := by simp [handshakeCell]
@[simp] theorem keeps_holdCell (p n) : Keeps s (holdCell p n t) ↔ Keeps s t := by simp [holdCell]
@[simp] theorem keeps_carrierPresent (p) : Keeps s (carrierPresent p t) ↔ Keeps s t := by simp [carrierPresent]
@[simp] theorem keeps_carrierLost (p) : Keeps s (carrierLost p t) ↔ Keeps s t := by
  unfold carrierLost; dsimp only; split <;> simp
@[simp] theorem keeps_offerPacer (p) : Keeps s (offerPacer p t) ↔ Keeps s t := by unfold offerPacer; split <;> simp
@[simp] theorem keeps_handshakeTimerExpiry (p) : Keeps s (handshakeTimerExpiry p t) ↔ Keeps s t := by
  unfold handshakeTimerExpiry; split <;> simp
@[simp] theorem keeps_holdTimerExpiry (p) : Keeps s (holdTimerExpiry p t) ↔ Keeps s t := by
  unfold holdTimerExpiry; split <;> simp
@[simp] theorem keeps_lineReady (p) : Keeps s (lineReady p t) ↔ Keeps s t := by
  unfold lineReady; dsimp only; split <;> simp

/-! ## The return receiver -/

@[simp] theorem keeps_placeHolds (m) : Keeps s (placeHolds m t) ↔ Keeps s t := .rfl
@[simp] theorem keeps_highMark : Keeps s (highMark t) ↔ Keeps s t := by simp [highMark]
@[simp] theorem keeps_lowMark : Keeps s (lowMark t) ↔ Keeps s t := by simp [lowMark]
@[simp] theorem keeps_insertReturn (x) : Keeps s (insertReturn x t) ↔ Keeps s t := by simp [insertReturn]
@[simp] theorem keeps_returnArrival (x) : Keeps s (returnArrival x t) ↔ Keeps s t := by simp [returnArrival]
@[simp] theorem keeps_takeFrontCell (x r) : Keeps s (takeFrontCell x r t) ↔ Keeps s t := by simp [takeFrontCell]
@[simp] theorem keeps_needCell : Keeps s (needCell t) ↔ Keeps s t := by
  unfold needCell
  split
  · simp
  · split <;> simp
@[simp] theorem keeps_handFrames : ∀ (n : Nat) (t : State) (acc), Keeps s (handFrames n t acc).1 ↔ Keeps s t
  | 0, _, _ => .rfl
  | n + 1, t, acc => by unfold handFrames; dsimp only; split <;> simp [keeps_handFrames n]
@[simp] theorem keeps_enterPlaying : Keeps s (enterPlaying t) ↔ Keeps s t := by
  unfold enterPlaying
  split
  · rfl
  · dsimp only; split <;> simp
@[simp] theorem keeps_returnBlock : Keeps s (returnBlock t).1 ↔ Keeps s t := by simp [returnBlock]
@[simp] theorem keeps_returnCell (p x) : Keeps s (returnCell p x t) ↔ Keeps s t := by simp [returnCell]
@[simp] theorem keeps_directiveCell (p x) : Keeps s (directiveCell p x t) ↔ Keeps s t := by simp [directiveCell]
@[simp] theorem keeps_checkedCell (p x) : Keeps s (checkedCell p x t) ↔ Keeps s t := by
  unfold checkedCell; split <;> simp
@[simp] theorem keeps_inboundCell (p b) : Keeps s (inboundCell p b t) ↔ Keeps s t := by
  unfold inboundCell
  split
  · rfl
  · split <;> simp

/-! ## The sound mixer -/

@[simp] theorem keeps_handAudio (x) : Keeps s (handAudio x t) ↔ Keeps s t := by simp [handAudio]
@[simp] theorem keeps_handPeriod (c) : ∀ (bs) (t : State), Keeps s (handPeriod c bs t) ↔ Keeps s t
  | [], _ => .rfl
  | _ :: bs, t => by simp [handPeriod, keeps_handPeriod c bs]
@[simp] theorem keeps_audioRequest (k) : Keeps s (audioRequest k t).1 ↔ Keeps s t := by
  unfold audioRequest; dsimp only; split <;> simp
@[simp] theorem keeps_beginBlock : Keeps s (beginBlock t) ↔ Keeps s t := by simp [beginBlock]
@[simp] theorem keeps_countClips (bs) : Keeps s (countClips bs t) ↔ Keeps s t :=
  keeps_foldl_iff (fun _ _ => by simp [countClip]) _ _
@[simp] theorem keeps_completeWork (w) : Keeps s (completeWork w t) ↔ Keeps s t := by
  unfold completeWork; dsimp only; split <;> simp
@[simp] theorem keeps_blockCompletion : Keeps s (blockCompletion t) ↔ Keeps s t := by
  unfold blockCompletion; split <;> simp
@[simp] theorem keeps_blockRequest : Keeps s (blockRequest t) ↔ Keeps s t := by simp [blockRequest]

/-! ## The reference unit -/

@[simp] theorem keeps_referencePulse (n) : Keeps s (referencePulse n t) ↔ Keeps s t := by
  unfold referencePulse
  dsimp only
  split <;> simp [startLocking, lockUnit]
@[simp] theorem keeps_lockingLoss : Keeps s (lockingLoss t) ↔ Keeps s t := by unfold lockingLoss; split <;> simp
@[simp] theorem keeps_referenceLoss : Keeps s (referenceLoss t) ↔ Keeps s t := by unfold referenceLoss; split <;> simp

/-! ## Marks and the label store -/

@[simp] theorem keeps_markStale (i) : Keeps s (markStale i t) ↔ Keeps s t := by simp [markStale]
@[simp] theorem keeps_mark (i) : Keeps s (mark i t) ↔ Keeps s t := by simp [mark]
@[simp] theorem keeps_staleEmptied : Keeps s (staleEmptied t) ↔ Keeps s t := by simp [staleEmptied, keeps_foldl_iff]
@[simp] theorem keeps_beginWrite (i q d c b) : Keeps s (beginWrite i q d c b t) ↔ Keeps s t := by
  unfold beginWrite; dsimp only; split <;> simp
@[simp] theorem keeps_beginNew (i c) : Keeps s (beginNew i c t) ↔ Keeps s t := by simp [beginNew]
@[simp] theorem keeps_popDirty : Keeps s (popDirty t) ↔ Keeps s t := .rfl
@[simp] theorem keeps_serveDirty : ∀ (n : Nat) (t : State), Keeps s (serveDirty n t) ↔ Keeps s t
  | 0, _ => .rfl
  | n + 1, t => by
    unfold serveDirty
    split
    · rfl
    · split
      · rfl
      · split
        · simp
        · split <;> simp [keeps_serveDirty n]
@[simp] theorem keeps_serveCompaction : Keeps s (serveCompaction t) ↔ Keeps s t := by
  unfold serveCompaction
  split
  · split
    · simp
    · split
      · simp
      · split <;> simp
  · rfl
@[simp] theorem keeps_serveErase : Keeps s (serveErase t) ↔ Keeps s t := by simp [serveErase]
@[simp] theorem keeps_kick : Keeps s (kick t) ↔ Keeps s t := by simp [kick]
@[simp] theorem keeps_recordWriteEnd : Keeps s (recordWriteEnd t) ↔ Keeps s t := by
  unfold recordWriteEnd
  split
  · rfl
  · simp
@[simp] theorem keeps_eraseEnd : Keeps s (eraseEnd t) ↔ Keeps s t := by
  unfold eraseEnd
  split
  · simp
  · rfl
@[simp] theorem keeps_rebuildLog : Keeps s (rebuildLog t) ↔ Keeps s t := by simp [rebuildLog, keeps_foldl_iff]
@[simp] theorem keeps_startUpScan : Keeps s (startUpScan t) ↔ Keeps s t := by simp [startUpScan, keeps_foldl_iff]
@[simp] theorem keeps_cutWriting : Keeps s (cutWriting t) ↔ Keeps s t := by unfold cutWriting; split <;> simp
@[simp] theorem keeps_cutErasing : Keeps s (cutErasing t) ↔ Keeps s t := by simp [cutErasing]
@[simp] theorem keeps_powerLoss : Keeps s (powerLoss t) ↔ Keeps s t := by simp [powerLoss]

/-! ## The clip log and the transfer engines -/

theorem keeps_enterQueued (h : Keeps s t) (i) : Keeps s (enterQueued i t) := by
  unfold enterQueued; split <;> simpa using h
theorem keeps_releasePins (h : Keeps s t) (i sel) : Keeps s (releasePins i sel t) := by
  unfold releasePins
  split
  · exact h
  · exact (keeps_modClip ..).2 (keeps_withStore h (tended_releaseRequest _ _))
theorem keeps_transferDone (h : Keeps s t) (e i) : Keeps s (transferDone e i t) := by
  unfold transferDone
  dsimp only
  refine (keeps_mark _).2 (keeps_ite_of ?_ (keeps_releasePins ?_ _ _)) <;> simpa using h
theorem keeps_engineTake (h : Keeps s t) (e i) : Keeps s (engineTake e i t) := by
  unfold engineTake
  dsimp only
  split
  · simpa using h
  · split
    · exact keeps_transferDone (by simpa using h) _ _
    · simpa using h
theorem keeps_runEngines : ∀ (n : Nat) {t : State}, Keeps s t → Keeps s (runEngines n t)
  | 0, _, h => h
  | n + 1, t, h => by
    unfold runEngines
    split
    · exact h
    · split
      · exact keeps_runEngines n (keeps_engineTake h _ _)
      · split
        · exact keeps_runEngines n (keeps_engineTake h _ _)
        · exact h
theorem keeps_serveEngines (h : Keeps s t) : Keeps s (serveEngines t) := keeps_runEngines _ h
theorem keeps_engineAdvance (h : Keeps s t) (e) : Keeps s (engineAdvance e t) := by
  unfold engineAdvance
  split
  · split
    · simpa using h
    · dsimp only
      split
      · simpa using h
      · split
        · simpa using h
        · exact keeps_serveEngines (keeps_transferDone (by simpa using h) _ _)
  · exact h
theorem keeps_closeClip (h : Keeps s t) (i out c) : Keeps s (closeClip i out c t) := by
  unfold closeClip
  split
  · exact h
  · dsimp only
    split
    · exact keeps_enterQueued (keeps_releasePins (by simpa using h) _ _) _
    · exact keeps_releasePins (by simpa using h) _ _
theorem keeps_removeClip (h : Keeps s t) (i) : Keeps s (removeClip i t) := by
  unfold removeClip
  split
  · exact h
  · dsimp only
    rw [keeps_mark, keeps_withClips]
    refine keeps_releasePins ?_ _ _
    split
    · exact (keeps_withClips _).2 (keeps_serveEngines (by simpa using h))
    · simpa using h
theorem keeps_makeRoom (h : Keeps s t) {u : State} (hu : makeRoom t = some u) : Keeps s u := by
  unfold makeRoom at hu
  split at hu
  · cases hu; exact h
  · split at hu
    · cases hu; exact keeps_removeClip h _
    · cases hu

/-- R136: only the granted request's pins are in the store that comes out. -/
theorem tended_stepPoints (st : CodedStore) : ∀ (n : Nat) (pts moved), Tended st (stepPoints st n pts moved).2.2
  | 0, _, _ => .refl st
  | n + 1, pts, moved => by
    unfold stepPoints
    split
    · next hp => exact tended_pinRequest hp
    · split
      · exact .refl st
      · exact tended_stepPoints st n _ _
theorem keeps_makeClip (h : Keeps s t) (ls pre tick tags) : Keeps s (makeClip ls pre tick tags t).1 := by
  unfold makeClip
  dsimp only
  rw [keeps_mark, keeps_withClips, keeps_foldl_iff (fun _ _ => keeps_latch _ _)]
  exact keeps_withStore h (tended_stepPoints _ _ _ _)
theorem keeps_weighRecord (h : Keeps s t) (l r i) : Keeps s (weighRecord l r i t) := by
  unfold weighRecord
  split
  · exact h
  · dsimp only
    split
    · next hp => simpa using keeps_withStore h (tended_pinRequest hp)
    · exact keeps_serveEngines (by simpa using keeps_closeClip h _ _ _)
theorem keeps_newRecord (h : Keeps s t) (l k) : Keeps s (newRecord l k t) := by
  unfold newRecord
  split
  · exact h
  · exact keeps_foldl (fun _ _ hu => keeps_weighRecord hu _ _ _) _ _ h
theorem keeps_contactMarkIn (h : Keeps s t) (k n) : Keeps s (contactMarkIn k n t) := by
  unfold contactMarkIn
  split
  · simpa [markRefused] using h
  · split
    · simpa [markRefused] using h
    · next hr => simpa using keeps_makeClip (keeps_makeRoom h hr) _ _ _ _
theorem keeps_contactMarkOut (h : Keeps s t) (n) : Keeps s (contactMarkOut n t) := by
  unfold contactMarkOut
  split
  · simpa [markRefused] using h
  · split
    · simpa [markRefused] using h
    · split
      · simpa [markRefused] using h
      · exact keeps_serveEngines (by simpa using keeps_closeClip h _ _ _)
theorem keeps_contactToggle (h : Keeps s t) (k n) : Keeps s (contactToggle k n t) := by
  unfold contactToggle
  split
  · exact keeps_contactMarkOut h _
  · exact keeps_contactMarkIn h _ _
theorem keeps_acceptedEdge (h : Keeps s t) (c b n) : Keeps s (acceptedEdge c b n t) := by
  unfold acceptedEdge
  split
  · exact h
  · split
    · exact h
    · exact h
    · exact keeps_contactMarkIn h _ _
    · exact keeps_contactMarkOut h _
    · exact keeps_contactToggle h _ _
    · simpa using h
theorem keeps_contactRawChange (h : Keeps s t) (i b) : Keeps s (contactRawChange i b t) := by
  unfold contactRawChange
  dsimp only
  split
  · exact h
  · split
    · split
      · exact keeps_acceptedEdge (by simpa using h) _ _ _
      · simpa using h
    · simpa using h
theorem keeps_filterRunsOut (h : Keeps s t) (i) : Keeps s (filterRunsOut i t) := by
  unfold filterRunsOut
  dsimp only
  split
  · exact h
  · exact keeps_acceptedEdge (by simpa using h) _ _ _

/-! ## The cursors and the reclaim -/

theorem keeps_seek (l) : ∀ (rs : List FrameRecord) {t : State}, Keeps s t → Keeps s (seek l rs t)
  | [], _, h => (keeps_setCursor ..).2 h
  | r :: rs, t, h => by
    unfold seek
    split
    · exact keeps_seek l rs h
    · split
      · refine keeps_seek l rs ?_
        split
        · exact keeps_withStore h (tended_setLive _ _ _ _)
        · exact h
      · simpa using h
theorem keeps_seekOnward (h : Keeps s t) (l k) : Keeps s (seekOnward l k t) := keeps_seek l _ h
theorem keeps_weighNew (h : Keeps s t) (l k) : Keeps s (weighNew l k t) := by
  unfold weighNew
  split
  · exact keeps_seek _ _ h
  · exact h
theorem keeps_enterAwaiting (h : Keeps s t) (l) : Keeps s (enterAwaiting l t) := by
  unfold enterAwaiting leaveAbandoned
  rw [keeps_settleRedispatch]
  split
  · simpa using h
  · split
    · split
      · exact keeps_seekOnward (by simpa using h) _ _
      · simpa using h
    · simpa using h
theorem keeps_awaitingOrders : ∀ (ls : List Lane) {t : State}, Keeps s t → Keeps s (awaitingOrders ls t)
  | [], _, h => h
  | l :: ls, _, h => keeps_awaitingOrders ls (keeps_enterAwaiting h l)
theorem keeps_liveSkip (h : Keeps s t) (l n) : Keeps s (liveSkip l n t) := by
  unfold liveSkip
  split
  · exact h
  · split
    · exact h
    · exact keeps_enterAwaiting (by simpa using keeps_withStore h (tended_abandonWhere _ _ _)) _
theorem keeps_cutVideo (h : Keeps s t) (l c r e) : Keeps s (cutVideo l c r e t) := by
  have hlive := fun a v => keeps_withStore ((keeps_withAsm a).2 h) (tended_setLive t.store l r.tick v)
  unfold cutVideo
  dsimp only
  split
  · exact hlive _ .sending
  · exact keeps_seekOnward (hlive _ .done) _ _

/-- The oldest of some records is one of them. -/
theorem oldestOf_mem {now : Word} : ∀ {ps : List (Lane × FrameRecord)} {p}, oldestOf now ps = some p → p ∈ ps
  | [], _, h => by cases h
  | a :: ps, p, h => by
    unfold oldestOf at h
    split at h
    · cases h; exact List.mem_cons_self
    · next hb =>
      split at h
      · cases h; exact List.mem_cons_of_mem _ (oldestOf_mem hb)
      · cases h; exact List.mem_cons_self

/-- R63: what reclaim takes is a record of its lane that no pin holds. -/
theorem nextCandidate_mem {u : State} {l : Lane} {r : FrameRecord} (h : nextCandidate u = some (l, r)) :
    r ∈ u.store.records[l] ∧ r.pins = 0 := by
  have hmem : (l, r) ∈ (allRecords u.store).filter (fun p => candidate u p.1 p.2) := by
    unfold nextCandidate at h
    dsimp only at h
    split at h
    · next hp => cases h; exact (List.mem_filter.1 (oldestOf_mem hp)).1
    · exact oldestOf_mem h
  obtain ⟨hall, hcand⟩ := List.mem_filter.1 hmem
  simp only [candidate, Bool.and_eq_true, decide_eq_true_eq] at hcand
  simp only [allRecords, List.mem_flatMap, List.mem_map, Prod.mk.injEq] at hall
  obtain ⟨k, -, x, hx, rfl, rfl⟩ := hall
  exact ⟨hx, hcand.1.2⟩

theorem keeps_reclaim : ∀ (n : Nat) (orders) {t : State}, Keeps s t → Keeps s (reclaim n orders t).1
  | 0, _, _, h => h
  | n + 1, orders, t, h => by
    unfold reclaim
    split
    · exact h
    · split
      · exact h
      · next l r hc =>
        obtain ⟨hm, hz⟩ := nextCandidate_mem hc
        have hfree := keeps_withStore h (tended_freeRecord hm hz)
        dsimp only
        split
        · refine keeps_reclaim n _ ?_
          simpa [reclaimUnsent] using keeps_withStore ((keeps_bump ..).2 hfree) (tended_abandonWhere _ _ _)
        · exact keeps_reclaim n _ ((keeps_bump ..).2 hfree)
theorem keeps_makeReserve (h : Keeps s t) : Keeps s (makeReserve t) := by
  unfold makeReserve
  split
  · exact h
  · exact keeps_awaitingOrders _ (keeps_reclaim _ _ h)

/-! ## The lane coders, short of a frame start -/

@[simp] theorem keeps_maybeOff (l) : Keeps s (maybeOff l t) ↔ Keeps s t := by simp [maybeOff]
@[simp] theorem keeps_workShares (l b) : Keeps s (workShares l b t) ↔ Keeps s t := .rfl
@[simp] theorem keeps_beginSlice (l f k) : Keeps s (beginSlice l f k t) ↔ Keeps s t := by
  unfold beginSlice; dsimp only; split <;> simp
@[simp] theorem keeps_ensureBegun (l) : Keeps s (ensureBegun l t) ↔ Keeps s t := by
  unfold ensureBegun; split <;> simp
theorem keeps_appendSlice (h : Keeps s t) (l k x) : Keeps s (appendSlice l k x t) := by
  unfold appendSlice
  split
  · exact h
  · next r hf =>
    dsimp only
    split
    · exact h
    · next hw =>
      have hplain := fun k' : SliceKind => keeps_withStore h (tended_updQuiet t.store l k (quiet_addPlain k'))
      split
      · exact hplain _
      · split
        · exact hplain _
        · split
          · exact (keeps_bump ..).2 (keeps_withStore h
              (tended_updQuiet _ _ _ ⟨fun _ => rfl, fun _ => rfl, fun _ => rfl⟩))
          · next hcap =>
            split
            · exact (keeps_count ..).2 (keeps_withStore h
                (tended_updQuiet _ _ _ ⟨fun _ => rfl, fun _ => rfl, fun _ => rfl⟩))
            · exact keeps_withStore h (tended_takeBlocks hf (by simpa using hw) (Nat.not_lt.1 hcap) _
                fun old => ⟨.coded, x.q, x.size, old.bytes⟩)
theorem keeps_passOne (h : Keeps s t) (l e x) : Keeps s (passOne l e x t) := by
  have h1 := keeps_appendSlice h l e.tick x
  unfold passOne
  dsimp only
  split
  · exact h1
  · split
    · exact (keeps_modRate ..).2 (keeps_withStore h1 (tended_completeRecord _ _ _))
    · exact h1
theorem keeps_passDone (l) : ∀ (n : Nat) {t : State}, Keeps s t → Keeps s (passDone l n t)
  | 0, _, h => h
  | n + 1, t, h => by
    unfold passDone
    split
    · exact keeps_passDone l n (keeps_passOne ((keeps_modLane ..).2 h) _ _ _)
    · exact h
theorem keeps_passReady (h : Keeps s t) (l) : Keeps s (passReady l t) := keeps_passDone _ _ h
theorem keeps_sliceEnds (h : Keeps s t) (l b x) : Keeps s (sliceEnds l b x t) := by
  unfold sliceEnds
  split
  · exact h
  · split
    · exact h
    · dsimp only
      refine keeps_passReady ?_ _
      rw [keeps_modLane, keeps_modRate]
      have hcap := fun (c : Prop) [Decidable c] =>
        keeps_ite_of (c := c) ((keeps_count ctrSlicesCapped .sliceCapped l.val).2 h) h
      exact keeps_ite_of ((keeps_count ..).2 (hcap _)) (hcap _)
theorem keeps_beginCoding (h : Keeps s t) (l b) : Keeps s (beginCoding l b t) := by
  unfold beginCoding
  split
  · exact h
  · split
    · exact h
    · dsimp only
      split
      · split
        · exact keeps_sliceEnds ((keeps_modLane ..).2 h) _ _ _
        · simpa using h
      · simpa using h
theorem keeps_startEngine (l) : ∀ (n : Nat) {t : State}, Keeps s t → Keeps s (startEngine l n t)
  | 0, _, h => h
  | n + 1, t, h => by
    unfold startEngine
    split
    · exact h
    · split
      · exact h
      · exact keeps_startEngine l n (keeps_beginCoding h _ _)
theorem keeps_makeReady (h : Keeps s t) (l) : Keeps s (makeReady l t) :=
  keeps_startEngine _ _ (keeps_passReady (by simpa using h) _)
theorem keeps_readyUpTo (l k) : ∀ (n : Nat) {t : State}, Keeps s t → Keeps s (readyUpTo l k n t)
  | 0, _, h => h
  | n + 1, t, h => by
    unfold readyUpTo
    split
    · split
      · exact keeps_readyUpTo l k n (keeps_makeReady h _)
      · exact h
    · exact h
theorem keeps_endFrame (h : Keeps s t) (l) : Keeps s (endFrame l t) := by
  unfold endFrame
  split
  · exact h
  · dsimp only
    rw [keeps_maybeOff, keeps_modLane]
    exact keeps_ite_of (keeps_readyUpTo _ _ _ h) h
theorem keeps_readyAfter (h : Keeps s t) (l n) : Keeps s (readyAfter l n t) := by
  unfold readyAfter
  split
  · split
    · exact keeps_makeReady h _
    · exact h
  · exact h
theorem keeps_placeLine (h : Keeps s t) (l f x) : Keeps s (placeLine l f x t) := by
  have h1 : ∀ g k n, Keeps s ((ensureBegun l (readyUpTo l k n (t.modLane l g))).modLane l (putLine x)) :=
    fun g k n => by simpa using keeps_readyUpTo l k n ((keeps_modLane l g).2 h)
  unfold placeLine
  dsimp only
  split
  · simpa using h
  · split
    · exact keeps_readyAfter (h1 _ _ _) _ _
    · exact h1 _ _ _
theorem keeps_laterLine (h : Keeps s t) (l x) : Keeps s (laterLine l x t) := by
  unfold laterLine
  split
  · split
    · split
      · simpa using h
      · split
        · simpa [setPrev] using keeps_placeLine h _ _ _
        · simpa [wrongLength] using h
    · simpa [setPrev] using h
  · simpa [setPrev] using h
theorem keeps_settleStall (h : Keeps s t) (l) : Keeps s (settleStall l t) := by
  unfold settleStall
  split
  · exact h
  · split
    · simpa using keeps_endFrame h l
    · exact keeps_endFrame ((keeps_modLane ..).2 h) _
    · exact h
    · exact h
    · exact h
theorem keeps_laneStall (h : Keeps s t) (l) : Keeps s (laneStall l t) := (keeps_maybeOff _).2 (keeps_settleStall h _)
theorem keeps_sliceCoded (h : Keeps s t) (l b) : Keeps s (sliceCoded l b t) := by
  unfold sliceCoded
  split
  · exact h
  · exact (keeps_maybeOff _).2 (keeps_startEngine _ _ (keeps_sliceEnds h _ _ _))
theorem keeps_idleTick (h : Keeps s t) (l) : Keeps s (idleTick t l) := (keeps_modLane ..).2 (keeps_settleStall h _)

/-! ## Cell assembly -/

@[simp] theorem keeps_placeCell (p x) : Keeps s (placeCell p x t) ↔ Keeps s t := by
  unfold placeCell; dsimp only; split <;> simp
@[simp] theorem keeps_popStale : Keeps s (popStale t) ↔ Keeps s t := by unfold popStale; split <;> simp
theorem keeps_serveControl (h : Keeps s t) {u : State} (hu : serveControl t = some u) : Keeps s u := by
  unfold serveControl at hu
  split at hu <;> cases hu
  simpa using h
theorem keeps_serveRedispatch (h : Keeps s t) {u : State} (hu : serveRedispatch t = some u) : Keeps s u := by
  unfold serveRedispatch at hu
  split at hu
  · split at hu <;> cases hu
    simpa using h
  · cases hu
theorem keeps_serveAudio (h : Keeps s t) {u : State} (hu : serveAudio t = some u) : Keeps s u := by
  unfold serveAudio at hu
  split at hu <;> cases hu
  simpa using h
theorem keeps_serveLabel (h : Keeps s t) {u : State} (hu : serveLabel t = some u) : Keeps s u := by
  unfold serveLabel at hu
  split at hu <;> cases hu
  simpa using h
theorem keeps_serveVideo (h : Keeps s t) {u : State} (hu : serveVideo t = some u) : Keeps s u := by
  unfold serveVideo at hu
  split at hu
  · split at hu <;> cases hu
    simpa using keeps_cutVideo h _ _ _ _
  · cases hu
theorem keeps_serveClip (h : Keeps s t) {u : State} (hu : serveClip t = some u) : Keeps s u := by
  unfold serveClip at hu
  split at hu
  · split at hu <;> cases hu
    exact keeps_engineAdvance (by simpa using h) _
  · cases hu
theorem keeps_firstServed : ∀ (fs : List (State → Option State)) {t : State},
    (∀ f ∈ fs, ∀ u, f t = some u → Keeps s u) → Keeps s t → Keeps s (firstServed fs t)
  | [], _, _, h => h
  | f :: fs, t, hf, h => by
    unfold firstServed
    split
    · next hu => exact hf f List.mem_cons_self _ hu
    · exact keeps_firstServed fs (fun g hg => hf g (List.mem_cons_of_mem _ hg)) h
theorem keeps_cellAssembly (h : Keeps s t) : Keeps s (cellAssembly t) := by
  have h1 : Keeps s (settleRedispatch t) := keeps_settleRedispatch.2 h
  refine keeps_settleRedispatch.2 (keeps_firstServed _ (fun f hf u hu => ?_) h1)
  simp only [List.mem_cons, List.not_mem_nil, or_false] at hf
  rcases hf with rfl | rfl | rfl | rfl | rfl | rfl
  · exact keeps_serveControl h1 hu
  · exact keeps_serveRedispatch h1 hu
  · exact keeps_serveAudio h1 hu
  · exact keeps_serveLabel h1 hu
  · exact keeps_serveVideo h1 hu
  · exact keeps_serveClip h1 hu

end Sys2Proof.Machine
end

section
/-! SUPPORT. The acts that offer a frame to the store (R22, R58), the owners' answers to the directives, and every
command and step. -/

namespace Sys2Proof.Machine

variable {s t : State}

/-! ## Frame starts -/

/-- The store is sound, and its records are young at the frame tick. -/
def Sound (s : State) : Prop := storeSound s.store ∧ recordsYoung s

theorem Sound.keep (h : Sound s) (hk : Keeps s t) : Sound t := ⟨hk.sound h.1, hk.young h.2⟩

/-- R58: the test of the tick holds of the store as it was, and reclaim puts no record into it. -/
theorem sound_offerFrame (h : Sound s) (l : Lane) {now : Word} (hnow : now = s.ref.tick) (tc kind n) :
    Sound (offerFrame l now tc kind n s).1 := by
  subst hnow
  have hk : Keeps s (makeReserve s) := keeps_makeReserve (.refl s)
  unfold offerFrame
  split
  · exact h.keep ((keeps_count ..).2 (.refl s))
  · next ht =>
    dsimp only
    split
    · exact h.keep ((keeps_count ..).2 hk)
    · next hroom =>
      simp only [Bool.or_eq_true, decide_eq_true_eq, not_or, List.isEmpty_iff] at hroom
      obtain ⟨hsound, hyoung⟩ := h.keep hk
      have hticks : ∀ r ∈ (makeReserve s).store.records[l], earlier r.tick s.ref.tick = true := fun r hm => by
        obtain ⟨x, hx, e⟩ := List.mem_map.1 (hk.2.ticks l (List.mem_map_of_mem hm))
        exact e ▸ earlier_of_tickTest (storeSound_iff.1 h.1).1 h.2 (by simpa using ht) x hx
      have hmade := createRecord_keeps tc kind n hsound (hk.1 ▸ hyoung) hticks hroom.2
      exact ⟨hmade.1, show youngAt (makeReserve s).ref.tick _ from hk.1.symm ▸ hmade.2⟩

theorem sound_laneFrameStart (h : Sound s) (l) : Sound (laneFrameStart l s) := by
  have hoffer : ∀ u, Keeps s u → ∀ tc kind n, Sound (offerFrame l s.ref.tick tc kind n u).1 := fun u hu =>
    sound_offerFrame (h.keep hu) l hu.1.symm
  unfold laneFrameStart
  dsimp only
  refine Sound.keep ?_ (keeps_liveSkip (.refl _) _ _)
  split
  · refine Sound.keep ?_ (keeps_weighNew (keeps_newRecord ((keeps_modLane ..).2 (.refl _)) _ _) _ _)
    exact hoffer _ (by simp [Keeps.refl]) _ _ _
  · refine Sound.keep ?_ ((keeps_modLane ..).2 (.refl _))
    exact hoffer _ (by simp [Keeps.refl]) _ _ _

theorem sound_frameStart (h : Sound s) (l x) : Sound (frameStart l x s) := by
  have hend := h.keep ((keeps_modLane l applyHeldFormat).2 (keeps_endFrame (.refl s) l))
  unfold frameStart
  dsimp only
  split
  · exact hend.keep (by simp [discardFrame, Keeps.refl])
  · have hstart := sound_laneFrameStart hend l
    split
    · split
      · exact hstart.keep (keeps_placeLine (.refl _) _ _ _)
      · exact hstart
    · exact hstart

theorem sound_firstLine (h : Sound s) (l x) : Sound (firstLine l x s) := by
  unfold firstLine
  dsimp only
  split
  · exact (sound_frameStart (h.keep ((keeps_modLane ..).2 (.refl s))) l x).keep ((keeps_modLane ..).2 (.refl _))
  · exact h.keep ((keeps_count ..).2 (.refl s))

theorem sound_actOnLine (h : Sound s) (l x) : Sound (actOnLine l x s) := by
  have hlane : ∀ f, Sound (s.modLane l f) := fun f => h.keep ((keeps_modLane l f).2 (.refl s))
  unfold actOnLine
  dsimp only
  split
  · exact h
  · split
    · exact sound_firstLine h _ _
    · exact hlane _
  · split
    · exact sound_firstLine h _ _
    · exact h.keep (keeps_laterLine (.refl s) _ _)
  · split
    · exact sound_firstLine (hlane _) _ _
    · exact (hlane _).keep ((keeps_modLane ..).2 (.refl _))
  · split
    · exact h.keep ((keeps_modLane ..).2 (keeps_endFrame (.refl s) l))
    · exact h.keep (keeps_laterLine (.refl s) _ _)

theorem sound_takeLine (h : Sound s) (l x) : Sound (takeLine l x s) := by
  have hstall := h.keep ((keeps_modLane l (fun c => { c with idle := 0 })).2 (keeps_settleStall (.refl s) l))
  exact (sound_actOnLine hstall l x).keep ((keeps_maybeOff l).2 (.refl _))

theorem sound_pumpLines (l) : ∀ (n : Nat) {s : State}, Sound s → Sound (pumpLines l n s)
  | 0, _, h => h
  | n + 1, s, h => by
    unfold pumpLines
    split
    · exact h
    · split
      · exact h
      · exact sound_pumpLines l n (sound_takeLine (h.keep ((keeps_setVideo ..).2 (.refl s))) _ _)

theorem sound_pump (h : Sound s) (l) : Sound (pump l s) := sound_pumpLines l _ h

theorem sound_linePlaced (h : Sound s) (l) : Sound (linePlaced l s) := by
  have hplaced : ∀ f, Keeps s (s.modLane l f) := fun f => (keeps_modLane l f).2 (.refl s)
  unfold linePlaced
  split
  · exact h
  · dsimp only
    refine sound_pump (h.keep ((keeps_maybeOff l).2 ?_)) l
    split
    · exact keeps_ite_of (keeps_readyAfter (hplaced _) _ _) (hplaced _)
    · exact hplaced _

theorem sound_videoPacket (h : Sound s) (l p) : Sound (videoPacket l p s) := by
  have hseq : ∀ n v w, Sound (seqCounts n v (s.setVideo l w)) := fun n v w =>
    h.keep ((keeps_seqCounts n v).2 ((keeps_setVideo l w).2 (.refl s)))
  unfold videoPacket
  dsimp only
  split
  · exact h.keep ((keeps_bump ..).2 (.refl s))
  · split
    · exact hseq _ _ _
    · split
      · exact (hseq _ _ _).keep ((keeps_count ..).2 (.refl _))
      · split
        · exact (hseq _ _ _).keep ((keeps_count ..).2 (.refl _))
        · exact sound_pump ((hseq _ _ _).keep ((keeps_setVideo ..).2 (.refl _))) l

theorem sound_frameReceived (h : Sound s) (f) : Sound (frameReceived f s) := by
  unfold frameReceived lanePacket
  split
  · split
    · exact sound_videoPacket h _ _
    · exact h.keep (by simp [Keeps.refl])
    · exact h.keep (by simp [Keeps.refl])
  · exact h.keep ((keeps_bump ..).2 (.refl s))

/-! ## The owners' answers -/

@[simp] theorem reply_state (u : State) (r : Report) : (reply u r).state = u := rfl
@[simp] theorem success_state (u : State) : (success u).state = u := rfl
@[simp] theorem refuse_state (u : State) (r : Result) : (refuse u r).state = u := rfl
@[simp] theorem keeps_answer_ite (c : Prop) [Decidable c] (a b : Answer) :
    Keeps s (if c then a else b).state ↔ if c then Keeps s a.state else Keeps s b.state := by split <;> rfl

theorem keeps_actLsta (ws) (h : Keeps s t) : Keeps s (actLsta ws t).state := by unfold actLsta; split <;> simpa using h
theorem keeps_actLstp (ws) (h : Keeps s t) : Keeps s (actLstp ws t).state := by unfold actLstp; split <;> simpa using h
theorem keeps_actLfmt (ws) (h : Keeps s t) : Keeps s (actLfmt ws t).state := by
  unfold actLfmt; dsimp only; split <;> simpa using h
theorem keeps_actLkey (ws) (h : Keeps s t) : Keeps s (actLkey ws t).state := by unfold actLkey; split <;> simpa using h
theorem keeps_actRdln (ws) (h : Keeps s t) : Keeps s (actRdln ws t).state := by unfold actRdln; split <;> simpa using h
theorem keeps_actLrat (ws) (h : Keeps s t) : Keeps s (actLrat ws t).state := by unfold actLrat; split <;> simpa using h
theorem keeps_actLshr (ws) (h : Keeps s t) : Keeps s (actLshr ws t).state := by unfold actLshr; split <;> simpa using h
theorem keeps_actRsrv (ws) (h : Keeps s t) : Keeps s (actRsrv ws t).state := by simpa [actRsrv] using h
theorem keeps_actPmrk (ws) (h : Keeps s t) : Keeps s (actPmrk ws t).state := by
  unfold actPmrk; dsimp only; split <;> simpa using h
theorem keeps_actXpnt (ws) (h : Keeps s t) : Keeps s (actXpnt ws t).state := by unfold actXpnt; split <;> simpa using h
theorem keeps_actBmst (ws) (h : Keeps s t) : Keeps s (actBmst ws t).state := by unfold actBmst; split <;> simpa using h
theorem keeps_actSrce (ws) (h : Keeps s t) : Keeps s (actSrce ws t).state := by
  unfold actSrce; dsimp only; split <;> simpa using h
theorem keeps_actHome (ws) (h : Keeps s t) : Keeps s (actHome ws t).state := by unfold actHome; split <;> simpa using h
theorem keeps_actRamp (ws) (h : Keeps s t) : Keeps s (actRamp ws t).state := by simpa [actRamp] using h
theorem keeps_actFlaw (ws) (h : Keeps s t) : Keeps s (actFlaw ws t).state := by simpa [actFlaw] using h
theorem keeps_actRdmx (ws) (h : Keeps s t) : Keeps s (actRdmx ws t).state := by
  unfold actRdmx; dsimp only; split <;> simpa using h
theorem keeps_actPath (ws) (h : Keeps s t) : Keeps s (actPath ws t).state := by unfold actPath; split <;> simpa using h
theorem keeps_actPena (ws) (h : Keeps s t) : Keeps s (actPena ws t).state := by unfold actPena; split <;> simpa using h
theorem keeps_actPdis (ws) (h : Keeps s t) : Keeps s (actPdis ws t).state := by unfold actPdis; split <;> simpa using h
theorem keeps_actPrst (ws) (h : Keeps s t) : Keeps s (actPrst ws t).state := by unfold actPrst; split <;> simpa using h
theorem keeps_actRtrn (ws) (h : Keeps s t) : Keeps s (actRtrn ws t).state := by
  unfold actRtrn; dsimp only; split <;> simpa using h
theorem keeps_actRdpt (ws) (h : Keeps s t) : Keeps s (actRdpt ws t).state := by unfold actRdpt; split <;> simpa using h
theorem keeps_actTmpl (ws) (h : Keeps s t) : Keeps s (actTmpl ws t).state := by
  unfold actTmpl; dsimp only; split <;> simpa using h
theorem keeps_actKeep (ws) (h : Keeps s t) : Keeps s (actKeep ws t).state := by
  unfold actKeep; dsimp only; split <;> simpa using h
theorem keeps_actTagd (ws) (h : Keeps s t) : Keeps s (actTagd ws t).state := by
  unfold actTagd; dsimp only; split <;> simpa using h
theorem keeps_actRdcl (ws) (h : Keeps s t) : Keeps s (actRdcl ws t).state := by unfold actRdcl; split <;> simpa using h
theorem keeps_actLscl (ws) (h : Keeps s t) : Keeps s (actLscl ws t).state := by simpa [actLscl] using h
theorem keeps_actTcod (ws) (h : Keeps s t) : Keeps s (actTcod ws t).state := by simpa [actTcod] using h
theorem keeps_actScop (ws) (h : Keeps s t) : Keeps s (actScop ws t).state := by unfold actScop; split <;> simpa using h
theorem keeps_actTagc (ws) (h : Keeps s t) : Keeps s (actTagc ws t).state := by
  unfold actTagc
  dsimp only
  split
  · exact h
  · split <;> simpa using h
theorem keeps_actRefr (ws) (h : Keeps s t) : Keeps s (actRefr ws t).state := by
  unfold actRefr; split <;> simpa [changeRate] using h
theorem keeps_actCntr (ws) (h : Keeps s t) : Keeps s (actCntr ws t).state := by
  unfold actCntr; dsimp only; split <;> simpa using h

/-- R69: the ceiling is not set below the pinned blocks. -/
theorem keeps_actCeil (ws) (h : Keeps s t) : Keeps s (actCeil ws t).state := by
  unfold actCeil
  dsimp only
  split
  · exact h
  · next hrange =>
    simp only [Bool.or_eq_true, decide_eq_true_eq, not_or, Nat.not_lt] at hrange
    split
    · exact h
    · next hp =>
      exact keeps_withStore h
        ⟨fun hs => storeSound_ceiling hs hrange.1 hrange.2 (Nat.not_lt.1 hp), fun _ => List.Subset.refl _⟩
theorem keeps_actMkin (ws) (h : Keeps s t) : Keeps s (actMkin ws t).state := by
  unfold actMkin
  extract_lets n tick
  split
  · split
    · exact h
    · split
      · exact h
      · split
        · simpa using h
        · next hr => exact keeps_makeClip (keeps_makeRoom h hr) _ _ _ _
  · exact h
theorem keeps_actMkot (ws) (h : Keeps s t) : Keeps s (actMkot ws t).state := by
  unfold actMkot
  extract_lets id tick close
  have hclose : ∀ c, Keeps s (close c).state := fun c => by
    simp only [close]
    split
    · exact h
    · exact keeps_serveEngines ((keeps_mark _).2 (keeps_closeClip h _ _ _))
  split
  · exact h
  · split
    · split
      · exact h
      · exact hclose _
    · split
      · exact h
      · split
        · exact hclose _
        · exact h
theorem keeps_sendNow (h : Keeps s t) (i p k) : Keeps s (sendNow i p k t) :=
  keeps_serveEngines ((keeps_mark _).2 (keeps_enterQueued (by simpa using h) _))
theorem keeps_actSend (ws) (h : Keeps s t) : Keeps s (actSend ws t).state := by
  unfold actSend
  dsimp only
  split
  · exact h
  · split
    · exact h
    · split
      · exact h
      · split
        · simpa using h
        · exact keeps_sendNow h _ _ _
        · split
          · exact keeps_sendNow (by simpa using h) _ _ _
          · exact h
        all_goals exact h
theorem keeps_actDisc (ws) (h : Keeps s t) : Keeps s (actDisc ws t).state := by
  unfold actDisc
  split
  · exact h
  · exact keeps_removeClip h _
theorem keeps_actCont (ws) (h : Keeps s t) : Keeps s (actCont ws t).state := by
  unfold actCont
  split
  · split
    · exact h
    · dsimp only
      split
      · exact keeps_acceptedEdge (by simpa using h) _ _ _
      · simpa using h
  · exact h

/-! ## Power -/

theorem blocksFrom_eq (n : Nat) : ∀ a, blocksFrom a n = List.range' a n := by
  induction n with
  | zero => exact fun _ => rfl
  | succ n ih => exact fun a => by rw [blocksFrom, ih, List.range'_succ]

/-- R54: at power-on every block is free. -/
theorem storeSound_resetStore : storeSound resetStore := by
  have hnone : allRecords resetStore = [] := by simp [allRecords, resetStore]
  have hblocks : allBlocks resetStore = List.range' 0 16384 := by
    rw [allBlocks, hnone, List.flatMap_nil, List.append_nil]
    exact blocksFrom_eq 16384 0
  have hlane : ∀ l : Lane, resetStore.records[l] = [] := fun l => by simp [resetStore]
  refine ⟨⟨?_, ?_, ?_⟩, fun l => ?_, fun l r hm => ?_, ?_, by decide, by decide, by decide⟩
  · rw [hblocks]; exact List.nodup_range' ..
  · rw [hblocks]; exact List.length_range' ..
  · intro b hb
    rw [hblocks, List.mem_range'_1] at hb
    omega
  · rw [hlane]; exact .nil
  · rw [hlane] at hm; cases hm
  · rw [pinnedSum, hnone]; rfl

/-! ## Every command -/

/-- R164: the new tick comes first; the stalls that it settles put no record into the frame index. -/
theorem keeps_frameTick (s : State) : Keeps (s.withRef (tickUnit s.ref)) (frameTick s) :=
  (keeps_withMixer _).2 (keeps_foldl (fun _ l hu => keeps_idleTick hu l) _ _ (.refl _))

/-- A command of a machine with power, which without power does nothing. -/
theorem storeSound_of_live {f : State → State} (hs : Sound s) (hx : live s f = .next t)
    (hf : storeSound (f s).store) : storeSound t.store := by
  unfold live at hx
  split at hx
  · cases hx; exact hf
  · cases hx; exact hs.1

theorem storeSound_exec (c : Instr) (hs : Sound s) (hx : exec c s = .next t) : storeSound t.store := by
  have hr : Keeps s s := .refl s
  have act : ∀ {f}, live s f = .next t → Keeps s (f s) → storeSound t.store := fun hx hf =>
    storeSound_of_live hs hx (hf.sound hs.1)
  have kicked : ∀ {f : State → State}, live s (fun u => kick (f u)) = .next t → Sound (f s) → storeSound t.store :=
    fun hx hf => storeSound_of_live hs hx (hf.keep (keeps_kick.2 (.refl _))).1
  have taken : ∀ {n d owner}, live s (takeDirective n d owner) = .next t →
      (∀ ws u, Keeps s u → Keeps s (owner ws u).state) → storeSound t.store := fun hx ho =>
    act hx (keeps_takeDirective ho hr)
  have marking : ∀ {n d owner}, live s (fun u => kick (takeDirective n d owner u)) = .next t →
      (∀ ws u, Keeps s u → Keeps s (owner ws u).state) → storeSound t.store := fun hx ho =>
    kicked hx (hs.keep (keeps_takeDirective ho hr))
  cases c with
  | powerOn straps => cases hx; exact storeSound_resetStore
  | resetLine => exact storeSound_of_live hs hx storeSound_resetStore
  | restart =>
    refine storeSound_of_live hs hx ?_
    unfold restart
    split
    · exact storeSound_resetStore
    · exact hs.1
  | frameReceived frame => exact kicked hx (sound_frameReceived hs frame)
  | linePlaced lane => exact kicked hx (sound_linePlaced hs lane)
  | sliceCoded lane coded =>
    replace hx : execSliceCoded lane coded s = .next t := hx
    unfold execSliceCoded at hx
    split at hx
    · cases hx
    · exact act hx (keeps_sliceCoded hr _ _)
  | laneStall lane => exact act hx (keeps_laneStall hr _)
  | blockRequest => exact act hx (keeps_blockRequest.2 hr)
  | blockCompletion => exact act hx (keeps_blockCompletion.2 hr)
  | transmitterFree => exact act hx (keeps_transmitterFree.2 hr)
  | frameTick => exact storeSound_of_live hs hx ((keeps_frameTick s).sound hs.1)
  | referencePulse stamp => exact act hx ((keeps_referencePulse _).2 hr)
  | lockingLoss => exact act hx (keeps_lockingLoss.2 hr)
  | referenceLoss => exact act hx (keeps_referenceLoss.2 hr)
  | contactRawChange input closed =>
    cases hx
    split
    · exact (keeps_kick.2 (keeps_contactRawChange hr _ _)).sound hs.1
    · exact hs.1
  | filterRunsOut input => exact kicked hx (hs.keep (keeps_filterRunsOut hr _))
  | carrierPresent path =>
    cases hx
    exact Keeps.sound (by simpa using hr) hs.1
  | carrierLost path =>
    cases hx
    exact Keeps.sound (by simpa using hr) hs.1
  | offerPacer path => exact act hx ((keeps_offerPacer _).2 hr)
  | handshakeTimerExpiry path => exact act hx ((keeps_handshakeTimerExpiry _).2 hr)
  | holdTimerExpiry path => exact act hx ((keeps_holdTimerExpiry _).2 hr)
  | lineReady path => exact act hx ((keeps_lineReady _).2 hr)
  | inboundCell path bytes => exact act hx ((keeps_inboundCell _ _).2 hr)
  | cellAssembly => exact kicked hx (hs.keep (keeps_cellAssembly hr))
  | recordWriteEnd => exact act hx (keeps_recordWriteEnd.2 hr)
  | eraseEnd => exact act hx (keeps_eraseEnd.2 hr)
  | startUpScan => exact act hx (keeps_startUpScan.2 hr)
  | unknownDirective name d =>
    replace hx : execUnknownDirective name d s = .next t := hx
    unfold execUnknownDirective at hx
    split at hx
    · cases hx
    · exact act hx (keeps_takeFront (fun _ hu => hu) hr)
  | lsta d => exact taken hx fun _ _ => keeps_actLsta _
  | lstp d => exact taken hx fun _ _ => keeps_actLstp _
  | lfmt d => exact taken hx fun _ _ => keeps_actLfmt _
  | lkey d => exact taken hx fun _ _ => keeps_actLkey _
  | rdln d => exact taken hx fun _ _ => keeps_actRdln _
  | lrat d => exact taken hx fun _ _ => keeps_actLrat _
  | lshr d => exact taken hx fun _ _ => keeps_actLshr _
  | rsrv d => exact taken hx fun _ _ => keeps_actRsrv _
  | pmrk d => exact taken hx fun _ _ => keeps_actPmrk _
  | rdas d => exact taken hx fun _ _ hu => hu
  | ceil d => exact taken hx fun _ _ => keeps_actCeil _
  | rdst d => exact taken hx fun _ _ hu => hu
  | xpnt d => exact taken hx fun _ _ => keeps_actXpnt _
  | bmst d => exact taken hx fun _ _ => keeps_actBmst _
  | srce d => exact taken hx fun _ _ => keeps_actSrce _
  | home d => exact taken hx fun _ _ => keeps_actHome _
  | take d => exact taken hx fun _ _ hu => hu
  | ramp d => exact taken hx fun _ _ => keeps_actRamp _
  | flaw d => exact taken hx fun _ _ => keeps_actFlaw _
  | rdmt d => exact taken hx fun _ _ hu => hu
  | rdmx d => exact taken hx fun _ _ => keeps_actRdmx _
  | path d => exact taken hx fun _ _ => keeps_actPath _
  | pena d => exact taken hx fun _ _ => keeps_actPena _
  | pdis d => exact taken hx fun _ _ => keeps_actPdis _
  | prst d => exact taken hx fun _ _ => keeps_actPrst _
  | rtrn d => exact taken hx fun _ _ => keeps_actRtrn _
  | rdpt d => exact taken hx fun _ _ => keeps_actRdpt _
  | mkin d => exact marking hx fun _ _ => keeps_actMkin _
  | mkot d => exact marking hx fun _ _ => keeps_actMkot _
  | tmpl d => exact taken hx fun _ _ => keeps_actTmpl _
  | send d => exact marking hx fun _ _ => keeps_actSend _
  | keep d => exact marking hx fun _ _ => keeps_actKeep _
  | disc d => exact marking hx fun _ _ => keeps_actDisc _
  | tagd d => exact taken hx fun _ _ => keeps_actTagd _
  | tagc d => exact marking hx fun _ _ => keeps_actTagc _
  | rdcl d => exact taken hx fun _ _ => keeps_actRdcl _
  | lscl d => exact taken hx fun _ _ => keeps_actLscl _
  | rdls d => exact taken hx fun _ _ hu => hu
  | tcod d => exact taken hx fun _ _ => keeps_actTcod _
  | refr d => exact taken hx fun _ _ => keeps_actRefr _
  | cont d => exact marking hx fun _ _ => keeps_actCont _
  | rdrf d => exact taken hx fun _ _ hu => hu
  | scop d => exact taken hx fun _ _ => keeps_actScop _
  | emsk d => exact taken hx fun _ _ hu => hu
  | eclr d => exact taken hx fun _ _ hu => hu
  | stat d => exact taken hx fun _ _ hu => hu
  | cntr d => exact taken hx fun _ _ => keeps_actCntr _
  | rstr d => exact taken hx fun _ _ hu => hu
  | powerLoss => exact act hx (keeps_powerLoss.2 hr)

theorem storeSound_idle (hs : storeSound s.store) : storeSound (idle s).store := by
  unfold idle
  split
  · exact hs
  · exact hs

/-- Settles O59: a frame start is the only act that puts a record into the frame index, and the records' youth makes its
tick the latest of its lane; every other act tends the store, whatever the frame tick. -/
theorem stepsKeepTheStoreSound : Obligations.StepsKeepTheStoreSound := by
  intro s t hsound hyoung hstep
  unfold step at hstep
  split at hstep
  · next c rest _ => exact storeSound_exec (s := s.withPending rest) c ⟨hsound, hyoung⟩ hstep
  · cases hstep; exact storeSound_idle hsound

end Sys2Proof.Machine
end

section
/-! SUPPORT. What a command of the summary table is, said once: the taking of its directive by its owner, with the label
writer's look for work behind it. -/

namespace Sys2Proof.Machine

/-- The owner's act of each directive of the summary table (R175 check 5). -/
def ownerOf : DirName → List Word → State → Answer
  | .lsta => actLsta | .lstp => actLstp | .lfmt => actLfmt | .lkey => actLkey | .rdln => actRdln | .lrat => actLrat
  | .lshr => actLshr | .rsrv => actRsrv | .pmrk => actPmrk | .rdas => actRdas | .ceil => actCeil | .rdst => actRdst
  | .xpnt => actXpnt | .bmst => actBmst | .srce => actSrce | .home => actHome | .take => actTake | .ramp => actRamp
  | .flaw => actFlaw | .rdmt => actRdmt | .rdmx => actRdmx | .path => actPath | .pena => actPena | .pdis => actPdis
  | .prst => actPrst | .rtrn => actRtrn | .rdpt => actRdpt | .mkin => actMkin | .mkot => actMkot | .tmpl => actTmpl
  | .send => actSend | .keep => actKeep | .disc => actDisc | .tagd => actTagd | .tagc => actTagc | .rdcl => actRdcl
  | .lscl => actLscl | .rdls => actRdls | .tcod => actTcod | .refr => actRefr | .cont => actCont | .rdrf => actRdrf
  | .scop => actScop | .emsk => actEmsk | .eclr => actEclr | .stat => actStat | .cntr => actCntr | .rstr => actRstr

/-- The meaning of every directive of the summary table. -/
theorem exec_directive {c : Instr} {n : DirName} {d : Directive} (h : directiveOf c = some (n, d)) (s : State) :
    exec c s = live s (fun s => settled n (takeDirective n d (ownerOf n) s)) := by
  cases c <;> cases h <;> rfl

/-- What a command with power has come to, or the machine it found. -/
theorem live_next {s t : State} {f : State → State} (h : live s f = .next t) : t = f s ∨ t = s := by
  unfold live at h
  split at h
  · cases h; exact .inl rfl
  · cases h; exact .inr rfl

end Sys2Proof.Machine
end

section
/-! SUPPORT. The bounds of the directive handler (R16, R120, R176, R178): a calm act keeps them, and so do the arrival and
the taking of a directive, the transmitter and the CONTROL class. -/

namespace Sys2Proof.Machine

variable {s t : State}

theorem handlerBounds_iff : handlerBounds s = true ↔
    s.handler.queue.length ≤ 16 ∧ s.port.egress.length ≤ 32 ∧ (s.port.held = none ∨ s.port.egress.length = 32) ∧
      s.handler.reserved = remoteWaiting s.handler.queue ∧ s.asm.control.length + s.handler.reserved ≤ 8 := by
  simp [handlerBounds, and_assoc]

theorem remoteWaiting_append (l : List QueuedDirective) (q : QueuedDirective) :
    remoteWaiting (l ++ [q]) = remoteWaiting l + if q.body.side = .van then 0 else 1 := by
  by_cases h : q.body.side = .van <;> simp [remoteWaiting, List.filter_append, h]

theorem remoteWaiting_cons (q : QueuedDirective) (l : List QueuedDirective) :
    remoteWaiting (q :: l) = remoteWaiting l + if q.body.side = .van then 0 else 1 := by
  by_cases h : q.body.side = .van <;> simp [remoteWaiting, h]

theorem Calm.handlerBounds (h : Calm s t) (hs : handlerBounds s = true) : handlerBounds t = true := by
  rw [handlerBounds_iff] at *
  obtain ⟨hq, he, hh, hr, hc⟩ := hs
  have hroom := h.room he
  rw [h.queue, h.held, h.reserved, h.control]
  refine ⟨hq, hroom, hh.imp_right fun hfull => ?_, hr, hc⟩
  have := h.full hfull.ge
  omega

/-! ## Directives -/

theorem handlerBounds_arrive (q : QueuedDirective) (hs : handlerBounds s = true) : handlerBounds (arrive q s) = true := by
  have hcount : ∀ c k u, Machine.handlerBounds (s.count c k u) = true := fun c k u =>
    (calm_count (.refl' s) c k u).handlerBounds hs
  obtain ⟨hq, he, hh, hr, hc⟩ := handlerBounds_iff.1 hs
  unfold arrive
  split
  · next hside =>
    split
    · refine handlerBounds_iff.2 ⟨?_, he, hh, ?_, hc⟩
      · simp; omega
      · simpa [remoteWaiting_append, hside] using hr
    · exact hcount _ _ _
  · next hside =>
    split
    · exact hcount _ _ _
    · split
      · refine handlerBounds_iff.2 ⟨?_, he, hh, ?_, ?_⟩
        · simp; omega
        · simpa [remoteWaiting_append, hside] using hr
        · simp; omega
      · exact hcount _ _ _

theorem handlerBounds_present (q : QueuedDirective) (hs : handlerBounds s = true) :
    handlerBounds (present q s) = true := by
  unfold present
  split
  · exact hs
  · exact handlerBounds_arrive q hs

/-- R176, R177: the owner's act is calm, and the response takes the place that the directive leaves: in the egress queue
or outside a full one, where no response is held; or in the control list. -/
theorem handlerBounds_takeFront {q : QueuedDirective} {act : State → Answer} (ha : ∀ u, Calm u (act u).state)
    (hs : handlerBounds s = true) : handlerBounds (takeFront q act s) = true := by
  have hp := handlerBounds_present q hs
  unfold takeFront
  dsimp only
  split
  · next hcan =>
    simp only [canTake, Bool.and_eq_true, decide_eq_true_eq, Option.isNone_iff_eq_none] at hcan
    obtain ⟨⟨-, hheld⟩, hhead⟩ := hcan
    obtain ⟨rest, hrest⟩ : ∃ rest, (present q s).handler.queue = q :: rest := by
      cases hl : (present q s).handler.queue with
      | nil => rw [hl] at hhead; cases hhead
      | cons a l => rw [hl] at hhead; cases hhead; exact ⟨l, rfl⟩
    obtain ⟨hq, he, -, hr, hc⟩ := handlerBounds_iff.1 hp
    rw [hrest] at hq hr
    rw [remoteWaiting_cons] at hr
    have hcalm := ha ((present q s).withHandler { (present q s).handler with queue := (present q s).handler.queue.tail })
    generalize act _ = a at hcalm ⊢
    have hqueue : a.state.handler.queue = rest := hcalm.queue.trans (by simp [hrest])
    have hreserved : a.state.handler.reserved = (present q s).handler.reserved := hcalm.reserved
    have hcontrol : a.state.asm.control = (present q s).asm.control := hcalm.control
    have hnone : a.state.port.held = none := hcalm.held.trans hheld
    have hroom := hcalm.room he
    rw [List.length_cons] at hq
    unfold respond
    split
    · next hside =>
      rw [hside] at hr
      simp only [if_true] at hr
      split
      · next hlt => refine handlerBounds_iff.2 ⟨?_, ?_, .inl hnone, ?_, ?_⟩ <;> simp [*] <;> omega
      · next hge => refine handlerBounds_iff.2 ⟨?_, hroom, .inr ?_, ?_, ?_⟩ <;> simp [*] <;> omega
    · next hside =>
      rw [hside] at hr
      simp only [reduceCtorEq, if_false] at hr
      refine handlerBounds_iff.2 ⟨?_, hroom, .inl hnone, ?_, ?_⟩ <;> simp [*] <;> omega
  · exact hp

end Sys2Proof.Machine
end

section
/-! SUPPORT. Every owner's answer to a directive is calm: it takes no directive and offers no response. -/

namespace Sys2Proof.Machine

variable {s t : State}

/-! ## The owners' answers -/

theorem calm_withHandler (h : Calm s t) {v : Handler} (hq : v.queue = t.handler.queue)
    (hr : v.reserved = t.handler.reserved) : Calm s (t.withHandler v) :=
  h.trans' ⟨rfl, rfl, hq, hr, rfl, rfl, id, id, id⟩

theorem calm_success (h : Calm s t) : Calm s (success t).state := h
theorem calm_reply (h : Calm s t) (r) : Calm s (reply t r).state := h
theorem calm_refuse (h : Calm s t) (r) : Calm s (refuse t r).state := h

theorem calm_sendNow (h : Calm s t) (i p k) : Calm s (sendNow i p k t) :=
  calm_serveEngines (calm_mark (calm_enterQueued (calm_modClip h _ _) _) _)

theorem calm_actLsta (h : Calm s t) (ws) : Calm s (actLsta ws t).state := by
  unfold actLsta
  split
  · exact h
  · split
    · exact calm_success (calm_setVideo (calm_modLane h _ _) _ _)
    · exact h
theorem calm_actLstp (h : Calm s t) (ws) : Calm s (actLstp ws t).state := by
  unfold actLstp
  split
  · exact h
  · split
    · exact h
    · exact calm_success (calm_maybeOff (calm_modLane h _ _) _)
theorem calm_actLfmt (h : Calm s t) (ws) : Calm s (actLfmt ws t).state := by
  unfold actLfmt
  dsimp only
  split
  · exact h
  · split
    · exact calm_success (calm_modLane h _ _)
    · exact h
theorem calm_actLkey (h : Calm s t) (ws) : Calm s (actLkey ws t).state := by
  unfold actLkey
  split
  · exact h
  · split
    · exact h
    · exact calm_success (calm_requestKey h _)
theorem calm_actLrat (h : Calm s t) (ws) : Calm s (actLrat ws t).state := by
  unfold actLrat
  split
  · exact calm_success (calm_modLane h _ _)
  · exact h
theorem calm_actLshr (h : Calm s t) (ws) : Calm s (actLshr ws t).state := by
  unfold actLshr
  split
  · exact h
  · split
    · exact h
    · exact calm_success (calm_modRate h _ _)
theorem calm_actRsrv (h : Calm s t) (ws) : Calm s (actRsrv ws t).state := by
  unfold actRsrv
  split
  · exact h
  · exact calm_withAsm h rfl
theorem calm_actPmrk (h : Calm s t) (ws) : Calm s (actPmrk ws t).state := by
  unfold actPmrk
  dsimp only
  split
  · exact h
  · split
    · exact h
    · exact calm_withAsm h rfl
theorem calm_actCeil (h : Calm s t) (ws) : Calm s (actCeil ws t).state := by
  unfold actCeil
  dsimp only
  split
  · exact h
  · split
    · exact h
    · exact calm_withStore h rfl
theorem calm_actXpnt (h : Calm s t) (ws) : Calm s (actXpnt ws t).state := by
  unfold actXpnt
  split
  · split
    · exact h
    · exact calm_withMixer h _
  · exact h
theorem calm_actBmst (h : Calm s t) (ws) : Calm s (actBmst ws t).state := by
  unfold actBmst
  split
  · split
    · exact h
    · exact calm_withMixer h _
  · exact h
theorem calm_actSrce (h : Calm s t) (ws) : Calm s (actSrce ws t).state := by
  unfold actSrce
  dsimp only
  split
  · split
    · exact h
    · split
      · exact h
      · exact calm_withMixer h _
  · exact h
theorem calm_actHome (h : Calm s t) (ws) : Calm s (actHome ws t).state := by
  unfold actHome
  split
  · split
    · exact calm_withMixer h _
    · exact h
  · exact h
theorem calm_actRamp (h : Calm s t) (ws) : Calm s (actRamp ws t).state := by
  unfold actRamp
  split
  · exact h
  · exact calm_withMixer h _
theorem calm_actFlaw (h : Calm s t) (ws) : Calm s (actFlaw ws t).state := by
  unfold actFlaw
  dsimp only
  split
  · exact h
  · exact calm_withMixer h _
theorem calm_actRdmx (h : Calm s t) (ws) : Calm s (actRdmx ws t).state := by
  unfold actRdmx
  dsimp only
  split
  all_goals exact h
theorem calm_actPath (h : Calm s t) (ws) : Calm s (actPath ws t).state := by
  unfold actPath
  split
  · split
    · exact calm_success (calm_modPath h _ _)
    · exact h
  · exact h
theorem calm_actPena (h : Calm s t) (ws) : Calm s (actPena ws t).state := by
  unfold actPena
  split
  · exact h
  · split
    · exact calm_success (calm_leaveDown (calm_modPath h _ _) _)
    · exact h
theorem calm_actPdis (h : Calm s t) (ws) : Calm s (actPdis ws t).state := by
  unfold actPdis
  split
  · exact h
  · exact calm_success (calm_ite _ h (calm_emptyPath h _ _))
theorem calm_actPrst (h : Calm s t) (ws) : Calm s (actPrst ws t).state := by
  unfold actPrst
  split
  · exact h
  · split
    · exact h
    · exact calm_success (calm_leaveDown (calm_modPath (calm_emptyPath h _ _) _ _) _)
theorem calm_actRtrn (h : Calm s t) (ws) : Calm s (actRtrn ws t).state := by
  unfold actRtrn
  dsimp only
  split
  · exact h
  · split
    · exact h
    · exact calm_success (calm_withRet (calm_ite _ (calm_placeHolds h _) h) _)
theorem calm_actMkin (h : Calm s t) (ws) : Calm s (actMkin ws t).state := by
  unfold actMkin
  extract_lets n tick
  split
  · split
    · exact h
    · split
      · exact h
      · split
        · exact calm_refuse (calm_latch h _ _) _
        · next hroom => exact calm_reply (calm_makeClip (calm_makeRoom h hroom) _ _ _ _) _
  · exact h
theorem calm_actMkot (h : Calm s t) (ws) : Calm s (actMkot ws t).state := by
  have hclose : ∀ (c : Clip) (tick : Word), Calm s (if earlier tick c.inTick then refuse t .range
      else reply (serveEngines (mark c.id (closeClip c.id tick false t))) (.words [BitVec.ofNat 32 c.id, tick])).state := by
    intro c tick
    split
    · exact h
    · exact calm_serveEngines (calm_mark (calm_closeClip h _ _ _) _)
  unfold actMkot
  extract_lets id tick close
  split
  · exact h
  · split
    · split
      · exact h
      · exact hclose _ _
    · split
      · exact h
      · split
        · exact hclose _ _
        · exact h
theorem calm_actTmpl (h : Calm s t) (ws) : Calm s (actTmpl ws t).state := by
  unfold actTmpl
  dsimp only
  split
  · split
    · exact h
    · exact calm_withClips h _
  · exact h
theorem calm_actSend (h : Calm s t) (ws) : Calm s (actSend ws t).state := by
  unfold actSend
  dsimp only
  split
  · exact h
  · split
    · exact h
    · split
      · exact h
      · split
        · exact calm_success (calm_ite _ (calm_modClip h _ _) (calm_mark (calm_modClip h _ _) _))
        · exact calm_success (calm_sendNow h _ _ _)
        · split
          · exact calm_success (calm_sendNow (calm_modClip h _ _) _ _ _)
          · exact h
        all_goals exact h
theorem calm_actKeep (h : Calm s t) (ws) : Calm s (actKeep ws t).state := by
  unfold actKeep
  dsimp only
  split
  · exact h
  · split
    · exact h
    · split
      · exact h
      · exact calm_success (calm_mark (calm_modClip h _ _) _)
theorem calm_actDisc (h : Calm s t) (ws) : Calm s (actDisc ws t).state := by
  unfold actDisc
  split
  · exact h
  · exact calm_success (calm_removeClip h _)
theorem calm_actTagd (h : Calm s t) (ws) : Calm s (actTagd ws t).state := by
  unfold actTagd
  dsimp only
  split
  · exact h
  · split
    · exact h
    · exact calm_success (calm_ite _ (calm_withClips h _) (calm_withAsm (calm_withClips h _) rfl))
theorem calm_actTagc (h : Calm s t) (ws) : Calm s (actTagc ws t).state := by
  unfold actTagc
  dsimp only
  split
  · exact h
  · split
    · exact h
    · split
      · exact h
      · exact calm_success (calm_mark (calm_modClip h _ _) _)
theorem calm_actTcod (h : Calm s t) (ws) : Calm s (actTcod ws t).state := by
  unfold actTcod
  dsimp only
  split
  · exact h
  · exact calm_success (calm_withRef h _)
theorem calm_actRefr (h : Calm s t) (ws) : Calm s (actRefr ws t).state := by
  unfold actRefr
  split
  · exact h
  · split
    · exact h
    · split
      · exact h
      · exact calm_success (calm_withRef h _)
theorem calm_actCont (h : Calm s t) (ws) : Calm s (actCont ws t).state := by
  unfold actCont
  split
  · split
    · exact h
    · dsimp only
      split
      · exact calm_success (calm_acceptedEdge (calm_setContact h _ _) _ _ _)
      · exact calm_success (calm_setContact h _ _)
  · exact h
theorem calm_actScop (h : Calm s t) (ws) : Calm s (actScop ws t).state := by
  unfold actScop
  split
  · exact calm_withHandler h rfl rfl
  · exact h
theorem calm_clearCounters (h : Calm s t) (a b) : Calm s (t.withHandler (clearCounters a b t.handler)) :=
  calm_withHandler h (by simp only [clearCounters]) (by simp only [clearCounters])
theorem calm_actCntr (h : Calm s t) (ws) : Calm s (actCntr ws t).state := by
  unfold actCntr
  dsimp only
  split
  · exact h
  · split
    · exact h
    · refine calm_reply ?_ _
      split
      · exact calm_clearCounters h _ _
      · exact h
/-- A directive that names one lane or path, or one clip, and only reads it. -/
theorem calm_actRdln (h : Calm s t) (ws) : Calm s (actRdln ws t).state := by
  unfold actRdln
  split
  all_goals exact h
theorem calm_actRdpt (h : Calm s t) (ws) : Calm s (actRdpt ws t).state := by
  unfold actRdpt
  split
  all_goals exact h
theorem calm_actRdcl (h : Calm s t) (ws) : Calm s (actRdcl ws t).state := by
  unfold actRdcl
  split
  all_goals exact h
theorem calm_actLscl (h : Calm s t) (ws) : Calm s (actLscl ws t).state := by
  unfold actLscl
  split
  all_goals exact h

/-- R176: no owner takes a directive or offers a response. -/
theorem calm_owner (n : DirName) (ws : List Word) (h : Calm s t) : Calm s (ownerOf n ws t).state := by
  cases n with
  | lsta => exact calm_actLsta h ws
  | lstp => exact calm_actLstp h ws
  | lfmt => exact calm_actLfmt h ws
  | lkey => exact calm_actLkey h ws
  | rdln => exact calm_actRdln h ws
  | lrat => exact calm_actLrat h ws
  | lshr => exact calm_actLshr h ws
  | rsrv => exact calm_actRsrv h ws
  | pmrk => exact calm_actPmrk h ws
  | ceil => exact calm_actCeil h ws
  | xpnt => exact calm_actXpnt h ws
  | bmst => exact calm_actBmst h ws
  | srce => exact calm_actSrce h ws
  | home => exact calm_actHome h ws
  | take | rdmt => exact calm_withMixer h _
  | ramp => exact calm_actRamp h ws
  | flaw => exact calm_actFlaw h ws
  | rdmx => exact calm_actRdmx h ws
  | path => exact calm_actPath h ws
  | pena => exact calm_actPena h ws
  | pdis => exact calm_actPdis h ws
  | prst => exact calm_actPrst h ws
  | rtrn => exact calm_actRtrn h ws
  | rdpt => exact calm_actRdpt h ws
  | mkin => exact calm_actMkin h ws
  | mkot => exact calm_actMkot h ws
  | tmpl => exact calm_actTmpl h ws
  | send => exact calm_actSend h ws
  | keep => exact calm_actKeep h ws
  | disc => exact calm_actDisc h ws
  | tagd => exact calm_actTagd h ws
  | tagc => exact calm_actTagc h ws
  | rdcl => exact calm_actRdcl h ws
  | lscl => exact calm_actLscl h ws
  | tcod => exact calm_actTcod h ws
  | refr => exact calm_actRefr h ws
  | cont => exact calm_actCont h ws
  | scop => exact calm_actScop h ws
  | emsk | eclr | rstr => exact calm_withHandler h rfl rfl
  | cntr => exact calm_actCntr h ws
  | rdas | rdst | rdls | rdrf | stat => exact h

end Sys2Proof.Machine
end

section
/-! SUPPORT. The commands that move directives, responses and CONTROL cells, and every command and step, within the bounds of
the directive handler. -/

namespace Sys2Proof.Machine

variable {s t : State}

theorem handlerBounds_takeDirective (n : DirName) (d : Directive) (hs : handlerBounds s = true) :
    handlerBounds (takeDirective n d (ownerOf n) s) = true := by
  refine handlerBounds_takeFront (fun u => ?_) hs
  unfold answer
  split
  · exact calm_refl
  · exact calm_owner n d.words calm_refl

theorem handlerBounds_settled (n : DirName) (hs : handlerBounds s = true) : handlerBounds (settled n s) = true := by
  unfold settled
  split
  · exact (calm_kick calm_refl).handlerBounds hs
  · exact hs

/-! ## The port, the line and the assembler -/

theorem calm_seqCounts (h : Calm s t) (l v) : Calm s (seqCounts l v t) := by
  unfold seqCounts
  split
  · exact h
  · exact calm_latch (calm_bump h _ _) _ _
  all_goals exact calm_count h _ _ _

theorem calm_videoPacket (h : Calm s t) (l p) : Calm s (videoPacket l p t) := by
  have hseq : ∀ n v w, Calm s (seqCounts n v (t.setVideo l w)) := fun n v w =>
    calm_seqCounts (calm_setVideo h l w) n v
  unfold videoPacket
  dsimp only
  split
  · exact calm_bump h _ _
  · split
    · exact hseq _ _ _
    · split
      · exact calm_count (hseq _ _ _) _ _ _
      · split
        · exact calm_count (hseq _ _ _) _ _ _
        · exact calm_pump (calm_setVideo (hseq _ _ _) _ _) _

theorem calm_audioPacket (h : Calm s t) (k p) : Calm s (audioPacket k p t) := by
  have hseq : ∀ n v w, Calm s (seqCounts n v (t.setAudio k w)) := fun n v w =>
    calm_seqCounts (calm_setAudio h k w) n v
  unfold audioPacket
  dsimp only
  split
  · exact hseq _ _ _
  · split
    · exact calm_count (hseq _ _ _) _ _ _
    · split
      · exact calm_count (hseq _ _ _) _ _ _
      · exact calm_setAudio (hseq _ _ _) _ _

theorem handlerBounds_mgmtPacket (p) (hs : handlerBounds s = true) : handlerBounds (mgmtPacket p s) = true := by
  have hseq : ∀ v q, Calm s (seqCounts 63 v (s.withPort { s.port with mgmt := q })) := by
    refine fun v q => calm_seqCounts ?_ 63 v
    exact calm_withPort calm_refl rfl rfl
  unfold mgmtPacket
  dsimp only
  split
  · exact (calm_count (hseq _ _) _ _ _).handlerBounds hs
  · exact handlerBounds_arrive _ ((hseq _ _).handlerBounds hs)

theorem handlerBounds_frameReceived (f) (hs : handlerBounds s = true) : handlerBounds (frameReceived f s) = true := by
  have hbump : ∀ c n, handlerBounds (s.bump c n) = true := fun c n => (calm_bump calm_refl c n).handlerBounds hs
  unfold frameReceived lanePacket
  split
  · split
    · exact (calm_videoPacket calm_refl _ _).handlerBounds hs
    · split
      · exact (calm_audioPacket calm_refl _ _).handlerBounds hs
      · exact hbump _ _
    · split
      · exact handlerBounds_mgmtPacket _ hs
      · exact hbump _ _
  · exact hbump _ _

/-- R16: where a response is held the egress queue was full, and stays so when that response takes the place of the one
that departs. -/
theorem handlerBounds_transmitterFree (hs : handlerBounds s = true) : handlerBounds (transmitterFree s) = true := by
  obtain ⟨hq, he, hh, hr, hc⟩ := handlerBounds_iff.1 hs
  unfold transmitterFree transmit
  split
  · exact handlerBounds_iff.2 ⟨hq, he, hh, hr, hc⟩
  · next x rest _ hegress =>
    rw [hegress, List.length_cons] at he
    refine handlerBounds_iff.2 ⟨hq, ?_, .inl rfl, hr, hc⟩
    simp only [State.withPort_port, egressDeparts]
    split
    · simpa using he
    · omega
  · exact hs

theorem handlerBounds_inboundCell (p bs) (hs : handlerBounds s = true) : handlerBounds (inboundCell p bs s) = true := by
  have hbump : ∀ c n, handlerBounds (s.bump c n) = true := fun c n => (calm_bump calm_refl c n).handlerBounds hs
  unfold inboundCell
  split
  · exact hs
  · split
    · exact (calm_count calm_refl _ _ _).handlerBounds hs
    · unfold checkedCell
      split
      · exact (calm_handshakeCell calm_refl _ _).handlerBounds hs
      · exact (calm_holdCell calm_refl _ _).handlerBounds hs
      · split
        · exact (calm_returnCell calm_refl _ _).handlerBounds hs
        · exact hbump _ _
      · split
        · unfold directiveCell
          split
          · exact hbump _ _
          · exact handlerBounds_arrive _ hs
        · exact hbump _ _
      · exact hs
      all_goals exact hbump _ _

theorem calm_serveRedispatch (h : Calm s t) {u : State} (hu : serveRedispatch t = some u) : Calm s u := by
  unfold serveRedispatch at hu
  split at hu
  · split at hu
    · obtain rfl := Option.some.inj hu
      refine calm_placeCell ?_ _ _
      exact calm_withAsm h rfl
    · cases hu
  · cases hu

theorem calm_serveAudio (h : Calm s t) {u : State} (hu : serveAudio t = some u) : Calm s u := by
  unfold serveAudio at hu
  split at hu
  · obtain rfl := Option.some.inj hu
    refine calm_placeCell ?_ _ _
    exact calm_withAsm h rfl
  · cases hu

theorem calm_serveLabel (h : Calm s t) {u : State} (hu : serveLabel t = some u) : Calm s u := by
  unfold serveLabel at hu
  split at hu
  · obtain rfl := Option.some.inj hu
    exact calm_placeCell (calm_popStale h) _ _
  · cases hu

theorem calm_serveVideo (h : Calm s t) {u : State} (hu : serveVideo t = some u) : Calm s u := by
  unfold serveVideo at hu
  split at hu
  · split at hu
    · obtain rfl := Option.some.inj hu
      exact calm_placeCell (calm_cutVideo h _ _ _ _) _ _
    · cases hu
  · cases hu

theorem calm_serveClip (h : Calm s t) {u : State} (hu : serveClip t = some u) : Calm s u := by
  unfold serveClip at hu
  split at hu
  · split at hu
    · obtain rfl := Option.some.inj hu
      exact calm_cutClip (calm_placeCell h _ _) _
    · cases hu
  · cases hu

/-- R120: a CONTROL cell that is placed leaves the control list. -/
theorem handlerBounds_serveControl (hs : handlerBounds s = true) {u : State} (hu : serveControl s = some u) :
    handlerBounds u = true := by
  unfold serveControl at hu
  split at hu
  · next x rest p hcontrol _ =>
    obtain rfl := Option.some.inj hu
    refine (calm_placeCell calm_refl _ _).handlerBounds ?_
    obtain ⟨hq, he, hh, hr, hc⟩ := handlerBounds_iff.1 hs
    rw [hcontrol, List.length_cons] at hc
    refine handlerBounds_iff.2 ⟨hq, he, hh, hr, ?_⟩
    simp only [State.withAsm_asm, State.withAsm_handler]
    omega
  · cases hu

/-- What the first service that serves gives, or the machine as it was. -/
theorem firstServed_cases (fs : List (State → Option State)) (s : State) :
    firstServed fs s = s ∨ ∃ f ∈ fs, f s = some (firstServed fs s) := by
  induction fs with
  | nil => exact .inl rfl
  | cons f fs ih =>
    unfold firstServed
    split
    · next hf => exact .inr ⟨f, List.mem_cons_self, hf⟩
    · exact ih.imp_right fun ⟨g, hg, e⟩ => ⟨g, List.mem_cons_of_mem _ hg, e⟩

theorem handlerBounds_cellAssembly (hs : handlerBounds s = true) : handlerBounds (cellAssembly s) = true := by
  have hsettle : ∀ {u}, handlerBounds u = true → handlerBounds (settleRedispatch u) = true := fun hu =>
    (calm_settleRedispatch calm_refl).handlerBounds hu
  have hset := hsettle hs
  refine hsettle ?_
  rcases firstServed_cases [serveControl, serveRedispatch, serveAudio, serveLabel, serveVideo, serveClip]
    (settleRedispatch s) with e | ⟨f, hf, e⟩
  · rwa [e]
  · simp only [List.mem_cons, List.not_mem_nil, or_false] at hf
    rcases hf with rfl | rfl | rfl | rfl | rfl | rfl
    · exact handlerBounds_serveControl hset e
    · exact (calm_serveRedispatch calm_refl e).handlerBounds hset
    · exact (calm_serveAudio calm_refl e).handlerBounds hset
    · exact (calm_serveLabel calm_refl e).handlerBounds hset
    · exact (calm_serveVideo calm_refl e).handlerBounds hset
    · exact (calm_serveClip calm_refl e).handlerBounds hset

/-! ## Every command -/

theorem handlerBounds_resetBlocks (u : State) : handlerBounds (resetBlocks u) = true := rfl

theorem handlerBounds_exec (c : Instr) (hs : handlerBounds s = true) (hx : exec c s = .next t) :
    handlerBounds t = true := by
  have act : ∀ {f : State → State}, live s f = .next t → handlerBounds (f s) = true → handlerBounds t = true :=
    fun hx hf => (live_next hx).elim (· ▸ hf) (· ▸ hs)
  have calm : ∀ {f : State → State}, live s f = .next t → Calm s (f s) → handlerBounds t = true :=
    fun hx hf => act hx (hf.handlerBounds hs)
  have hkick : ∀ {u}, handlerBounds u = true → handlerBounds (kick u) = true := fun hu =>
    (calm_kick calm_refl).handlerBounds hu
  have kicked : ∀ {f : State → State}, live s (fun u => kick (f u)) = .next t → handlerBounds (f s) = true →
      handlerBounds t = true := fun hx hf => act hx (hkick hf)
  cases hd : directiveOf c with
  | some nd =>
    rw [exec_directive hd] at hx
    exact act hx (handlerBounds_settled _ (handlerBounds_takeDirective _ _ hs))
  | none =>
    cases c with
    | powerOn straps => cases hx; exact handlerBounds_resetBlocks _
    | resetLine => exact act hx (handlerBounds_resetBlocks _)
    | restart =>
      refine act hx ?_
      unfold restart
      split
      · exact handlerBounds_resetBlocks _
      · exact hs
    | frameReceived frame => exact kicked hx (handlerBounds_frameReceived frame hs)
    | linePlaced lane => exact kicked hx ((calm_linePlaced calm_refl lane).handlerBounds hs)
    | sliceCoded lane coded =>
      replace hx : execSliceCoded lane coded s = .next t := hx
      unfold execSliceCoded at hx
      split at hx
      · cases hx
      · exact calm hx (calm_sliceCoded calm_refl _ _)
    | laneStall lane => exact calm hx (calm_laneStall calm_refl _)
    | blockRequest => exact calm hx (calm_blockRequest calm_refl)
    | blockCompletion => exact calm hx (calm_blockCompletion calm_refl)
    | transmitterFree => exact act hx (handlerBounds_transmitterFree hs)
    | frameTick => exact calm hx (calm_frameTick calm_refl)
    | referencePulse stamp => exact calm hx (calm_referencePulse calm_refl _)
    | lockingLoss => exact calm hx (calm_lockingLoss calm_refl)
    | referenceLoss => exact calm hx (calm_referenceLoss calm_refl)
    | contactRawChange input closed =>
      cases hx
      split
      · exact hkick ((calm_contactRawChange calm_refl _ _).handlerBounds hs)
      · exact hs
    | filterRunsOut input => exact kicked hx ((calm_filterRunsOut calm_refl _).handlerBounds hs)
    | carrierPresent path =>
      cases hx
      split
      · exact (calm_carrierPresent calm_refl _).handlerBounds hs
      · exact hs
    | carrierLost path =>
      cases hx
      split
      · exact (calm_carrierLost calm_refl _).handlerBounds hs
      · exact hs
    | offerPacer path => exact calm hx (calm_offerPacer calm_refl _)
    | handshakeTimerExpiry path => exact calm hx (calm_handshakeTimerExpiry calm_refl _)
    | holdTimerExpiry path => exact calm hx (calm_holdTimerExpiry calm_refl _)
    | lineReady path => exact calm hx (calm_lineReady calm_refl _)
    | inboundCell path bytes => exact act hx (handlerBounds_inboundCell _ _ hs)
    | cellAssembly => exact kicked hx (handlerBounds_cellAssembly hs)
    | recordWriteEnd => exact calm hx (calm_recordWriteEnd calm_refl)
    | eraseEnd => exact calm hx (calm_eraseEnd calm_refl)
    | startUpScan => exact calm hx (calm_startUpScan calm_refl)
    | unknownDirective name d =>
      replace hx : execUnknownDirective name d s = .next t := hx
      unfold execUnknownDirective at hx
      split at hx
      · cases hx
      · exact act hx (handlerBounds_takeFront (fun _ => calm_refl) hs)
    | powerLoss => exact act hx ((calm_cutErasing (calm_cutWriting calm_refl)).handlerBounds hs)
    | _ => cases hd

/-- Settles O57: a block's own act is calm; a directive's arrival, its taking and its response, a departure and a CONTROL
cell move directives, responses and reserved places one for one. -/
theorem stepsKeepHandlerBounds : Obligations.StepsKeepHandlerBounds := by
  intro s t hs hstep
  unfold step at hstep
  split at hstep
  · next c rest _ => exact handlerBounds_exec (s := s.withPending rest) c hs hstep
  · cases hstep
    unfold idle
    split
    · exact hs
    · exact hs

end Sys2Proof.Machine
end

section
/-! SUPPORT. The capacities of the lists (R9, R12, R55, R91, R109, R113, R121, R122, R131, R133), block by block: an act
that leaves the bounded lists alone keeps them, and so does one that takes an entry where it finds room. -/

namespace Sys2Proof.Machine

/-! ## The bounds, block by block -/

/-- R9, R12: the intake buffers. -/
def PortFits (p : FabricPort) : Prop :=
  (∀ l : Lane, p.video[l].lines.length ≤ 32) ∧ ∀ k : Fin 4, p.audio[k].blocks.length ≤ 4

/-- R91: the send queues. -/
def PathsFit (v : Vector PathCtl 4) : Prop := ∀ p : PathNo, v[p].queue.length ≤ 128

/-- R113, R121, R122, R133: the lists of the assembler. -/
structure AsmFits (a : Assembler) : Prop where
  redispatch : a.redispatch.length ≤ 512
  audio : a.audio.length ≤ 48
  stale : a.staleLabels.length ≤ 256
  tags : a.staleTags.Nodup
  codes : ∀ k ∈ a.staleTags, 1 ≤ k ∧ k ≤ 64

/-- R131, R133: the clip log and its store-dirty list. -/
structure LogFits (g : ClipLog) : Prop where
  clips : g.clips.length ≤ 256
  dirty : g.dirty.length ≤ 256

/-- Every list is within its size. -/
structure Fits (s : State) : Prop where
  port : PortFits s.port
  paths : PathsFit s.paths
  ret : s.ret.queue.length ≤ 64
  asm : AsmFits s.asm
  log : LogFits s.clips
  records : recordsInUse s.store ≤ 4096

theorem forall_mem_toList {α : Type} {n : Nat} {v : Vector α n} {P : α → Prop} :
    (∀ x ∈ v.toList, P x) ↔ ∀ i : Fin n, P v[i] := by
  simp only [Vector.mem_toList_iff, Vector.mem_iff_getElem]
  exact ⟨fun h i => h _ ⟨i, i.isLt, rfl⟩, fun h x ⟨i, hi, e⟩ => e ▸ h ⟨i, hi⟩⟩

/-- R133: tag codes that stand once each are at most sixty-four. -/
theorem length_le_of_codes {l : List Nat} (hn : l.Nodup) (hc : ∀ k ∈ l, 1 ≤ k ∧ k ≤ 64) : l.length ≤ 64 := by
  have hsub : l ⊆ List.range' 1 64 := fun k hk => List.mem_range'_1.2 (by have := hc k hk; omega)
  simpa using (hn.subperm hsub).length_le

theorem listBounds_iff {s : State} : listBounds s = true ↔ Fits s := by
  simp only [listBounds, Bool.and_eq_true, List.all_eq_true, decide_eq_true_eq, forall_mem_toList]
  constructor
  · rintro ⟨⟨⟨⟨⟨⟨⟨⟨⟨⟨⟨⟨hv, ha⟩, hp⟩, hr⟩, hre⟩, hau⟩, hs⟩, hd⟩, hc⟩, hi⟩, -⟩, hn⟩, hk⟩
    exact ⟨⟨hv, ha⟩, hp, hr, ⟨hre, hau, hs, hn, hk⟩, ⟨hc, hd⟩, hi⟩
  · rintro ⟨⟨hv, ha⟩, hp, hr, ⟨hre, hau, hs, hn, hk⟩, ⟨hc, hd⟩, hi⟩
    exact ⟨⟨⟨⟨⟨⟨⟨⟨⟨⟨⟨⟨hv, ha⟩, hp⟩, hr⟩, hre⟩, hau⟩, hs⟩, hd⟩, hc⟩, hi⟩, length_le_of_codes hn hk⟩, hn⟩, hk⟩

variable {t : State}

/-! ## Updates of one block -/

theorem fits_withRef (h : Fits t) (v) : Fits (t.withRef v) := ⟨h.port, h.paths, h.ret, h.asm, h.log, h.records⟩
theorem fits_withSeed (h : Fits t) (v) : Fits (t.withSeed v) := ⟨h.port, h.paths, h.ret, h.asm, h.log, h.records⟩
theorem fits_withPower (h : Fits t) (v) : Fits (t.withPower v) := ⟨h.port, h.paths, h.ret, h.asm, h.log, h.records⟩
theorem fits_withHandler (h : Fits t) (v) : Fits (t.withHandler v) := ⟨h.port, h.paths, h.ret, h.asm, h.log, h.records⟩
theorem fits_withContacts (h : Fits t) (v) : Fits (t.withContacts v) :=
  ⟨h.port, h.paths, h.ret, h.asm, h.log, h.records⟩
theorem fits_withLanes (h : Fits t) (v) : Fits (t.withLanes v) := ⟨h.port, h.paths, h.ret, h.asm, h.log, h.records⟩
theorem fits_withMixer (h : Fits t) (v) : Fits (t.withMixer v) := ⟨h.port, h.paths, h.ret, h.asm, h.log, h.records⟩
theorem fits_withEngines (h : Fits t) (v) : Fits (t.withEngines v) := ⟨h.port, h.paths, h.ret, h.asm, h.log, h.records⟩
theorem fits_withLabels (h : Fits t) (v) : Fits (t.withLabels v) := ⟨h.port, h.paths, h.ret, h.asm, h.log, h.records⟩
theorem fits_withPort (h : Fits t) {v} (hv : PortFits v) : Fits (t.withPort v) :=
  ⟨hv, h.paths, h.ret, h.asm, h.log, h.records⟩
theorem fits_withPaths (h : Fits t) {v} (hv : PathsFit v) : Fits (t.withPaths v) :=
  ⟨h.port, hv, h.ret, h.asm, h.log, h.records⟩
theorem fits_withRet (h : Fits t) {v : ReturnReceiver} (hv : v.queue.length ≤ 64) : Fits (t.withRet v) :=
  ⟨h.port, h.paths, hv, h.asm, h.log, h.records⟩
theorem fits_withAsm (h : Fits t) {v} (hv : AsmFits v) : Fits (t.withAsm v) :=
  ⟨h.port, h.paths, h.ret, hv, h.log, h.records⟩
theorem fits_withClips (h : Fits t) {v} (hv : LogFits v) : Fits (t.withClips v) :=
  ⟨h.port, h.paths, h.ret, h.asm, hv, h.records⟩
theorem fits_withStore (h : Fits t) {v} (hv : recordsInUse v ≤ recordsInUse t.store) : Fits (t.withStore v) :=
  ⟨h.port, h.paths, h.ret, h.asm, h.log, hv.trans h.records⟩

theorem fits_latch (h : Fits t) (k u) : Fits (t.latch k u) :=
  ⟨by simpa [PortFits] using h.port, h.paths, h.ret, h.asm, h.log, h.records⟩
theorem fits_bump (h : Fits t) (c n) : Fits (t.bump c n) :=
  ⟨by simpa [PortFits] using h.port, h.paths, h.ret, h.asm, h.log, h.records⟩
theorem fits_count (h : Fits t) (c k u) : Fits (t.count c k u) := fits_latch (fits_bump h _ _) _ _

theorem fits_modLane (h : Fits t) (l f) : Fits (t.modLane l f) := fits_withLanes h _
theorem fits_modRate (h : Fits t) (l f) : Fits (t.modRate l f) := fits_withLanes h _
theorem fits_requestKey (h : Fits t) (l) : Fits (t.requestKey l) := fits_withLanes h _
theorem fits_advanceTo (h : Fits t) (n) : Fits (t.advanceTo n) := fits_withRef h _
theorem fits_setContact (h : Fits t) (i v) : Fits (t.setContact i v) := fits_withContacts h _

theorem fits_setVideo (h : Fits t) (l) {v : VideoIntake} (hv : v.lines.length ≤ 32) : Fits (t.setVideo l v) := by
  refine fits_withPort h ⟨fun k => ?_, h.port.2⟩
  simp only [lane_set]
  split
  · exact hv
  · exact h.port.1 k

theorem fits_setAudio (h : Fits t) (k) {v : AudioIntake} (hv : v.blocks.length ≤ 4) : Fits (t.setAudio k v) := by
  refine fits_withPort h ⟨h.port.1, fun j => ?_⟩
  simp only [Fin.getElem_fin, Vector.getElem_set]
  split
  · exact hv
  · exact h.port.2 j

theorem fits_modPath (h : Fits t) (p : PathNo) {f : PathCtl → PathCtl}
    (hf : (f t.paths[p]).queue.length ≤ 128) : Fits (t.modPath p f) := by
  refine fits_withPaths h fun q => ?_
  simp only [Fin.getElem_fin, Vector.getElem_set]
  split
  · exact hf
  · exact h.paths q

/-- A change of a path that leaves its send queue alone. -/
theorem fits_modPath_same (h : Fits t) (p : PathNo) (f : PathCtl → PathCtl)
    (hf : ∀ c, (f c).queue = c.queue) : Fits (t.modPath p f) :=
  fits_modPath h p (by rw [hf]; exact h.paths p)

theorem fits_ite {c : Prop} [Decidable c] {a b : State} (ha : Fits a) (hb : Fits b) : Fits (if c then a else b) := by
  split
  · exact ha
  · exact hb

theorem fits_foldl {α : Type} {f : State → α → State} (hf : ∀ u a, Fits u → Fits (f u a)) :
    ∀ (l : List α) {t : State}, Fits t → Fits (l.foldl f t)
  | [], _, h => h
  | a :: l, _, h => fits_foldl hf l (hf _ a h)

theorem AsmFits.same {a b : Assembler} (h : AsmFits a) (he : (b.redispatch, b.audio, b.staleLabels, b.staleTags)
    = (a.redispatch, a.audio, a.staleLabels, a.staleTags)) : AsmFits b := by
  simp only [Prod.mk.injEq] at he
  obtain ⟨hr, ha, hs, hk⟩ := he
  exact ⟨hr ▸ h.redispatch, ha ▸ h.audio, hs ▸ h.stale, hk ▸ h.tags, hk ▸ h.codes⟩

theorem fits_setCursor (h : Fits t) (l c) : Fits (t.setCursor l c) := fits_withAsm h (h.asm.same (by rfl))
theorem fits_setAwaiting (h : Fits t) (l b) : Fits (t.setAwaiting l b) := fits_withAsm h (h.asm.same (by rfl))

/-! ## The records in use (R55) -/

theorem recordsInUse_eq (st : CodedStore) : recordsInUse st = indexSum (fun _ => 1) st := by
  have hlen : ∀ rs : List FrameRecord, (rs.map (fun _ => 1)).sum = rs.length := by simp
  have hlist : st.records.toList.map List.length = List.ofFn (fun l : Lane => st.records[l].length) := by
    refine List.ext_getElem (by simp) fun i _ _ => ?_
    rw [List.getElem_map, List.getElem_ofFn, Vector.getElem_toList]
    rfl
  rw [recordsInUse, hlist, ← List.sum_eq_foldl, List.sum_ofFn]
  simp only [indexSum, hlen]

/-- One lane's records give way to others: the records in use change by what the two lists hold. -/
theorem recordsInUse_set {st st' : CodedStore} {l : Lane} {rs : List FrameRecord}
    (hr : st'.records = st.records.set l rs) : recordsInUse st' + st.records[l].length = recordsInUse st + rs.length := by
  have h := indexSum_splice (fun _ => 1) (st := st) (st' := st') (l := l) (front := []) (old := st.records[l]) (new := rs)
    (back := []) (by simp) (by simpa using hr)
  simpa [recordsInUse_eq] using h

theorem recordsInUse_map {st st' : CodedStore} {l : Lane} {f : FrameRecord → FrameRecord}
    (hr : st'.records = st.records.set l (st.records[l].map f)) : recordsInUse st' = recordsInUse st := by
  have h := recordsInUse_set hr
  rw [List.length_map] at h
  omega

theorem recordsInUse_congr {st st' : CodedStore} (hr : st'.records = st.records) :
    recordsInUse st' = recordsInUse st := by rw [recordsInUse, recordsInUse, hr]

@[simp] theorem recordsInUse_updRecord (st l t f) : recordsInUse (updRecord st l t f) = recordsInUse st :=
  recordsInUse_map rfl
@[simp] theorem recordsInUse_setLive (st l t v) : recordsInUse (setLive st l t v) = recordsInUse st :=
  recordsInUse_updRecord ..
@[simp] theorem recordsInUse_abandonWhere (st l sel) : recordsInUse (abandonWhere st l sel) = recordsInUse st :=
  recordsInUse_map rfl

theorem recordsInUse_freeRecord (st l r) : recordsInUse (freeRecord st l r) ≤ recordsInUse st := by
  have h := recordsInUse_set (st := st) (st' := freeRecord st l r) rfl
  have := List.length_filter_le (fun x => decide (x.tick ≠ r.tick)) st.records[l]
  omega

theorem recordsInUse_createRecord (l t tc kind n st) :
    recordsInUse (createRecord l t tc kind n st) = recordsInUse st + 1 := by
  have h := recordsInUse_set (st := st) (st' := createRecord l t tc kind n st) rfl
  rw [List.length_append, List.length_singleton] at h
  omega

@[simp] theorem recordsInUse_completeRecord (st l t) : recordsInUse (completeRecord st l t) = recordsInUse st := by
  unfold completeRecord
  split
  · rfl
  · dsimp only
    split
    · exact recordsInUse_updRecord ..
    · exact recordsInUse_map rfl
@[simp] theorem recordsInUse_pinOne (st l t) : recordsInUse (pinOne st l t) = recordsInUse st := by
  unfold pinOne
  split
  · rfl
  · dsimp only
    split
    · exact recordsInUse_map rfl
    · exact recordsInUse_updRecord ..
@[simp] theorem recordsInUse_releaseOne (st l t) : recordsInUse (releaseOne st l t) = recordsInUse st := by
  unfold releaseOne
  split
  · rfl
  · split
    · rfl
    · dsimp only
      split
      · exact recordsInUse_map rfl
      · exact recordsInUse_updRecord ..

theorem recordsInUse_foldl {α : Type} {f : CodedStore → α → CodedStore}
    (hf : ∀ st a, recordsInUse (f st a) = recordsInUse st) :
    ∀ (l : List α) (st : CodedStore), recordsInUse (l.foldl f st) = recordsInUse st
  | [], _ => rfl
  | a :: l, st => (recordsInUse_foldl hf l (f st a)).trans (hf st a)

@[simp] theorem recordsInUse_releaseRequest (st names) : recordsInUse (releaseRequest st names) = recordsInUse st :=
  recordsInUse_foldl (fun _ _ => recordsInUse_releaseOne ..) ..

theorem recordsInUse_pinRequest {st st' : CodedStore} {names} (h : pinRequest st names = some st') :
    recordsInUse st' = recordsInUse st := by
  unfold pinRequest at h
  split at h
  · dsimp only at h
    split at h
    · cases h; exact recordsInUse_foldl (fun _ _ => recordsInUse_pinOne ..) ..
    · cases h
  · cases h

theorem recordsInUse_stepPoints (st) : ∀ (n : Nat) (pts moved),
    recordsInUse (stepPoints st n pts moved).2.2 = recordsInUse st
  | 0, _, _ => rfl
  | n + 1, pts, moved => by
    unfold stepPoints
    split
    · next hp => exact recordsInUse_pinRequest hp
    · split
      · rfl
      · exact recordsInUse_stepPoints st n _ _

end Sys2Proof.Machine
end

section
/-! SUPPORT. The acts of the clip log, the cursors, the lane coders and the label store keep the lists within their sizes
(R9, R55, R121, R131, R133). -/

namespace Sys2Proof.Machine

variable {t : State}

/-! ## Marks (R133) -/

theorem LogFits.same {a b : ClipLog} (h : LogFits a) (he : (b.clips, b.dirty) = (a.clips, a.dirty)) : LogFits b := by
  obtain ⟨hc, hd⟩ := Prod.mk.inj he
  exact ⟨hc ▸ h.clips, hd ▸ h.dirty⟩

theorem logFits_markDirty {g : ClipLog} (h : LogFits g) (id) : LogFits (markDirty id g) := by
  rcases markDirty_cases id g with ⟨-, e⟩ | ⟨-, hl, e⟩ | ⟨-, -, e⟩ <;> rw [e]
  · exact h
  · exact ⟨h.clips, by simp; omega⟩
  · exact h.same (by rfl)

theorem logFits_foldl (ids : List Nat) : ∀ {g : ClipLog}, LogFits g →
    LogFits (ids.foldl (fun g id => markDirty id g) g) := by
  induction ids with
  | nil => exact id
  | cons a ids ih => exact fun h => ih (logFits_markDirty h a)

theorem logFits_dirtyEmptied {g : ClipLog} (h : LogFits g) : LogFits (dirtyEmptied g) := by
  unfold dirtyEmptied
  split
  · exact logFits_foldl _ (h.same (by rfl))
  · exact h

theorem fits_markStale (h : Fits t) (id) : Fits (markStale id t) := by
  rcases markStale_cases id t with ⟨-, e⟩ | ⟨-, hl, e⟩ | ⟨-, -, e⟩ <;> rw [e]
  · exact h
  · exact fits_withAsm h ⟨h.asm.redispatch, h.asm.audio, by simp; omega, h.asm.tags, h.asm.codes⟩
  · exact fits_withClips h (h.log.same (by rfl))

theorem fits_mark (h : Fits t) (id) : Fits (mark id t) := fits_markStale (fits_withClips h (logFits_markDirty h.log _)) _

theorem fits_staleEmptied (h : Fits t) : Fits (staleEmptied t) := by
  unfold staleEmptied
  split
  · exact fits_foldl (fun _ _ hu => fits_markStale hu _) _ (fits_withClips h (h.log.same (by rfl)))
  · exact h

theorem fits_modClip (h : Fits t) (id f) : Fits (t.modClip id f) :=
  fits_withClips h ⟨by rw [List.length_map]; exact h.log.clips, h.log.dirty⟩

/-! ## The clips' ids through an act of the engines (R132, R146 to R149) -/

/-- The ids of the clips of the log, oldest first. -/
def logIds (s : State) : List Nat := s.clips.clips.map Clip.id

theorem logIds_modClip (t : State) (id) (f : Clip → Clip) (hf : ∀ c, (f c).id = c.id) :
    logIds (t.modClip id f) = logIds t := by
  simp only [logIds, State.modClip, State.withClips_clips, List.map_map]
  refine List.map_congr_left fun c _ => ?_
  simp only [Function.comp_apply]
  split
  · exact hf c
  · rfl

theorem logIds_mark (t : State) (id) : logIds (mark id t) = logIds t := by
  have hd : (markDirty id t.clips).clips = t.clips.clips := by
    rcases markDirty_cases id t.clips with ⟨-, e⟩ | ⟨-, -, e⟩ | ⟨-, -, e⟩ <;> rw [e]
  unfold mark logIds
  rcases markStale_cases id (t.withClips (markDirty id t.clips)) with ⟨-, e⟩ | ⟨-, -, e⟩ | ⟨-, -, e⟩ <;> rw [e] <;>
    simp [hd]

theorem logIds_releasePins (t : State) (id sel) : logIds (releasePins id sel t) = logIds t := by
  unfold releasePins
  split
  · rfl
  · exact logIds_modClip _ _ _ (by exact fun _ => rfl)

theorem logIds_transferDone (t : State) (e id) : logIds (transferDone e id t) = logIds t := by
  have hdone : logIds (((t.withEngines (t.engines.set e none)).modClip id (fun c =>
      { c with state := .sent, engine := none })).latch .transferDone e.val) = logIds t := logIds_modClip _ _ _ (by exact fun _ => rfl)
  unfold transferDone
  dsimp only
  rw [logIds_mark]
  split
  all_goals
    split
    · exact hdone
    · rw [logIds_releasePins]; exact hdone

theorem logIds_engineTake (t : State) (e id) : logIds (engineTake e id t) = logIds t := by
  have htake : logIds ((t.withClips { t.clips with queue := t.clips.queue.tail }).modClip id (fun c =>
      { c with state := .sending, engine := some e, framesSent := 0 })) = logIds t := logIds_modClip _ _ _ (by exact fun _ => rfl)
  unfold engineTake
  dsimp only
  split
  · exact htake
  · split
    · rw [logIds_transferDone, logIds_mark]; exact htake
    · rw [logIds_mark]; exact htake

theorem logIds_serveEngines (t : State) : logIds (serveEngines t) = logIds t := by
  have hrun : ∀ (n : Nat) (u : State), logIds (runEngines n u) = logIds u := by
    intro n
    induction n with
    | zero => exact fun _ => rfl
    | succ n ih =>
      intro u
      unfold runEngines
      split
      · rfl
      · split
        · exact (ih _).trans (logIds_engineTake ..)
        · split
          · exact (ih _).trans (logIds_engineTake ..)
          · rfl
  exact hrun _ t

/-! ## The clip log and the transfer engines -/

theorem fits_enterQueued (h : Fits t) (id) : Fits (enterQueued id t) := by
  unfold enterQueued
  split
  · exact h
  · exact fits_modClip (fits_withClips h (h.log.same (by rfl))) _ _
theorem fits_releasePins (h : Fits t) (id sel) : Fits (releasePins id sel t) := by
  unfold releasePins
  split
  · exact h
  · exact fits_modClip (fits_withStore h (by simp)) _ _
theorem fits_transferDone (h : Fits t) (e id) : Fits (transferDone e id t) := by
  unfold transferDone
  dsimp only
  have hdone := fits_latch (fits_modClip (fits_withEngines h (t.engines.set e none)) id
    (fun c => { c with state := .sent, engine := none })) .transferDone e.val
  exact fits_mark (fits_ite hdone (fits_releasePins hdone _ _)) _
theorem fits_engineTake (h : Fits t) (e id) : Fits (engineTake e id t) := by
  unfold engineTake
  dsimp only
  have htake := fits_modClip (fits_withClips h (v := { t.clips with queue := t.clips.queue.tail }) (h.log.same (by rfl))) id
    (fun c => { c with state := .sending, engine := some e, framesSent := 0 })
  split
  · exact htake
  · exact fits_ite (fits_transferDone (fits_mark (fits_withEngines htake _) _) _ _)
      (fits_mark (fits_withEngines htake _) _)
theorem fits_runEngines : ∀ (n : Nat) {t : State}, Fits t → Fits (runEngines n t)
  | 0, _, h => h
  | n + 1, t, h => by
    unfold runEngines
    split
    · exact h
    · split
      · exact fits_runEngines n (fits_engineTake h _ _)
      · split
        · exact fits_runEngines n (fits_engineTake h _ _)
        · exact h
theorem fits_serveEngines (h : Fits t) : Fits (serveEngines t) := fits_runEngines _ h
theorem fits_engineAdvance (h : Fits t) (e) : Fits (engineAdvance e t) := by
  unfold engineAdvance
  split
  · split
    · exact fits_withEngines h _
    · dsimp only
      split
      · exact fits_modClip h _ _
      · split
        · exact fits_withEngines (fits_modClip h _ _) _
        · exact fits_serveEngines (fits_transferDone (fits_modClip h _ _) _ _)
  · exact h
theorem fits_closeClip (h : Fits t) (id out c) : Fits (closeClip id out c t) := by
  unfold closeClip
  split
  · exact h
  · exact fits_ite (fits_enterQueued (fits_releasePins (fits_modClip h _ _) _ _) _)
      (fits_releasePins (fits_modClip h _ _) _ _)

/-- R143: a removal takes the clips of one id from the log, and no other, whatever the engines do meanwhile. -/
theorem logIds_removeClip (t : State) (id) : logIds (removeClip id t) = (logIds t).filter (fun i => decide (i ≠ id)) := by
  unfold removeClip
  split
  · next hnone =>
    refine (List.filter_eq_self.2 fun i hi => ?_).symm
    obtain ⟨c, hc, rfl⟩ := List.mem_map.1 hi
    simpa using List.find?_eq_none.1 hnone c hc
  · next c _ =>
    have hout : ∀ u : State, logIds u = logIds t →
        logIds (u.withClips { u.clips with clips := u.clips.clips.filter (fun c => decide (c.id ≠ id)) })
          = (logIds t).filter (fun i => decide (i ≠ id)) := fun u hu => by
      rw [← hu]
      simp [logIds, List.filter_map, Function.comp_def]
    dsimp only
    rw [logIds_mark]
    refine hout _ ((logIds_releasePins ..).trans ?_)
    split
    · exact logIds_serveEngines _
    · rfl

theorem fits_removeClip (h : Fits t) (id) : Fits (removeClip id t) := by
  unfold removeClip
  split
  · exact h
  · next c _ =>
    have hfilter : ∀ {u : State}, Fits u → Fits (u.withClips { u.clips with
        clips := u.clips.clips.filter (fun c => decide (c.id ≠ id)) }) := fun hu =>
      fits_withClips hu ⟨(List.length_filter_le ..).trans hu.log.clips, hu.log.dirty⟩
    have hqueue : ∀ {u : State}, Fits u → Fits (u.withClips { u.clips with
        queue := u.clips.queue.filter (fun i => decide (i ≠ id)) }) := fun hu => fits_withClips hu (hu.log.same (by rfl))
    dsimp only
    refine fits_mark (hfilter (fits_releasePins (hqueue ?_) _ _)) _
    split
    · exact fits_serveEngines (fits_withEngines h _)
    · exact h

/-- R134: where room is found, or made by a retirement, the log holds fewer than 256 clips. -/
theorem fits_makeRoom (h : Fits t) {u : State} (hu : makeRoom t = some u) :
    Fits u ∧ u.clips.clips.length < 256 := by
  unfold makeRoom at hu
  split at hu
  · next hlt => cases hu; exact ⟨h, hlt⟩
  · split at hu
    · next c hfind =>
      cases hu
      have hmem : c.id ∈ logIds t := List.mem_map_of_mem (List.mem_of_find?_eq_some hfind)
      have hless := List.length_filter_lt_length_iff_exists (p := fun i => decide (i ≠ c.id)).2 ⟨_, hmem, by simp⟩
      rw [← logIds_removeClip] at hless
      simp only [logIds, List.length_map] at hless
      exact ⟨fits_removeClip h _, hless.trans_le h.log.clips⟩
    · cases hu

theorem fits_makeClip (h : Fits t) (hroom : t.clips.clips.length < 256) (ls pre tick tags) :
    Fits (makeClip ls pre tick tags t).1 := by
  have hlatch : ∀ (ks : List Lane) (st : CodedStore), recordsInUse st ≤ recordsInUse t.store →
      Fits (ks.foldl (fun s l => s.latch .shortPreroll l.val) (t.withStore st)) := fun ks st hst =>
    fits_foldl (fun _ _ hu => fits_latch hu _ _) _ (fits_withStore h hst)
  have hsame : ∀ (ks : List Lane) (u : State),
      (ks.foldl (fun s l => s.latch .shortPreroll l.val) u).clips = u.clips := by
    intro ks
    induction ks with
    | nil => exact fun _ => rfl
    | cons k ks ih => exact fun u => ih _
  unfold makeClip
  dsimp only
  refine fits_mark ?_ _
  refine fits_withClips (hlatch _ _ (recordsInUse_stepPoints ..).le) ⟨?_, ?_⟩
  · rw [hsame, List.length_append, List.length_singleton]
    exact hroom
  · rw [hsame]
    exact h.log.dirty

theorem fits_weighRecord (h : Fits t) (l r id) : Fits (weighRecord l r id t) := by
  unfold weighRecord
  split
  · exact h
  · dsimp only
    split
    · next hp =>
      have hpin := fits_withStore h (recordsInUse_pinRequest hp).le
      exact fits_ite (fits_mark (fits_modClip (fits_modClip hpin _ _) _ _) _) (fits_modClip hpin _ _)
    · exact fits_serveEngines (fits_mark (fits_latch (fits_closeClip h _ _ _) _ _) _)
theorem fits_newRecord (h : Fits t) (l k) : Fits (newRecord l k t) := by
  unfold newRecord
  split
  · exact h
  · exact fits_foldl (fun _ _ hu => fits_weighRecord hu _ _ _) _ h
theorem fits_contactMarkIn (h : Fits t) (k n) : Fits (contactMarkIn k n t) := by
  unfold contactMarkIn
  split
  · exact fits_bump h _ _
  · split
    · exact fits_latch (fits_bump h _ _) _ _
    · next hroom =>
      obtain ⟨hu, hlt⟩ := fits_makeRoom h hroom
      have hmade := fun ls pre tick tags => fits_makeClip hu hlt ls pre tick tags
      exact fits_ite (fits_mark (fits_modClip (hmade _ _ _ _) _ _) _) (fits_modClip (hmade _ _ _ _) _ _)
theorem fits_contactMarkOut (h : Fits t) (n) : Fits (contactMarkOut n t) := by
  unfold contactMarkOut
  split
  · exact fits_bump h _ _
  · split
    · exact fits_bump h _ _
    · exact fits_ite (fits_bump h _ _) (fits_serveEngines (fits_mark (fits_closeClip h _ _ _) _))
theorem fits_contactToggle (h : Fits t) (k n) : Fits (contactToggle k n t) :=
  fits_ite (fits_contactMarkOut h _) (fits_contactMarkIn h _ _)
theorem fits_acceptedEdge (h : Fits t) (c b n) : Fits (acceptedEdge c b n t) := by
  unfold acceptedEdge
  split
  · exact h
  · split
    · exact h
    · exact h
    · exact fits_contactMarkIn h _ _
    · exact fits_contactMarkOut h _
    · exact fits_contactToggle h _ _
    · exact fits_withMixer h _
theorem fits_contactRawChange (h : Fits t) (i b) : Fits (contactRawChange i b t) := by
  unfold contactRawChange
  dsimp only
  split
  · exact h
  · split
    · exact fits_ite (fits_acceptedEdge (fits_setContact h _ _) _ _ _) (fits_setContact h _ _)
    · exact fits_ite (fits_bump (fits_setContact h _ _) _ _) (fits_setContact h _ _)
theorem fits_filterRunsOut (h : Fits t) (i) : Fits (filterRunsOut i t) := by
  unfold filterRunsOut
  dsimp only
  split
  · exact h
  · exact fits_acceptedEdge (fits_setContact (fits_advanceTo h _) _ _) _ _ _

/-! ## The cursors and the reclaim -/

theorem fits_seek (l) : ∀ (rs : List FrameRecord) {t : State}, Fits t → Fits (seek l rs t)
  | [], _, h => fits_setCursor h _ _
  | r :: rs, t, h => by
    unfold seek
    split
    · exact fits_seek l rs h
    · split
      · exact fits_seek l rs (fits_ite (fits_withStore h (by simp)) h)
      · exact fits_ite (fits_setAwaiting (fits_setCursor h _ _) _ _) (fits_setCursor h _ _)
theorem fits_seekOnward (h : Fits t) (l k) : Fits (seekOnward l k t) := fits_seek l _ h
theorem fits_weighNew (h : Fits t) (l k) : Fits (weighNew l k t) := by
  unfold weighNew
  split
  · exact fits_seek _ _ h
  · exact h
theorem fits_dropStale : ∀ (n : Nat) {t : State}, Fits t → Fits (dropStale n t)
  | 0, _, h => h
  | n + 1, t, h => by
    unfold dropStale
    split
    · next c rest hlist =>
      have hrest : rest.length ≤ 512 := by
        have hall := h.asm.redispatch
        rw [hlist, List.length_cons] at hall
        omega
      have hdrop : Fits (t.withAsm { t.asm with redispatch := rest }) :=
        fits_withAsm h ⟨hrest, h.asm.audio, h.asm.stale, h.asm.tags, h.asm.codes⟩
      exact fits_ite (fits_dropStale n (fits_bump hdrop _ _)) h
    · exact h
theorem fits_settleRedispatch (h : Fits t) : Fits (settleRedispatch t) := fits_dropStale _ h
theorem fits_leaveAbandoned (h : Fits t) (l) : Fits (leaveAbandoned l t) := by
  unfold leaveAbandoned
  split
  · exact h
  · split
    · exact fits_ite (fits_seekOnward h _ _) h
    · exact h
theorem fits_enterAwaiting (h : Fits t) (l) : Fits (enterAwaiting l t) :=
  fits_settleRedispatch (fits_leaveAbandoned (fits_withAsm h (h.asm.same (by rfl))) _)
theorem fits_awaitingOrders : ∀ (ls : List Lane) {t : State}, Fits t → Fits (awaitingOrders ls t)
  | [], _, h => h
  | _ :: ls, _, h => fits_awaitingOrders ls (fits_enterAwaiting h _)
theorem fits_liveSkip (h : Fits t) (l n) : Fits (liveSkip l n t) := by
  unfold liveSkip
  split
  · exact h
  · split
    · exact h
    · exact fits_enterAwaiting (fits_count (fits_requestKey (fits_withStore h (by simp)) _) _ _ _) _
theorem fits_reclaim : ∀ (n : Nat) (orders) {t : State}, Fits t → Fits (reclaim n orders t).1
  | 0, _, _, h => h
  | n + 1, orders, t, h => by
    have hfree : ∀ l r, Fits ((t.withStore (freeRecord t.store l r)).bump ctrFramesReclaimed 1) := fun l r =>
      fits_bump (fits_withStore h (recordsInUse_freeRecord ..)) _ _
    unfold reclaim
    split
    · exact h
    · split
      · exact h
      · next l r _ =>
        dsimp only
        split
        · exact fits_reclaim n _
            (fits_count (fits_requestKey (fits_withStore (hfree l r) (by simp)) _) ctrUnsentReclaimed .storePressure _)
        · exact fits_reclaim n _ (hfree l r)
theorem fits_makeReserve (h : Fits t) : Fits (makeReserve t) :=
  fits_ite h (fits_awaitingOrders _ (fits_reclaim _ _ h))

end Sys2Proof.Machine
end

section
/-! SUPPORT. The acts of the label store, the lane coders and the port keep the lists within their sizes (R9, R12, R55,
R131, R133). -/

namespace Sys2Proof.Machine

variable {t : State}

/-! ## The label store -/

theorem fits_beginWrite (h : Fits t) (i q d c b) : Fits (beginWrite i q d c b t) := by
  unfold beginWrite
  dsimp only
  split
  all_goals exact fits_withLabels h _
theorem fits_beginNew (h : Fits t) (i c) : Fits (beginNew i c t) := fits_beginWrite (fits_withLabels h _) _ _ _ _ _
theorem fits_popDirty (h : Fits t) : Fits (popDirty t) := by
  refine fits_withClips h (logFits_dirtyEmptied ⟨h.log.clips, ?_⟩)
  have := h.log.dirty
  rw [List.length_tail]
  omega
theorem fits_serveDirty : ∀ (n : Nat) {t : State}, Fits t → Fits (serveDirty n t)
  | 0, _, h => h
  | n + 1, t, h => by
    unfold serveDirty
    split
    · exact h
    · split
      · exact h
      · split
        · exact fits_latch (fits_withLabels h _) _ _
        · split
          · exact fits_beginNew (fits_popDirty h) _ _
          · split
            · exact fits_serveDirty n (fits_popDirty h)
            · exact fits_beginNew (fits_popDirty h) _ _
theorem fits_serveCompaction (h : Fits t) : Fits (serveCompaction t) := by
  unfold serveCompaction
  split
  · split
    · exact fits_withLabels h _
    · split
      · exact fits_beginWrite (fits_withLabels h _) _ _ _ _ _
      · split
        · exact fits_withLabels h _
        · exact fits_latch (fits_withLabels h _) _ _
  · exact h
theorem fits_serveErase (h : Fits t) : Fits (serveErase t) := fits_ite (fits_withLabels h _) h
theorem fits_kick (h : Fits t) : Fits (kick t) :=
  fits_ite (fits_serveErase (fits_serveDirty _ (fits_serveCompaction h))) h
theorem fits_recordWriteEnd (h : Fits t) : Fits (recordWriteEnd t) := by
  unfold recordWriteEnd
  split
  · exact h
  · exact fits_kick (fits_ite (fits_withLabels (fits_advanceTo h _) _)
      (fits_modClip (fits_withLabels (fits_advanceTo h _) _) _ _))
theorem fits_eraseEnd (h : Fits t) : Fits (eraseEnd t) := by
  unfold eraseEnd
  split
  · have hend := fun v n => fits_withLabels (fits_advanceTo h n) v
    exact fits_kick (fits_withLabels (fits_ite (fits_serveDirty _ (fits_withLabels (hend _ _) _)) (hend _ _)) _)
  · exact h

/-- R161: at most the 256 newest records make clips. -/
theorem fits_rebuildLog (h : Fits t) : Fits (rebuildLog t) := by
  unfold rebuildLog
  dsimp only
  refine fits_foldl (fun _ _ hu => fits_markStale hu _) _ ?_
  refine fits_withAsm ?_ ⟨h.asm.redispatch, h.asm.audio, by simp, h.asm.tags, h.asm.codes⟩
  refine fits_withClips h (logFits_foldl _ ⟨?_, by simp⟩)
  simp only [List.length_map, List.length_drop]
  omega
theorem fits_startUpScan (h : Fits t) : Fits (startUpScan t) := by
  unfold startUpScan
  refine fits_ite h (fits_kick (fits_withLabels (fits_rebuildLog ?_) _))
  exact fits_foldl (fun _ _ hu => fits_latch hu _ _) _ (fits_withLabels h _)
theorem fits_cutWriting (h : Fits t) : Fits (cutWriting t) := by
  unfold cutWriting
  split
  · exact h
  · exact fits_withSeed (fits_withLabels h _) _
theorem fits_cutErasing (h : Fits t) : Fits (cutErasing t) := fits_ite h (fits_withSeed (fits_withLabels h _) _)

/-! ## Passing and coding (R28, R30) -/

theorem fits_maybeOff (h : Fits t) (l) : Fits (maybeOff l t) :=
  fits_ite (fits_setVideo (fits_withLanes h _) _ (by simp [emptyVideo])) h
theorem fits_appendSlice (h : Fits t) (l k x) : Fits (appendSlice l k x t) := by
  have hupd : ∀ f, Fits (t.withStore (updRecord t.store l k f)) := fun f => fits_withStore h (by simp)
  unfold appendSlice
  split
  · exact h
  · dsimp only
    split
    · exact h
    · split
      · exact hupd _
      · split
        · exact hupd _
        · split
          · exact fits_bump (hupd _) _ _
          · split
            · exact fits_count (hupd _) _ _ _
            · exact fits_withStore h ((recordsInUse_updRecord ..).trans (recordsInUse_congr rfl)).le
theorem fits_passOne (h : Fits t) (l e x) : Fits (passOne l e x t) := by
  have happ := fits_appendSlice h l e.tick x
  unfold passOne
  dsimp only
  split
  · exact happ
  · exact fits_ite (fits_modRate (fits_withStore happ (by simp)) _ _) happ
theorem fits_passDone (l) : ∀ (n : Nat) {t : State}, Fits t → Fits (passDone l n t)
  | 0, _, h => h
  | n + 1, t, h => by
    unfold passDone
    split
    · exact fits_passDone l n (fits_passOne (fits_modLane h _ _) _ _ _)
    · exact h
theorem fits_passReady (h : Fits t) (l) : Fits (passReady l t) := fits_passDone _ _ h
theorem fits_sliceEnds (h : Fits t) (l b x) : Fits (sliceEnds l b x t) := by
  unfold sliceEnds
  split
  · exact h
  · split
    · exact h
    · have hcap : ∀ (c : Bool), Fits (if c then t.count ctrSlicesCapped .sliceCapped l.val else t) := fun c =>
        fits_ite (fits_count h _ _ _) h
      exact fits_passReady (fits_modLane (fits_modRate (fits_ite (fits_count (hcap _) _ _ _) (hcap _)) _ _) _ _) _
theorem fits_beginCoding (h : Fits t) (l b) : Fits (beginCoding l b t) := by
  unfold beginCoding
  split
  · exact h
  · split
    · exact h
    · dsimp only
      split
      · split
        · exact fits_sliceEnds (fits_modLane h _ _) _ _ _
        · exact fits_modLane (fits_modRate (fits_modLane h _ _) _ _) _ _
      · exact fits_modLane (fits_modLane h _ _) _ _
theorem fits_startEngine (l) : ∀ (n : Nat) {t : State}, Fits t → Fits (startEngine l n t)
  | 0, _, h => h
  | n + 1, t, h => by
    unfold startEngine
    split
    · exact h
    · split
      · exact h
      · exact fits_startEngine l n (fits_beginCoding h _ _)

/-! ## Slices and lines (R9, R21, R26, R31) -/

theorem fits_beginSlice (h : Fits t) (l f k) : Fits (beginSlice l f k t) := by
  unfold beginSlice
  dsimp only
  split
  · exact fits_modLane h _ _
  · exact fits_count (fits_modLane h _ _) _ _ _
theorem fits_ensureBegun (h : Fits t) (l) : Fits (ensureBegun l t) := by
  unfold ensureBegun
  split
  · exact fits_ite h (fits_beginSlice h _ _ _)
  · exact h
theorem fits_makeReady (h : Fits t) (l) : Fits (makeReady l t) :=
  fits_startEngine _ _ (fits_passReady (fits_modLane (fits_ensureBegun h _) _ _) _)
theorem fits_readyUpTo (l k) : ∀ (n : Nat) {t : State}, Fits t → Fits (readyUpTo l k n t)
  | 0, _, h => h
  | n + 1, t, h => by
    unfold readyUpTo
    split
    · exact fits_ite (fits_readyUpTo l k n (fits_makeReady h _)) h
    · exact h
theorem fits_endFrame (h : Fits t) (l) : Fits (endFrame l t) := by
  unfold endFrame
  split
  · exact h
  · exact fits_maybeOff (fits_modLane (fits_ite (fits_readyUpTo _ _ _ h) h) _ _) _
theorem fits_readyAfter (h : Fits t) (l n) : Fits (readyAfter l n t) := by
  unfold readyAfter
  split
  · exact fits_ite (fits_makeReady h _) h
  · exact h
theorem fits_placeLine (h : Fits t) (l f x) : Fits (placeLine l f x t) := by
  unfold placeLine
  have hput := fun g => fits_modLane (fits_ensureBegun (fits_readyUpTo l (x.number / 16) (sliceCount f.format)
    (fits_modLane h l g)) l) l (putLine x)
  exact fits_ite (fits_modLane h _ _) (fits_ite (fits_readyAfter (hput _) _ _) (hput _))
theorem fits_laterLine (h : Fits t) (l x) : Fits (laterLine l x t) := by
  unfold laterLine
  split
  · split
    · exact fits_ite (fits_bump h _ _) (fits_ite (fits_modLane (fits_placeLine h _ _ _) _ _) (fits_count h _ _ _))
    · exact fits_modLane h _ _
  · exact fits_modLane h _ _
theorem fits_settleStall (h : Fits t) (l) : Fits (settleStall l t) := by
  unfold settleStall
  split
  · exact h
  · split
    · exact fits_count (fits_modLane (fits_endFrame h _) _ _) _ _ _
    · exact fits_endFrame (fits_modLane h _ _) _
    all_goals exact h

/-! ## Frame starts (R22, R58) -/

/-- R58 step 4: a record is made only below 4,096. -/
theorem fits_offerFrame (h : Fits t) (l k tc kind n) : Fits (offerFrame l k tc kind n t).1 := by
  have hres := fits_makeReserve h
  unfold offerFrame
  split
  · exact fits_count h _ _ _
  · dsimp only
    split
    · exact fits_count hres _ _ _
    · next hroom =>
      simp only [Bool.or_eq_true, decide_eq_true_eq, not_or, not_le] at hroom
      refine ⟨hres.port, hres.paths, hres.ret, hres.asm, hres.log, ?_⟩
      exact (recordsInUse_createRecord ..).trans_le hroom.1
theorem fits_workShares (h : Fits t) (l on) : Fits (workShares l on t) := by
  unfold workShares
  exact fits_modRate (fits_withLanes (fits_modRate h _ _) _) _ _
theorem fits_laneFrameStart (h : Fits t) (l) : Fits (laneFrameStart l t) := by
  unfold laneFrameStart
  dsimp only
  have hoffer : ∀ (u : State) (v : Assembler) (f : RateContext → RateContext) (k tc kind n), Fits u → AsmFits v →
      Fits (offerFrame l k tc kind n ((u.withAsm v).modRate l f)).1 := fun u v f k tc kind n hu hv =>
    fits_offerFrame (fits_modRate (fits_withAsm hu hv) _ _) _ _ _ _ _
  have hshare := fun on f => fits_workShares (fits_modLane h l f) l on
  refine fits_liveSkip (fits_ite (fits_weighNew (fits_newRecord (fits_modLane (hoffer _ _ _ _ _ _ _ ?_ ?_) _ _) _ _) _ _)
    (fits_modLane (hoffer _ _ _ _ _ _ _ ?_ ?_) _ _)) _ _
  · exact hshare _ _
  · exact h.asm.same (by rfl)
  · exact hshare _ _
  · exact h.asm.same (by rfl)
theorem fits_frameStart (h : Fits t) (l x) : Fits (frameStart l x t) := by
  have hend := fits_modLane (fits_endFrame h l) l applyHeldFormat
  have hstart := fits_laneFrameStart hend l
  unfold frameStart
  dsimp only
  split
  · exact fits_count (fits_modLane hend _ _) _ _ _
  · split
    · exact fits_ite (fits_placeLine hstart _ _ _) hstart
    · exact hstart
theorem fits_firstLine (h : Fits t) (l x) : Fits (firstLine l x t) :=
  fits_ite (fits_modLane (fits_frameStart (fits_modLane h _ _) _ _) _ _) (fits_count h _ _ _)
theorem fits_actOnLine (h : Fits t) (l x) : Fits (actOnLine l x t) := by
  unfold actOnLine
  dsimp only
  split
  · exact h
  · exact fits_ite (fits_firstLine h _ _) (fits_modLane h _ _)
  · exact fits_ite (fits_firstLine h _ _) (fits_laterLine h _ _)
  · exact fits_ite (fits_firstLine (fits_modLane h _ _) _ _) (fits_modLane (fits_modLane h _ _) _ _)
  · exact fits_ite (fits_modLane (fits_endFrame h _) _ _) (fits_laterLine h _ _)
theorem fits_takeLine (h : Fits t) (l x) : Fits (takeLine l x t) :=
  fits_maybeOff (fits_actOnLine (fits_modLane (fits_settleStall h _) _ _) _ _) _
theorem fits_pumpLines (l) : ∀ (n : Nat) {t : State}, Fits t → Fits (pumpLines l n t)
  | 0, _, h => h
  | n + 1, t, h => by
    unfold pumpLines
    split
    · exact h
    · split
      · exact h
      · next x rest hlines =>
        have hrest : rest.length ≤ 32 := by
          have hall := h.port.1 l
          rw [hlines, List.length_cons] at hall
          omega
        exact fits_pumpLines l n (fits_takeLine (fits_setVideo h _ hrest) _ _)
theorem fits_pump (h : Fits t) (l) : Fits (pump l t) := fits_pumpLines _ _ h
theorem fits_linePlaced (h : Fits t) (l) : Fits (linePlaced l t) := by
  have hplaced : ∀ f, Fits (t.modLane l f) := fun f => fits_modLane h l f
  unfold linePlaced
  split
  · exact h
  · dsimp only
    refine fits_pump (fits_maybeOff ?_ _) _
    split
    · exact fits_ite (fits_readyAfter (hplaced _) _ _) (hplaced _)
    · exact hplaced _
theorem fits_sliceCoded (h : Fits t) (l b) : Fits (sliceCoded l b t) := by
  unfold sliceCoded
  split
  · exact h
  · exact fits_maybeOff (fits_startEngine _ _ (fits_sliceEnds h _ _ _)) _
theorem fits_laneStall (h : Fits t) (l) : Fits (laneStall l t) := fits_maybeOff (fits_settleStall h _) _
theorem fits_frameTick (h : Fits t) : Fits (frameTick t) :=
  fits_withMixer (fits_foldl (fun _ _ hu => fits_modLane (fits_settleStall hu _) _ _) _ (fits_withRef h _)) _

/-! ## The fabric port (R7 to R14) -/

theorem fits_arrive (h : Fits t) (q) : Fits (arrive q t) := by
  unfold arrive
  split
  · exact fits_ite (fits_withHandler h _) (fits_count h _ _ _)
  · exact fits_ite (fits_count h _ _ _) (fits_ite (fits_withHandler h _) (fits_count h _ _ _))
theorem fits_seqCounts (h : Fits t) (l v) : Fits (seqCounts l v t) := by
  unfold seqCounts
  split
  · exact h
  · exact fits_latch (fits_bump h _ _) _ _
  all_goals exact fits_count h _ _ _
theorem fits_videoPacket (h : Fits t) (l p) : Fits (videoPacket l p t) := by
  have hseq : ∀ v q, Fits (seqCounts l.val v (t.setVideo l { t.port.video[l] with seq := q })) := fun v q => by
    refine fits_seqCounts (fits_setVideo h _ ?_) _ _
    exact h.port.1 l
  unfold videoPacket
  dsimp only
  split
  · exact fits_bump h _ _
  · split
    · exact hseq _ _
    · split
      · exact fits_count (hseq _ _) _ _ _
      · split
        · exact fits_count (hseq _ _) _ _ _
        · next hroom =>
          refine fits_pump (fits_setVideo (hseq _ _) _ ?_) _
          simp only [handLine, List.length_append, List.length_singleton]
          omega
theorem length_blocksOf (n : Nat) : ∀ bs, (blocksOf n bs).length = n := by
  induction n with
  | zero => exact fun _ => rfl
  | succ n ih => exact fun bs => by rw [blocksOf, List.length_cons, ih]
theorem fits_audioPacket (h : Fits t) (k p) : Fits (audioPacket k p t) := by
  have hseq : ∀ v q, Fits (seqCounts (8 + k.val) v (t.setAudio k { t.port.audio[k] with seq := q })) := fun v q => by
    refine fits_seqCounts (fits_setAudio h _ ?_) _ _
    exact h.port.2 k
  unfold audioPacket
  dsimp only
  split
  · exact hseq _ _
  · split
    · exact fits_count (hseq _ _) _ _ _
    · split
      · exact fits_count (hseq _ _) _ _ _
      · refine fits_setAudio (hseq _ _) _ ?_
        simp only [List.length_append, length_blocksOf]
        omega
theorem fits_mgmtPacket (h : Fits t) (p) : Fits (mgmtPacket p t) := by
  have hseq : ∀ v q, Fits (seqCounts 63 v (t.withPort { t.port with mgmt := q })) := fun v q => by
    refine fits_seqCounts ?_ _ _
    exact fits_withPort h h.port
  exact fits_ite (fits_count (hseq _ _) _ _ _) (fits_arrive (hseq _ _) _)
theorem fits_frameReceived (h : Fits t) (f) : Fits (frameReceived f t) := by
  unfold frameReceived lanePacket
  split
  · split
    · exact fits_videoPacket h _ _
    · exact fits_ite (fits_audioPacket h _ _) (fits_bump h _ _)
    · exact fits_ite (fits_mgmtPacket h _) (fits_bump h _ _)
  · exact fits_bump h _ _
theorem fits_transmitterFree (h : Fits t) : Fits (transmitterFree t) := by
  refine fits_withPort h ?_
  unfold transmit
  split
  all_goals exact h.port

end Sys2Proof.Machine
end

section
/-! SUPPORT. The acts of the paths, the return receiver, the mixer, the reference unit and the assembler, the owners'
answers, and every command and step keep the lists within their sizes. -/

namespace Sys2Proof.Machine

variable {t : State}

/-! ## The paths (R91 to R105) -/

theorem fits_redispatchCell (h : Fits t) (c) : Fits (redispatchCell c t) := by
  have hset := fits_settleRedispatch h
  unfold redispatchCell
  dsimp only
  split
  · next hroom =>
    refine fits_settleRedispatch (fits_withAsm hset ⟨?_, hset.asm.audio, hset.asm.stale, hset.asm.tags, hset.asm.codes⟩)
    rw [List.length_append, List.length_singleton]
    exact hroom
  · exact fits_bump hset _ _
theorem fits_openAfterFall (h : Fits t) (p) : Fits (openAfterFall t p) := fits_ite (fits_withAsm h (h.asm.same (by rfl))) h
theorem fits_redispatchPath (h : Fits t) (p) : Fits (redispatchPath p t) :=
  fits_openAfterFall (fits_foldl (fun _ _ hu => fits_redispatchCell hu _) _ (fits_modPath h p (Nat.zero_le _))) _
theorem fits_pathsUpFall (h : Fits t) : Fits (pathsUpFall t) := fits_withAsm h (h.asm.same (by rfl))
theorem fits_pathsUpRise (h : Fits t) : Fits (pathsUpRise t) := by
  have hrise : Fits (t.withAsm { t.asm with pathsUp := t.asm.pathsUp + 1 }) := fits_withAsm h (h.asm.same (by rfl))
  exact fits_ite (fits_foldl (fun _ _ hu => fits_requestKey hu _) _ hrise) hrise
theorem fits_leaveTraffic (h : Fits t) (p) : Fits (leaveTraffic p t) := fits_ite (fits_pathsUpFall h) h
theorem fits_emptyPath (h : Fits t) (p st) : Fits (emptyPath p st t) :=
  fits_redispatchPath (fits_modPath_same (fits_leaveTraffic h _) p (stopPath st) (by intro; rfl)) _

@[simp] theorem upPath_queue (c : PathCtl) : (upPath c).queue = c.queue := by
  unfold upPath
  dsimp only
  split
  all_goals rfl
@[simp] theorem actOnCode_queue (w) (c : PathCtl) : (actOnCode w c).queue = c.queue := by
  unfold actOnCode
  split
  · rfl
  · rfl
  · split
    all_goals rfl
  · rfl

theorem fits_enterUp (h : Fits t) (p) : Fits (enterUp p t) := by
  have hup := fits_count (fits_modPath_same h p upPath upPath_queue) ctrPathUps .pathUp p.val
  exact fits_pathsUpRise (fits_ite (fits_latch hup _ _) hup)
theorem fits_leaveDown (h : Fits t) (p) : Fits (leaveDown p t) :=
  fits_ite (fits_ite (fits_enterUp h _) (fits_modPath_same h p (enterOffer t.ref.clock) (by intro; rfl))) h
theorem fits_attemptFailed (h : Fits t) (p r) : Fits (attemptFailed p r t) := by
  have hretry := fits_bump (fits_modPath_same h p (fun c => { c with retry := c.retry + 1 }) (by intro; rfl))
    ctrHandshakeFailures 1
  exact fits_ite (fits_count (fits_modPath_same hretry p _ (by intro; rfl)) _ _ _)
    (fits_modPath_same hretry p _ (by intro; rfl))
theorem fits_extraInExchange (h : Fits t) (p w) : Fits (extraInExchange p w t) := by
  have hact := fits_modPath_same h p (fun c => { actOnCode w c with lastRound := some w.toggle })
    (fun c => actOnCode_queue w c)
  have hcode := fits_ite (c := 3 < w.code) (fits_bump hact ctrHandshakeDiscarded 1) hact
  exact fits_ite (fits_ite (fits_modPath_same hcode p _ (by intro; rfl)) (fits_enterUp hcode _))
    (fits_modPath_same h p _ (by intro; rfl))
theorem fits_offerComplete (h : Fits t) (p w x) : Fits (offerComplete p w x t) := by
  have hexchange : ∀ (r : Nat) (b : PathCtl → Bool), Fits ((t.modPath p (fun c => { c with agreed := some r, agreedHold := b c })).modPath p
      (fun c => { c with state := .exchange, toggle := false, lastRound := none })) := fun r b =>
    fits_modPath_same (fits_modPath_same h p _ (by intro; rfl)) p _ (by intro; rfl)
  unfold offerComplete
  refine fits_ite (fits_attemptFailed h _ _) (fits_ite ?_ (fits_enterUp (fits_modPath_same h p _ (by intro; rfl)) _))
  cases x with
  | none => exact hexchange _ _
  | some w => exact fits_extraInExchange (hexchange _ _) _ _
theorem fits_offerInOffer (h : Fits t) (p w) : Fits (offerInOffer p w t) := by
  unfold offerInOffer
  exact fits_ite (fits_modPath_same h p _ (by intro; rfl)) (fits_ite
    (fits_ite (fits_offerComplete (fits_modPath_same h p _ (by intro; rfl)) _ _ _)
      (fits_modPath_same h p _ (by intro; rfl))) (fits_modPath_same h p _ (by intro; rfl)))
theorem fits_extraInOffer (h : Fits t) (p w) : Fits (extraInOffer p w t) := by
  unfold extraInOffer
  split
  · exact fits_offerComplete h _ _ _
  · exact fits_bump h _ _
theorem fits_farRestart (h : Fits t) (p) : Fits (farRestart p t) :=
  fits_bump (fits_modPath_same (fits_redispatchPath (fits_leaveTraffic h _) _) p _ (by intro; rfl)) _ _
theorem fits_takeOffer (h : Fits t) (p w) : Fits (takeOffer p w t) := by
  have hback := fits_ite (c := (w.ack && t.paths[p].farOffer.any (sameContent w)) = true)
    (fits_modPath_same h p (fun c => { c with slot := some (.offer { ownOffer c with ack := true }) }) (by intro; rfl))
    (fits_offerInOffer (fits_farRestart h p) p w)
  unfold takeOffer
  dsimp only
  split
  · exact fits_offerInOffer h _ _
  · exact fits_ite h (fits_offerInOffer (fits_modPath_same h p (enterOffer t.ref.clock) (by intro; rfl)) _ _)
  · exact hback
  · exact hback
  all_goals exact h
theorem fits_takeExtra (h : Fits t) (p w) : Fits (takeExtra p w t) := by
  have hback := fits_ite (c := t.paths[p].lastRound = some w.toggle)
    (fits_modPath_same h p (fun c => { c with slot := some (.extra (nullWord w.toggle)) }) (by intro; rfl))
    (fits_extraInOffer (fits_farRestart h p) p w)
  unfold takeExtra
  dsimp only
  split
  · exact fits_extraInOffer h _ _
  · exact fits_extraInExchange h _ _
  · exact hback
  · exact hback
  all_goals exact h
theorem fits_handshakeCell (h : Fits t) (p w) : Fits (handshakeCell p w t) :=
  fits_ite (fits_bump h _ _) (fits_ite (fits_takeOffer h _ _) (fits_ite (fits_takeExtra h _ _) (fits_bump h _ _)))
theorem fits_holdCell (h : Fits t) (p n) : Fits (holdCell p n t) := by
  have hheld := fits_modPath_same h p (fun c => { c with state := .held, holdTimer := some (t.ref.clock + msSamples n) }) (by intro; rfl)
  have hlatch := fits_ite (c := t.paths[p].state = .up) (fits_latch hheld .pathHeld p.val) hheld
  exact fits_ite (fits_bump h _ _) (fits_ite (fits_modPath_same h p _ (by intro; rfl))
    (fits_ite (fits_redispatchPath hlatch _) hlatch))
theorem fits_setCarrier (h : Fits t) (p b) : Fits (t.modPath p (fun c => { c with carrier := b })) :=
  fits_modPath_same h p _ (by intro; rfl)
theorem fits_carrierPresent (h : Fits t) (p) : Fits (carrierPresent p t) := fits_leaveDown (fits_setCarrier h p true) _
theorem fits_carrierLost (h : Fits t) (p) : Fits (carrierLost p t) := by
  have hlost := fits_setCarrier h p false
  have hdown := fits_count (fits_emptyPath hlost p .down) ctrPathDowns .pathDown p.val
  unfold carrierLost
  dsimp only
  split
  iterate 4 exact hdown
  all_goals exact hlost
theorem fits_offerPacer (h : Fits t) (p) : Fits (offerPacer p t) := by
  unfold offerPacer
  split
  · exact h
  · exact fits_modPath_same (fits_advanceTo h _) p _ (by intro; rfl)
theorem fits_handshakeTimerExpiry (h : Fits t) (p) : Fits (handshakeTimerExpiry p t) := by
  unfold handshakeTimerExpiry
  split
  · exact h
  · exact fits_ite (fits_attemptFailed (fits_advanceTo h _) _ _) h
theorem fits_holdTimerExpiry (h : Fits t) (p) : Fits (holdTimerExpiry p t) := by
  unfold holdTimerExpiry
  split
  · exact h
  · exact fits_ite (fits_modPath_same (fits_advanceTo h _) p _ (by intro; rfl)) h
theorem fits_lineReady (h : Fits t) (p) : Fits (lineReady p t) := by
  unfold lineReady
  dsimp only
  split
  · exact h
  · exact h
  · exact h
  · exact fits_modPath_same h p _ (by intro; rfl)
  · next x rest _ _ hqueue =>
    have hrest : rest.length ≤ 128 := by
      have hall := h.paths p
      rw [hqueue, List.length_cons] at hall
      omega
    exact fits_openAfterFall (fits_modPath h p hrest) _
  · exact h
  · exact fits_modPath_same h p _ (by intro; rfl)

/-! ## The return receiver (R108 to R111) -/

theorem length_insertSorted {α : Type} (b : α → α → Bool) (a : α) (l : List α) :
    (insertSorted b a l).length = l.length + 1 := by
  induction l with
  | nil => rfl
  | cons x l ih =>
    unfold insertSorted
    split
    · rfl
    · rw [List.length_cons, ih, List.length_cons]

theorem fits_placeHolds (h : Fits t) (n) : Fits (placeHolds n t) := by
  refine fits_withPaths h fun p => ?_
  simp only [mapVec, Fin.getElem_fin, Vector.getElem_ofFn]
  split
  all_goals exact h.paths p
theorem fits_highMark (h : Fits t) : Fits (highMark t) := by
  have hplace := fits_placeHolds h t.ret.holdMs
  exact fits_ite (fits_withRet hplace hplace.ret) h
theorem fits_lowMark (h : Fits t) : Fits (lowMark t) := by
  have hplace := fits_ite (c := t.ret.endHold = true) (fits_placeHolds h 0) h
  exact fits_ite (fits_withRet hplace hplace.ret) h
theorem fits_insertReturn (h : Fits t) (x) : Fits (insertReturn x t) := by
  unfold insertReturn
  split
  · exact fits_bump h _ _
  · split
    · exact fits_count h _ _ _
    · refine fits_highMark (fits_withRet h ?_)
      rw [length_insertSorted]
      omega
theorem fits_returnArrival (h : Fits t) (x) : Fits (returnArrival x t) := by
  have hbump := fits_bump h ctrReturnLate 1
  unfold returnArrival
  split
  · exact fits_ite hbump (fits_ite (fits_withRet hbump (by exact hbump.ret)) (fits_insertReturn (fits_withRet hbump (by exact hbump.ret)) _))
  · exact fits_insertReturn h _
theorem fits_takeFrontCell (h : Fits t) {x rest} (hq : t.ret.queue = x :: rest) : Fits (takeFrontCell x rest t) := by
  have hall := h.ret
  rw [hq, List.length_cons] at hall
  exact fits_lowMark (fits_withRet h (by dsimp only; omega))
theorem fits_needCell (h : Fits t) : Fits (needCell t) := by
  unfold needCell
  split
  · exact fits_count (fits_withRet h (by exact h.ret)) _ _ _
  · next hq =>
    split
    · exact fits_takeFrontCell h hq
    · exact fits_ite (fits_takeFrontCell h hq) (fits_count (fits_withRet h (by exact h.ret)) _ _ _)
theorem fits_handFrames : ∀ (n : Nat) (acc) {t : State}, Fits t → Fits (handFrames n t acc).1
  | 0, _, _, h => h
  | n + 1, acc, t, h => by
    have hneed := fits_ite (c := (t.ret.playing && usedUp t.ret) = true) (fits_needCell h) h
    unfold handFrames
    dsimp only
    split
    · exact fits_handFrames n _ (fits_withRet hneed hneed.ret)
    · exact fits_handFrames n _ hneed
theorem fits_enterPlaying (h : Fits t) : Fits (enterPlaying t) := by
  have hplay : Fits (t.withRet { t.ret with playing := true }) := fits_withRet h h.ret
  unfold enterPlaying
  split
  · exact h
  · dsimp only
    split
    · next hq => exact fits_takeFrontCell hplay hq
    · exact hplay
theorem fits_returnBlock (h : Fits t) : Fits (returnBlock t).1 := fits_handFrames _ _ (fits_enterPlaying h)
theorem fits_inboundCell (h : Fits t) (p bs) : Fits (inboundCell p bs t) := by
  have hbump : ∀ c, Fits (t.bump c 1) := fun c => fits_bump h c 1
  unfold inboundCell
  split
  · exact h
  · split
    · exact fits_count h _ _ _
    · unfold checkedCell
      split
      · exact fits_handshakeCell h _ _
      · exact fits_holdCell h _ _
      · exact fits_ite (fits_ite (fits_count h _ _ _) (fits_returnArrival h _)) (hbump _)
      · exact fits_ite (fits_ite (hbump _) (fits_arrive h _)) (hbump _)
      · exact h
      all_goals exact hbump _

/-! ## The sound mixer (R72, R73, R122) -/

/-- R122: at a full audio list the front cell is dropped first. -/
theorem fits_handAudio (h : Fits t) (x) : Fits (handAudio x t) := by
  have hall := h.asm.audio
  have haudio : ∀ l : List Cell, l.length ≤ 48 → Fits (t.withAsm { t.asm with audio := l }) := fun l hl =>
    fits_withAsm h ⟨h.asm.redispatch, hl, h.asm.stale, h.asm.tags, h.asm.codes⟩
  unfold handAudio
  split
  · exact haudio _ (by rw [List.length_append, List.length_singleton]; omega)
  · exact fits_count (haudio _ (by rw [List.length_append, List.length_singleton, List.length_tail]; omega)) _ _ _
theorem fits_handPeriod (c) : ∀ (bs) {t : State}, Fits t → Fits (handPeriod c bs t)
  | [], _, h => h
  | _ :: bs, _, h => fits_handPeriod c bs (fits_handAudio (fits_withMixer h _) _)
theorem fits_audioRequest (h : Fits t) (k) : Fits (audioRequest k t).1 := by
  unfold audioRequest
  dsimp only
  split
  · next b rest hblocks =>
    have hrest : rest.length ≤ 4 := by
      have hall := h.port.2 k
      rw [hblocks, List.length_cons] at hall
      omega
    exact fits_setAudio h k hrest
  · exact fits_count h _ _ _
theorem fits_beginBlock (h : Fits t) : Fits (beginBlock t) := by
  unfold beginBlock
  exact fits_withMixer (fits_returnBlock (fits_audioRequest (fits_audioRequest (fits_audioRequest (fits_audioRequest
    (fits_withMixer (fits_advanceTo h _) _) _) _) _) _)) _
theorem fits_buildBusPacket (h : Fits t) (b x) : Fits (buildBusPacket b x t) := by
  unfold buildBusPacket
  split
  · exact fits_bump (fits_withPort h (by exact h.port)) _ _
  · exact fits_withPort h h.port
theorem fits_completeWork (h : Fits t) (w) : Fits (completeWork w t) := by
  have hclips : ∀ (bs : List (Fin 8)) {u : State}, Fits u → Fits (countClips bs u) := fun bs _ hu =>
    fits_foldl (fun _ _ hv => fits_count (fits_withMixer hv _) _ _ _) bs hu
  unfold completeWork
  dsimp only
  split
  · exact fits_handPeriod _ _ (fits_buildBusPacket (hclips _ (fits_withMixer h _)) _ _)
  · exact fits_buildBusPacket (hclips _ (fits_withMixer h _)) _ _
theorem fits_blockCompletion (h : Fits t) : Fits (blockCompletion t) := by
  unfold blockCompletion
  split
  · exact fits_completeWork h _
  · exact h

/-! ## The reference unit (R165, R166) -/

theorem fits_referencePulse (h : Fits t) (n) : Fits (referencePulse n t) := by
  have hclock := fits_advanceTo h n
  unfold referencePulse
  dsimp only
  split
  · exact fits_withRef hclock _
  · exact fits_withRef hclock _
  · exact fits_ite (fits_ite (fits_withRef hclock _) (fits_count (fits_withRef hclock _) _ _ _)) (fits_withRef hclock _)
  · exact fits_ite (fits_withRef hclock _) (fits_bump (fits_withRef hclock _) _ _)
theorem fits_lockingLoss (h : Fits t) : Fits (lockingLoss t) := by
  unfold lockingLoss
  split
  · exact fits_withRef (fits_advanceTo h _) _
  · exact h
theorem fits_referenceLoss (h : Fits t) : Fits (referenceLoss t) := by
  unfold referenceLoss
  split
  · exact fits_count (fits_withRef (fits_advanceTo h _) _) _ _ _
  · exact h

/-! ## Cell assembly (R115 to R129) -/

/-- R116: a cell is placed where the send queue has room. -/
theorem fits_placeCell (h : Fits t) {p : PathNo} (hroom : t.paths[p].queue.length < 128) (x) : Fits (placeCell p x t) := by
  have hplace := fits_modPath h p (f := fun c => { c with queue := c.queue ++ [x] })
    (by rw [List.length_append, List.length_singleton]; exact hroom)
  exact fits_ite (fits_withAsm hplace (hplace.asm.same (by rfl))) hplace

theorem leastLoaded_mem {s : State} : ∀ {ps : List PathNo} {p : PathNo}, leastLoaded s ps = some p → p ∈ ps
  | [], _, h => by cases h
  | q :: ps, p, h => by
    unfold leastLoaded at h
    split at h
    · cases h; exact List.mem_cons_self
    · next r hr =>
      split at h
      · cases h; exact List.mem_cons_of_mem _ (leastLoaded_mem hr)
      · cases h; exact List.mem_cons_self

/-- R116: a path that the arbiter chooses has room in its send queue. -/
theorem choosePath_room {s : State} {b : Bool} {p : PathNo} (h : choosePath s b = some p) :
    s.paths[p].queue.length < 128 := by
  have hc := (List.mem_filter.1 (leastLoaded_mem h)).2
  simp only [isCandidate, Bool.and_eq_true, decide_eq_true_eq] at hc
  exact hc.1.2

theorem fits_cutVideo (h : Fits t) (l c r e) : Fits (cutVideo l c r e t) := by
  have hturn : Fits (t.withAsm { t.asm with videoSeq := t.asm.videoSeq.set l (t.asm.videoSeq[l] + 1), laneRot := l }) :=
    fits_withAsm h (h.asm.same (by rfl))
  unfold cutVideo
  dsimp only
  split
  · exact fits_setCursor (fits_withStore hturn (by simp)) _ _
  · exact fits_seekOnward (fits_withStore hturn (by simp)) _ _

theorem seek_paths (l) : ∀ (rs : List FrameRecord) (s : State), (seek l rs s).paths = s.paths
  | [], _ => rfl
  | r :: rs, s => by
    unfold seek
    split
    · exact seek_paths l rs s
    · split
      · rw [seek_paths l rs]
        split
        all_goals rfl
      · dsimp only
        split
        all_goals rfl

theorem cutVideo_paths (l c r e) (s : State) : (cutVideo l c r e s).paths = s.paths := by
  unfold cutVideo
  dsimp only
  split
  · rfl
  · exact seek_paths ..

theorem staleEmptied_paths (s : State) : (staleEmptied s).paths = s.paths := by
  have hmark : ∀ (ids : List Nat) (u : State), (ids.foldl (fun s id => markStale id s) u).paths = u.paths := by
    intro ids
    induction ids with
    | nil => exact fun _ => rfl
    | cons a ids ih =>
      intro u
      rw [List.foldl_cons, ih]
      rcases markStale_cases a u with ⟨-, e⟩ | ⟨-, -, e⟩ | ⟨-, -, e⟩ <;> rw [e] <;> rfl
  unfold staleEmptied
  split
  · exact hmark _ _
  · rfl

theorem popStale_paths (s : State) : (popStale s).paths = s.paths := by
  unfold popStale
  split
  · rfl
  · exact staleEmptied_paths _

theorem fits_popStale (h : Fits t) : Fits (popStale t) := by
  unfold popStale
  split
  · next code rest htags =>
    have hnodup := h.asm.tags
    have hcodes := h.asm.codes
    rw [htags] at hnodup hcodes
    exact fits_withAsm h ⟨h.asm.redispatch, h.asm.audio, h.asm.stale, hnodup.of_cons,
      fun k hk => hcodes k (List.mem_cons_of_mem _ hk)⟩
  · refine fits_staleEmptied (fits_withAsm h ⟨h.asm.redispatch, h.asm.audio, ?_, h.asm.tags, h.asm.codes⟩)
    have := h.asm.stale
    rw [List.length_tail]
    omega

theorem fits_serveControl (h : Fits t) {u : State} (hu : serveControl t = some u) : Fits u := by
  unfold serveControl at hu
  split at hu
  · next hp =>
    have hroom := choosePath_room hp
    obtain rfl := Option.some.inj hu
    refine fits_placeCell ?_ (by exact hroom) _
    exact fits_withAsm h (h.asm.same (by rfl))
  · cases hu

theorem fits_serveRedispatch (h : Fits t) {u : State} (hu : serveRedispatch t = some u) : Fits u := by
  unfold serveRedispatch at hu
  split at hu
  · next x rest hlist =>
    split at hu
    · next hp =>
      have hroom := choosePath_room hp
      obtain rfl := Option.some.inj hu
      refine fits_placeCell ?_ (by exact hroom) _
      have hall := h.asm.redispatch
      rw [hlist, List.length_cons] at hall
      exact fits_withAsm h ⟨by dsimp only; omega, h.asm.audio, h.asm.stale, h.asm.tags, h.asm.codes⟩
    · cases hu
  · cases hu

theorem fits_serveAudio (h : Fits t) {u : State} (hu : serveAudio t = some u) : Fits u := by
  unfold serveAudio at hu
  split at hu
  · next x rest p hlist hp =>
    have hroom := choosePath_room hp
    obtain rfl := Option.some.inj hu
    refine fits_placeCell ?_ (by exact hroom) _
    have hall := h.asm.audio
    rw [hlist, List.length_cons] at hall
    exact fits_withAsm h ⟨h.asm.redispatch, by dsimp only; omega, h.asm.stale, h.asm.tags, h.asm.codes⟩
  · cases hu

theorem fits_serveLabel (h : Fits t) {u : State} (hu : serveLabel t = some u) : Fits u := by
  unfold serveLabel at hu
  split at hu
  · next hp =>
    obtain rfl := Option.some.inj hu
    exact fits_placeCell (fits_popStale h) (by rw [popStale_paths]; exact choosePath_room hp) _
  · cases hu

theorem fits_serveVideo (h : Fits t) {u : State} (hu : serveVideo t = some u) : Fits u := by
  unfold serveVideo at hu
  split at hu
  · next hp _ =>
    split at hu
    · obtain rfl := Option.some.inj hu
      exact fits_placeCell (fits_cutVideo h _ _ _ _) (by rw [cutVideo_paths]; exact choosePath_room hp) _
    · cases hu
  · cases hu

theorem fits_serveClip (h : Fits t) {u : State} (hu : serveClip t = some u) : Fits u := by
  unfold serveClip at hu
  split at hu
  · next hp _ =>
    split at hu
    · obtain rfl := Option.some.inj hu
      have hplace := fun x => fits_placeCell h (choosePath_room hp) x
      exact fits_engineAdvance (fits_withAsm (hplace _) ((hplace _).asm.same (by rfl))) _
    · cases hu
  · cases hu

theorem fits_cellAssembly (h : Fits t) : Fits (cellAssembly t) := by
  have hset := fits_settleRedispatch h
  refine fits_settleRedispatch ?_
  rcases firstServed_cases [serveControl, serveRedispatch, serveAudio, serveLabel, serveVideo, serveClip]
    (settleRedispatch t) with e | ⟨f, hf, e⟩
  · rwa [e]
  · simp only [List.mem_cons, List.not_mem_nil, or_false] at hf
    rcases hf with rfl | rfl | rfl | rfl | rfl | rfl
    · exact fits_serveControl hset e
    · exact fits_serveRedispatch hset e
    · exact fits_serveAudio hset e
    · exact fits_serveLabel hset e
    · exact fits_serveVideo hset e
    · exact fits_serveClip hset e

end Sys2Proof.Machine
end

section
/-! SUPPORT. The owners' answers, and every command and step, keep the lists within their sizes. -/

namespace Sys2Proof.Machine

variable {t : State}

/-! ## The owners' answers -/

theorem fits_success (h : Fits t) : Fits (success t).state := h
theorem fits_reply (h : Fits t) (r) : Fits (reply t r).state := h
theorem fits_refuse (h : Fits t) (r) : Fits (refuse t r).state := h
theorem fits_answer_ite {c : Prop} [Decidable c] {a b : Answer} (ha : Fits a.state) (hb : Fits b.state) :
    Fits (if c then a else b).state := by
  split
  · exact ha
  · exact hb

theorem fits_actLsta (h : Fits t) (ws) : Fits (actLsta ws t).state := by
  unfold actLsta
  split
  · exact h
  · exact fits_answer_ite (fits_success (fits_setVideo (fits_modLane h _ _) _ (Nat.zero_le _))) h
theorem fits_actLstp (h : Fits t) (ws) : Fits (actLstp ws t).state := by
  unfold actLstp
  split
  · exact h
  · exact fits_answer_ite h (fits_success (fits_maybeOff (fits_modLane h _ _) _))
theorem fits_actLfmt (h : Fits t) (ws) : Fits (actLfmt ws t).state := by
  unfold actLfmt
  dsimp only
  split
  · exact h
  · exact fits_answer_ite (fits_success (fits_modLane h _ _)) h
theorem fits_actLkey (h : Fits t) (ws) : Fits (actLkey ws t).state := by
  unfold actLkey
  split
  · exact h
  · exact fits_answer_ite h (fits_success (fits_requestKey h _))
theorem fits_actRdln (h : Fits t) (ws) : Fits (actRdln ws t).state := by
  unfold actRdln
  split
  all_goals exact h
theorem fits_actLrat (h : Fits t) (ws) : Fits (actLrat ws t).state := by
  unfold actLrat
  split
  · exact fits_success (fits_modLane h _ _)
  · exact h
theorem fits_actLshr (h : Fits t) (ws) : Fits (actLshr ws t).state := by
  unfold actLshr
  split
  · exact h
  · exact fits_answer_ite h (fits_success (fits_modRate h _ _))
theorem fits_actRsrv (h : Fits t) (ws) : Fits (actRsrv ws t).state := fits_answer_ite h (fits_withAsm h (h.asm.same (by rfl)))
theorem fits_actPmrk (h : Fits t) (ws) : Fits (actPmrk ws t).state := by
  unfold actPmrk
  dsimp only
  split
  · exact h
  · exact fits_answer_ite h (fits_withAsm h (h.asm.same (by rfl)))
theorem fits_actCeil (h : Fits t) (ws) : Fits (actCeil ws t).state :=
  fits_answer_ite h (fits_answer_ite h (fits_withStore h (recordsInUse_congr rfl).le))
theorem fits_actXpnt (h : Fits t) (ws) : Fits (actXpnt ws t).state := by
  unfold actXpnt
  split
  · exact fits_answer_ite h (fits_withMixer h _)
  · exact h
theorem fits_actBmst (h : Fits t) (ws) : Fits (actBmst ws t).state := by
  unfold actBmst
  split
  · exact fits_answer_ite h (fits_withMixer h _)
  · exact h
theorem fits_actSrce (h : Fits t) (ws) : Fits (actSrce ws t).state := by
  unfold actSrce
  dsimp only
  split
  · exact fits_answer_ite h (fits_answer_ite h (fits_withMixer h _))
  · exact h
theorem fits_actHome (h : Fits t) (ws) : Fits (actHome ws t).state := by
  unfold actHome
  split
  · exact fits_answer_ite (fits_withMixer h _) h
  · exact h
theorem fits_actRamp (h : Fits t) (ws) : Fits (actRamp ws t).state := fits_answer_ite h (fits_withMixer h _)
theorem fits_actFlaw (h : Fits t) (ws) : Fits (actFlaw ws t).state := fits_answer_ite h (fits_withMixer h _)
theorem fits_actRdmx (h : Fits t) (ws) : Fits (actRdmx ws t).state := by
  unfold actRdmx
  dsimp only
  split
  all_goals exact h
theorem fits_actPath (h : Fits t) (ws) : Fits (actPath ws t).state := by
  unfold actPath
  split
  · exact fits_answer_ite (fits_success (fits_modPath_same h _ _ (by intro; rfl))) h
  · exact h
theorem fits_actPena (h : Fits t) (ws) : Fits (actPena ws t).state := by
  unfold actPena
  split
  · exact h
  · exact fits_answer_ite (fits_success (fits_leaveDown (fits_modPath_same h _ _ (by intro; rfl)) _)) h
theorem fits_actPdis (h : Fits t) (ws) : Fits (actPdis ws t).state := by
  unfold actPdis
  split
  · exact h
  · exact fits_success (fits_ite h (fits_emptyPath h _ _))
theorem fits_actPrst (h : Fits t) (ws) : Fits (actPrst ws t).state := by
  unfold actPrst
  split
  · exact h
  · exact fits_answer_ite h (fits_success (fits_leaveDown (fits_modPath_same (fits_emptyPath h _ _) _ _ (by intro; rfl)) _))
theorem fits_actRtrn (h : Fits t) (ws) : Fits (actRtrn ws t).state := by
  unfold actRtrn
  dsimp only
  split
  · exact h
  · exact fits_answer_ite h (fits_success (fits_withRet (fits_ite (fits_placeHolds h _) h) (Nat.zero_le _)))
theorem fits_actRdpt (h : Fits t) (ws) : Fits (actRdpt ws t).state := by
  unfold actRdpt
  split
  all_goals exact h
theorem fits_actMkin (h : Fits t) (ws) : Fits (actMkin ws t).state := by
  unfold actMkin
  extract_lets n tick
  split
  · refine fits_answer_ite h (fits_answer_ite h ?_)
    split
    · exact fits_refuse (fits_latch h _ _) _
    · next hroom =>
      obtain ⟨hu, hlt⟩ := fits_makeRoom h hroom
      exact fits_reply (fits_makeClip hu hlt _ _ _ _) _
  · exact h
theorem fits_actMkot (h : Fits t) (ws) : Fits (actMkot ws t).state := by
  unfold actMkot
  extract_lets id tick close
  have hclose : ∀ c, Fits (close c).state := fun c =>
    fits_answer_ite h (fits_reply (fits_serveEngines (fits_mark (fits_closeClip h _ _ _) _)) _)
  refine fits_answer_ite h (fits_answer_ite ?_ ?_)
  · split
    · exact h
    · exact hclose _
  · split
    · exact h
    · exact fits_answer_ite (hclose _) h
theorem fits_actTmpl (h : Fits t) (ws) : Fits (actTmpl ws t).state := by
  unfold actTmpl
  dsimp only
  split
  · exact fits_answer_ite h (fits_withClips h (h.log.same (by rfl)))
  · exact h
theorem fits_sendNow (h : Fits t) (id p k) : Fits (sendNow id p k t) :=
  fits_serveEngines (fits_mark (fits_enterQueued (fits_modClip h _ _) _) _)
theorem fits_actSend (h : Fits t) (ws) : Fits (actSend ws t).state := by
  unfold actSend
  dsimp only
  split
  · exact h
  · refine fits_answer_ite h ?_
    split
    · exact h
    · split
      · exact fits_success (fits_ite (fits_modClip h _ _) (fits_mark (fits_modClip h _ _) _))
      · exact fits_success (fits_sendNow h _ _ _)
      · exact fits_answer_ite (fits_success (fits_sendNow (fits_modClip h _ _) _ _ _)) h
      all_goals exact h
theorem fits_actKeep (h : Fits t) (ws) : Fits (actKeep ws t).state := by
  unfold actKeep
  dsimp only
  split
  · exact h
  · exact fits_answer_ite h (fits_answer_ite h (fits_success (fits_mark (fits_modClip h _ _) _)))
theorem fits_actDisc (h : Fits t) (ws) : Fits (actDisc ws t).state := by
  unfold actDisc
  split
  · exact h
  · exact fits_success (fits_removeClip h _)

/-- R133, R144: a code from 1 to 64 joins the stale-tag list once. -/
theorem fits_actTagd (h : Fits t) (ws) : Fits (actTagd ws t).state := by
  unfold actTagd
  dsimp only
  split
  · exact h
  · next i hi =>
    split
    · exact h
    · next hne =>
      have hcode : 1 ≤ wordAt ws 0 ∧ wordAt ws 0 ≤ 64 := by
        unfold finOf at hi
        split at hi
        · omega
        · cases hi
      have htags : ∀ v, Fits (t.withClips { t.clips with tags := v }) := fun v => fits_withClips h (h.log.same (by rfl))
      refine fits_success ?_
      split
      · exact htags _
      · next hnew =>
        refine fits_withAsm (htags _) ⟨h.asm.redispatch, h.asm.audio, h.asm.stale, ?_, fun k hk => ?_⟩
        · refine List.nodup_append.2 ⟨h.asm.tags, List.nodup_singleton _, fun a ha b hb => ?_⟩
          rw [List.mem_singleton] at hb
          rintro rfl
          exact hnew (by simpa [hb] using ha)
        · rcases List.mem_append.1 hk with hk | hk
          · exact h.asm.codes k hk
          · rw [List.mem_singleton.1 hk]
            exact hcode
theorem fits_actTagc (h : Fits t) (ws) : Fits (actTagc ws t).state := by
  unfold actTagc
  dsimp only
  split
  · exact h
  · split
    · exact h
    · exact fits_answer_ite h (fits_success (fits_mark (fits_modClip h _ _) _))
theorem fits_actRdcl (h : Fits t) (ws) : Fits (actRdcl ws t).state := by
  unfold actRdcl
  split
  all_goals exact h
theorem fits_actLscl (h : Fits t) (ws) : Fits (actLscl ws t).state := fits_answer_ite h h
theorem fits_actTcod (h : Fits t) (ws) : Fits (actTcod ws t).state := fits_answer_ite h (fits_withRef h _)
theorem fits_actRefr (h : Fits t) (ws) : Fits (actRefr ws t).state := by
  unfold actRefr
  split
  · exact h
  · exact fits_answer_ite h (fits_answer_ite h (fits_withRef h _))
theorem fits_actCont (h : Fits t) (ws) : Fits (actCont ws t).state := by
  unfold actCont
  split
  · exact fits_answer_ite h (fits_answer_ite (fits_success (fits_acceptedEdge (fits_setContact h _ _) _ _ _))
      (fits_success (fits_setContact h _ _)))
  · exact h
theorem fits_actScop (h : Fits t) (ws) : Fits (actScop ws t).state := by
  unfold actScop
  split
  · exact fits_withHandler h _
  · exact h
theorem fits_actCntr (h : Fits t) (ws) : Fits (actCntr ws t).state := by
  unfold actCntr
  dsimp only
  split
  · exact h
  · exact fits_answer_ite h (fits_reply (fits_ite (fits_withHandler h _) h) _)

theorem fits_owner (n : DirName) (ws : List Word) (h : Fits t) : Fits (ownerOf n ws t).state := by
  cases n with
  | lsta => exact fits_actLsta h ws
  | lstp => exact fits_actLstp h ws
  | lfmt => exact fits_actLfmt h ws
  | lkey => exact fits_actLkey h ws
  | rdln => exact fits_actRdln h ws
  | lrat => exact fits_actLrat h ws
  | lshr => exact fits_actLshr h ws
  | rsrv => exact fits_actRsrv h ws
  | pmrk => exact fits_actPmrk h ws
  | ceil => exact fits_actCeil h ws
  | xpnt => exact fits_actXpnt h ws
  | bmst => exact fits_actBmst h ws
  | srce => exact fits_actSrce h ws
  | home => exact fits_actHome h ws
  | take | rdmt => exact fits_withMixer h _
  | ramp => exact fits_actRamp h ws
  | flaw => exact fits_actFlaw h ws
  | rdmx => exact fits_actRdmx h ws
  | path => exact fits_actPath h ws
  | pena => exact fits_actPena h ws
  | pdis => exact fits_actPdis h ws
  | prst => exact fits_actPrst h ws
  | rtrn => exact fits_actRtrn h ws
  | rdpt => exact fits_actRdpt h ws
  | mkin => exact fits_actMkin h ws
  | mkot => exact fits_actMkot h ws
  | tmpl => exact fits_actTmpl h ws
  | send => exact fits_actSend h ws
  | keep => exact fits_actKeep h ws
  | disc => exact fits_actDisc h ws
  | tagd => exact fits_actTagd h ws
  | tagc => exact fits_actTagc h ws
  | rdcl => exact fits_actRdcl h ws
  | lscl => exact fits_actLscl h ws
  | tcod => exact fits_actTcod h ws
  | refr => exact fits_actRefr h ws
  | cont => exact fits_actCont h ws
  | scop => exact fits_actScop h ws
  | emsk | eclr | rstr => exact fits_withHandler h _
  | cntr => exact fits_actCntr h ws
  | rdas | rdst | rdls | rdrf | stat => exact h

/-! ## Every command -/

theorem fits_respond (h : Fits t) (d r) : Fits (respond d r t) := by
  unfold respond
  split
  · exact fits_ite (fits_withPort h (by exact h.port)) (fits_withPort h (by exact h.port))
  · exact fits_withHandler (fits_withAsm h (h.asm.same (by rfl))) _

theorem fits_takeFront {q : QueuedDirective} {act : State → Answer} (ha : ∀ u, Fits u → Fits (act u).state)
    (h : Fits t) : Fits (takeFront q act t) := by
  have hp : Fits (present q t) := fits_ite h (fits_arrive h q)
  exact fits_ite (fits_respond (ha _ (fits_withHandler hp _)) _ _) hp

theorem fits_takeDirective (n : DirName) (d : Directive) (h : Fits t) : Fits (takeDirective n d (ownerOf n) t) := by
  refine fits_takeFront (fun u hu => ?_) h
  unfold answer
  split
  · exact hu
  · exact fits_owner n d.words hu

theorem fits_settled (n : DirName) (h : Fits t) : Fits (settled n t) := fits_ite (fits_kick h) h

/-- R183: at power-on every list is empty. -/
theorem fits_resetBlocks (s : State) : Fits (resetBlocks s) := by
  refine ⟨⟨fun l => ?_, fun k => ?_⟩, fun p => ?_, Nat.zero_le _, ⟨Nat.zero_le _, Nat.zero_le _, Nat.zero_le _, .nil,
    fun k hk => nomatch hk⟩, ⟨Nat.zero_le _, Nat.zero_le _⟩, Nat.zero_le _⟩
  · simp [resetBlocks, resetPort]
  · simp [resetBlocks, resetPort]
  · simp [resetBlocks, mapVec, resetPath]

theorem fits_exec {s : State} (c : Instr) (h : Fits s) (hx : exec c s = .next t) : Fits t := by
  have act : ∀ {f : State → State}, live s f = .next t → Fits (f s) → Fits t :=
    fun hx hf => (live_next hx).elim (· ▸ hf) (· ▸ h)
  have kicked : ∀ {f : State → State}, live s (fun u => kick (f u)) = .next t → Fits (f s) → Fits t :=
    fun hx hf => act hx (fits_kick hf)
  cases hd : directiveOf c with
  | some nd =>
    rw [exec_directive hd] at hx
    exact act hx (fits_settled _ (fits_takeDirective _ _ h))
  | none =>
    cases c with
    | powerOn straps => cases hx; exact fits_resetBlocks _
    | resetLine => exact act hx (fits_resetBlocks _)
    | restart => exact act hx (fits_ite (fits_resetBlocks _) h)
    | frameReceived frame => exact kicked hx (fits_frameReceived h frame)
    | linePlaced lane => exact kicked hx (fits_linePlaced h lane)
    | sliceCoded lane coded =>
      replace hx : execSliceCoded lane coded s = .next t := hx
      unfold execSliceCoded at hx
      split at hx
      · cases hx
      · exact act hx (fits_sliceCoded h _ _)
    | laneStall lane => exact act hx (fits_laneStall h _)
    | blockRequest => exact act hx (fits_beginBlock (fits_blockCompletion h))
    | blockCompletion => exact act hx (fits_blockCompletion h)
    | transmitterFree => exact act hx (fits_transmitterFree h)
    | frameTick => exact act hx (fits_frameTick h)
    | referencePulse stamp => exact act hx (fits_referencePulse h _)
    | lockingLoss => exact act hx (fits_lockingLoss h)
    | referenceLoss => exact act hx (fits_referenceLoss h)
    | contactRawChange input closed =>
      cases hx
      exact fits_ite (fits_kick (fits_contactRawChange h _ _)) (fits_setContact h _ _)
    | filterRunsOut input => exact kicked hx (fits_filterRunsOut h _)
    | carrierPresent path => cases hx; exact fits_ite (fits_carrierPresent h _) (fits_setCarrier h _ _)
    | carrierLost path => cases hx; exact fits_ite (fits_carrierLost h _) (fits_setCarrier h _ _)
    | offerPacer path => exact act hx (fits_offerPacer h _)
    | handshakeTimerExpiry path => exact act hx (fits_handshakeTimerExpiry h _)
    | holdTimerExpiry path => exact act hx (fits_holdTimerExpiry h _)
    | lineReady path => exact act hx (fits_lineReady h _)
    | inboundCell path bytes => exact act hx (fits_inboundCell h _ _)
    | cellAssembly => exact kicked hx (fits_cellAssembly h)
    | recordWriteEnd => exact act hx (fits_recordWriteEnd h)
    | eraseEnd => exact act hx (fits_eraseEnd h)
    | startUpScan => exact act hx (fits_startUpScan h)
    | unknownDirective name d =>
      replace hx : execUnknownDirective name d s = .next t := hx
      unfold execUnknownDirective at hx
      split at hx
      · cases hx
      · exact act hx (fits_takeFront (fun _ hu => hu) h)
    | powerLoss => exact act hx (fits_withPower (fits_cutErasing (fits_cutWriting h)) _)
    | _ => cases hd

/-- Settles O58: every act that adds an entry to a list finds room in it, and every other act leaves the lists alone or
takes entries from them. -/
theorem stepsKeepListBounds : Obligations.StepsKeepListBounds := by
  intro s t hs hstep
  have h : Fits s := listBounds_iff.1 hs
  rw [listBounds_iff]
  unfold step at hstep
  split at hstep
  · next c rest _ => exact fits_exec (s := s.withPending rest) c ⟨h.port, h.paths, h.ret, h.asm, h.log, h.records⟩ hstep
  · cases hstep
    exact fits_ite (fits_withRef h _) h

end Sys2Proof.Machine
end

section
/-! SUPPORT. The two ends of the fabric port's management lane: what the transmitter sends, and how a directive arrives and
its response leaves. -/

namespace Sys2Proof.Machine

/-- What is sent depends on nothing but the port. -/
theorem exec_transmitterFree {s : State} (h : s.power = true) :
    exec .transmitterFree s = .next (s.withPort (transmit s.port)) :=
  live_on (f := transmitterFree) h

theorem transmit_bus {p : FabricPort} {b : BusPacket} (hb : p.bus = some b) :
    transmit p = { p with sent := some (busBytes p.station b), bus := none } := by simp [transmit, hb]

theorem transmit_egress {p : FabricPort} {x : EgressPacket} {rest : List EgressPacket} (hb : p.bus = none)
    (he : p.egress = x :: rest) : transmit p = egressDeparts x rest p := by simp [transmit, hb, he]

theorem transmit_nothing {p : FabricPort} (hb : p.bus = none) (he : p.egress = []) : transmit p = p := by
  simp [transmit, hb, he]

/-- Settles O12: the transmitter looks at the bus packet, then at the egress queue, and takes a held response along. -/
theorem transmitterSendsTheBusPacketFirst : Obligations.TransmitterSendsTheBusPacketFirst := by
  intro s hpower
  rw [exec_transmitterFree hpower]
  refine ⟨fun b hb => ?_, fun x rest hb he hheld => ?_, fun x rest r hb he hheld => ?_, fun hb he => ?_⟩
  · rw [transmit_bus hb]
  · rw [transmit_egress hb he]
    simp [egressDeparts, hheld]
  · rw [transmit_egress hb he]
    simp [egressDeparts, hheld]
  · rw [transmit_nothing hb he]
    rfl

/-! ## The arrival of a directive -/

theorem arrive_van {q : QueuedDirective} (h : q.body.side = .van) (s : State) : arrive q s =
    if s.handler.queue.length < 16 then s.withHandler { s.handler with queue := s.handler.queue ++ [q] }
    else s.count ctrDirectivesDropped .directiveDropped 0 := by simp [arrive, h]

theorem arrive_home {q : QueuedDirective} {p : PathNo} (h : q.body.side = .home p) (s : State) : arrive q s =
    if 8 ≤ s.asm.control.length + s.handler.reserved then s.count ctrRemoteDropped .directiveDropped 1
    else if s.handler.queue.length < 16 then
      s.withHandler { s.handler with queue := s.handler.queue ++ [q], reserved := s.handler.reserved + 1 }
    else s.count ctrDirectivesDropped .directiveDropped 1 := by simp [arrive, h]

/-- Settles O5: a directive is weighed against the control list, then the queue; a response goes where its directive came
from. -/
theorem directivesArriveAndResponsesLeave : Obligations.DirectivesArriveAndResponsesLeave := by
  refine ⟨fun q s => ⟨fun hside hfull => ?_, fun p hside hfull => ?_, fun p hside hroom hfull => ?_,
    fun p hside hroom hqueue => ?_⟩, fun r s => ⟨fun hroom => ?_, fun hfull => ?_, fun p => ?_⟩⟩
  · rw [arrive_van hside, if_neg (by omega)]
  · rw [arrive_home hside, if_pos hfull]
  · rw [arrive_home hside, if_neg (by omega), if_neg (by omega)]
  · rw [arrive_home hside, if_neg (by omega), if_pos hqueue]
  · simp [respond, hroom]
  · simp [respond, Nat.not_lt.2 hfull]
  · exact ⟨controlCell r s.ref.tick s.asm.controlSeq, rfl, rfl, rfl, rfl, rfl, rfl, by simp [controlCell], rfl⟩

end Sys2Proof.Machine
end

section
/-! SUPPORT. The fabric port's checks of an arriving frame (R3 to R6): the classes of frames, the verdict of the sequence
check, and the lane that a packet goes to. -/

namespace Sys2Proof.Machine

variable {s : State} {p : LanePacket}

theorem exec_frameReceived (h : s.power = true) (f : EthFrame) :
    exec (.frameReceived f) s = .next (kick (frameReceived f s)) :=
  live_on (f := fun s => kick (frameReceived f s)) h

theorem finOf_of_lt {n x : Nat} (h : x < n) : finOf n x = some ⟨x, h⟩ := by simp [finOf, h]

theorem finOf_of_le {n x : Nat} (h : n ≤ x) : finOf n x = none := by simp [finOf, Nat.not_lt.2 h]

/-! ## The lane of a packet -/

theorem isLanePacket_false_iff {station : Byte} {f : EthFrame} : isLanePacket station f = false ↔
    (f.fcsOk = false ∨ f.etherType ≠ 0x88B6 ∨ f.payload.length < 12 ∨ 9000 < f.payload.length ∨
      (f.payload.getD 0 0 ≠ station ∧ f.payload.getD 0 0 ≠ 255)) := by
  simp only [isLanePacket, lanePacketType, byteAt, Bool.and_eq_false_iff, Bool.or_eq_false_iff, beq_eq_false_iff_ne,
    decide_eq_false_iff_not, not_le, or_assoc, ne_eq]

theorem frameReceived_foreign {f : EthFrame} (h : isLanePacket s.port.station f = false) :
    frameReceived f s = s.bump ctrForeign 1 := by simp [frameReceived, h]

theorem frameReceived_lane {f : EthFrame} (h : isLanePacket s.port.station f = true) :
    frameReceived f s = lanePacket (parseLanePacket f.payload) s := by simp [frameReceived, h]

theorem lanePacket_video {l : Lane} (h : p.lane = l.val) : lanePacket p s = videoPacket l p s := by
  simp [lanePacket, h, finOf_of_lt l.isLt]

theorem lanePacket_audio {k : Fin 4} (h : p.lane = 8 + k.val) : lanePacket p s = audioPacket k p s := by
  simp [lanePacket, h, finOf_of_lt k.isLt, finOf_of_le (show 6 ≤ 8 + k.val by omega)]

theorem lanePacket_mgmt (h : p.lane = 63) : lanePacket p s = mgmtPacket p s := by
  simp [lanePacket, h, finOf_of_le]

theorem lanePacket_unknown (h : (6 ≤ p.lane ∧ p.lane < 8) ∨ (12 ≤ p.lane ∧ p.lane ≠ 63)) :
    lanePacket p s = s.bump ctrUnknownLane 1 := by
  rcases h with ⟨hlo, hhi⟩ | ⟨hlo, hne⟩
  · simp [lanePacket, finOf_of_le hlo, finOf_of_lt (show p.lane - 8 < 4 by omega), hhi]
  · simp [lanePacket, finOf_of_le (show 6 ≤ p.lane by omega), finOf_of_le (show 4 ≤ p.lane - 8 by omega), hne]

/-! ## The sequence check -/

theorem toNat_add_ofNat_sub (e : Half) {d : Nat} (h : d ≤ 65535) : (e + BitVec.ofNat 16 d - e).toNat = d := by
  bv_omega

theorem seqVerdict_ahead (mgmt : Bool) (e : Half) (late : Nat) {d : Nat} (h : d ≤ 65535) :
    seqVerdict mgmt ⟨some e, late⟩ (e + BitVec.ofNat 16 d) =
      if d = 0 then .inOrder else if d < 32768 then .gap d
      else if mgmt || decide (8 ≤ late + 1) then .lateTaken else .lateDropped := by
  simp only [seqVerdict, toNat_add_ofNat_sub e h]

theorem seqVerdict_expected (mgmt : Bool) (e : Half) (late : Nat) : seqVerdict mgmt ⟨some e, late⟩ e = .inOrder := by
  simp [seqVerdict]

/-- R6: on lane 63 the first late packet is taken. -/
theorem seqVerdict_mgmt_ne_lateDropped (v : SeqState) (seq : Half) : seqVerdict true v seq ≠ .lateDropped := by
  unfold seqVerdict
  split
  · nofun
  · dsimp only
    split_ifs <;> simp_all

theorem seqAfter_taken (v : SeqState) (seq : Half) {r : SeqVerdict} (h : r ≠ .lateDropped) :
    seqAfter v seq r = ⟨some (seq + 1), 0⟩ := by
  cases r with
  | lateDropped => exact absurd rfl h
  | inOrder | gap _ | lateTaken => rfl

theorem seqCounts_taken (lane : Nat) (r : SeqVerdict) (s : State) : r ≠ .lateDropped →
    seqCounts lane r s = match r with
      | .gap n => (s.bump ctrLaneGaps n).latch .laneGap lane
      | .lateTaken => s.count ctrLateLane .laneGap lane
      | _ => s := by
  intro h
  cases r with
  | lateDropped => exact absurd rfl h
  | inOrder | gap _ | lateTaken => rfl

theorem seqCounts_queue (lane : Nat) (r : SeqVerdict) (s : State) :
    (seqCounts lane r s).handler.queue = s.handler.queue := by
  cases r <;> simp [seqCounts]

/-! ## Lane 63 -/

theorem mgmtLengthOk_iff : mgmtLengthOk p = true ↔ p.kind = 4 ∧ p.payload.isSome = true ∧ 8 ≤ p.length := by
  simp [mgmtLengthOk, and_assoc]

theorem parseDirective_eq (side : Side) (bytes : List Byte) : parseDirective side bytes =
    ⟨BitVec.ofNat 32 (get32 bytes 0), ⟨side, BitVec.ofNat 16 (get16 bytes 4), wordsOf (bytes.drop 8),
      decide ((bytes.length - 8) % 4 ≠ 0)⟩⟩ := by
  simp only [parseDirective, bne, ne_eq, decide_not]
  rfl

theorem mgmtPacket_eq (p : LanePacket) (s : State) : mgmtPacket p s =
    let s1 := seqCounts 63 (seqVerdict true s.port.mgmt p.seq)
      (s.withPort { s.port with mgmt := ⟨some (p.seq + 1), 0⟩ })
    if mgmtLengthOk p = true then arrive (parseDirective .van (p.payload.getD [])) s1
    else s1.count ctrLaneLength .laneLength 63 := by
  unfold mgmtPacket
  dsimp only
  rw [seqAfter_taken _ _ (seqVerdict_mgmt_ne_lateDropped _ _)]
  cases mgmtLengthOk p <;> rfl

/-! ## Packets dropped by the check -/

theorem videoPacket_off {l : Lane} (h : s.lanes[l].state = .off) : videoPacket l p s = s.bump ctrIdleLane 1 :=
  if_pos h

theorem videoPacket_dropped {l : Lane} (hoff : s.lanes[l].state ≠ .off)
    (h : seqVerdict false s.port.video[l].seq p.seq = .lateDropped) : videoPacket l p s =
      (s.setVideo l { s.port.video[l] with
        seq := ⟨s.port.video[l].seq.expect, s.port.video[l].seq.late + 1⟩ }).count ctrLateLane .laneGap l.val := by
  simp only [videoPacket, if_neg hoff, h]
  rfl

theorem audioPacket_dropped {k : Fin 4} (h : seqVerdict false s.port.audio[k].seq p.seq = .lateDropped) :
    audioPacket k p s = (s.setAudio k { s.port.audio[k] with
        seq := ⟨s.port.audio[k].seq.expect, s.port.audio[k].seq.late + 1⟩ }).count ctrLateLane .laneGap (8 + k.val) := by
  simp only [audioPacket, h]
  rfl

/-- Settles O10: the frame's check, the packet's lane and the verdict of the sequence check, each by its cases. -/
theorem framesGoToTheirLane : Obligations.FramesGoToTheirLane := by
  refine ⟨fun f s hpower => ?_, fun mgmt e seq late d => ?_,
    fun f p s s0 s1 hpower hlp hparse hlane hs0 hs1 => ?_, fun f p s hpower hlp hparse => ?_⟩
  · rw [exec_frameReceived hpower]
    refine ⟨fun h => ?_, fun hlp h => ?_, fun hlp l h hoff => ?_⟩
    · rw [frameReceived_foreign (isLanePacket_false_iff.2 h)]
    · rw [frameReceived_lane hlp, lanePacket_unknown h]
    · rw [frameReceived_lane hlp, lanePacket_video h, videoPacket_off hoff]
  · refine ⟨rfl, seqVerdict_expected mgmt e late, fun h1 h2 => ?_, fun h1 h2 => ?_, fun v v' => ?_⟩
    · rw [seqVerdict_ahead _ _ _ (by omega), if_neg (by omega), if_pos (by omega)]
    · rw [seqVerdict_ahead _ _ _ h2, if_neg (by omega), if_neg (by omega)]
      refine ⟨fun hm => ?_, fun hm hlate => ?_, fun hm hlate => ?_⟩
      · simp [hm]
      · simp [hm, hlate]
      · simp [hm, Nat.not_le.2 hlate]
    · split
      · next h => rw [h]; rfl
      · next h => exact seqAfter_taken v seq h
  · replace hs1 := hs1.trans (seqCounts_taken 63 _ s0 (seqVerdict_mgmt_ne_lateDropped _ _)).symm
    subst hs0
    rw [exec_frameReceived hpower, frameReceived_lane hlp, hparse, lanePacket_mgmt hlane, mgmtPacket_eq]
    dsimp only
    rw [← hs1]
    refine ⟨fun h => ?_, fun bytes hkind hpayload hlen hroom => ?_⟩
    · rw [if_neg]
      intro hok
      obtain ⟨hkind, hsome, hlen⟩ := mgmtLengthOk_iff.1 hok
      rcases h with h | h | h
      · exact h hkind
      · simp [h] at hsome
      · omega
    · have hqueue : s1.handler.queue = s.handler.queue := by rw [hs1, seqCounts_queue]; rfl
      rw [if_pos (mgmtLengthOk_iff.2 ⟨hkind, by simp [hpayload], hlen⟩), arrive_van rfl, hqueue, if_pos hroom, hpayload,
        parseDirective_eq]
      rfl
  · rw [exec_frameReceived hpower, frameReceived_lane hlp, hparse]
    refine ⟨fun l hlane hoff hlate => ?_, fun k hlane hlate => ?_⟩
    · rw [lanePacket_video hlane, videoPacket_dropped hoff hlate]
    · rw [lanePacket_audio hlane, audioPacket_dropped hlate]

end Sys2Proof.Machine
end

section
/-! SUPPORT. Video and audio intake (R7 to R9, R12): a packet that passes the sequence check, and the samples of its blocks. -/

namespace Sys2Proof.Machine

variable {s : State} {p : LanePacket}

/-! ## Video packets -/

/-- R9: while a line is being placed the coder takes no other. -/
theorem pump_placing {l : Lane} (h : s.lanes[l].placing.isSome = true) : pump l s = s := by
  unfold pump
  cases s.port.video[l].lines.length with
  | zero => rfl
  | succ n => exact if_pos h

theorem seqCounts_lanes (lane : Nat) (r : SeqVerdict) (s : State) : (seqCounts lane r s).lanes = s.lanes := by
  cases r <;> simp [seqCounts]

/-- The intake of a lane whose packet has passed the sequence check. -/
def videoTaken (l : Lane) (p : LanePacket) (s : State) : VideoIntake :=
  { s.port.video[l] with seq := ⟨some (p.seq + 1), 0⟩ }

/-- The line that a video packet brings (R8, R185). -/
def lineOf (p : LanePacket) : Line := ⟨p.number, p.extra != 0, p.payload.getD []⟩

theorem goesOn_taken {r : SeqVerdict} (h : r ≠ .lateDropped) : goesOn r = true := decide_eq_true h

theorem videoPacket_taken {l : Lane} (hoff : s.lanes[l].state ≠ .off)
    (h : seqVerdict false s.port.video[l].seq p.seq ≠ .lateDropped) : videoPacket l p s =
      let v := videoTaken l p s
      let s1 := seqCounts l.val (seqVerdict false s.port.video[l].seq p.seq) (s.setVideo l v)
      let fmt := applicableFormat s.lanes[l] v (lineOf p)
      if !videoLengthOk fmt p then s1.count ctrLaneLength .laneLength l.val
      else if 32 ≤ v.lines.length then s1.count ctrLaneOverruns .laneOverrun l.val
      else pump l (s1.setVideo l (handLine v fmt (lineOf p))) := by
  unfold videoPacket
  dsimp only
  rw [if_neg hoff, seqAfter_taken _ _ h, goesOn_taken h, if_neg nofun]
  rfl

/-! ## Audio packets -/

/-- The intake of an audio lane whose packet has passed the sequence check. -/
def audioTaken (k : Fin 4) (p : LanePacket) (s : State) : AudioIntake :=
  { s.port.audio[k] with seq := ⟨some (p.seq + 1), 0⟩ }

theorem audioPacket_taken {k : Fin 4} (h : seqVerdict false s.port.audio[k].seq p.seq ≠ .lateDropped) :
    audioPacket k p s =
      let v := audioTaken k p s
      let s1 := seqCounts (8 + k.val) (seqVerdict false s.port.audio[k].seq p.seq) (s.setAudio k v)
      if !audioLengthOk p then s1.count ctrLaneLength .laneLength (8 + k.val)
      else if 4 < v.blocks.length + p.extra.toNat then s1.count ctrLaneOverruns .laneOverrun (8 + k.val)
      else s1.setAudio k { v with blocks := v.blocks ++ blocksOf p.extra.toNat (p.payload.getD []) } := by
  unfold audioPacket
  dsimp only
  rw [seqAfter_taken _ _ h, goesOn_taken h, if_neg nofun]
  rfl

theorem audioLengthOk_iff : audioLengthOk p = true ↔ p.kind = 2 ∧ 1 ≤ p.extra.toNat ∧ p.extra.toNat ≤ 4 ∧
    p.payload.isSome = true ∧ p.length = 1152 * p.extra.toNat := by
  simp [audioLengthOk, and_assoc, Nat.mul_comm]

/-- R185: a payload is present when all its bytes are, and no others belong to it. -/
theorem parseLanePacket_payload {l bytes : List Byte} (h : (parseLanePacket l).payload = some bytes) :
    bytes.length = (parseLanePacket l).length := by
  simp only [parseLanePacket] at h ⊢
  split at h
  · cases h
  · next hlen =>
    obtain rfl := Option.some.inj h
    rw [List.length_take]
    omega

theorem length_samplesOf (l : List Byte) : (samplesOf l).length = l.length / 3 := by
  induction l using samplesOf.induct with
  | case1 a b c rest ih => simp only [samplesOf, List.length_cons, ih]; omega
  | case2 l hshort =>
    rcases l with _ | ⟨a, _ | ⟨b, _ | ⟨c, rest⟩⟩⟩
    · rfl
    · simp [samplesOf]
    · simp [samplesOf]
    · exact (hshort a b c rest rfl).elim

theorem samplesOf_getElem? (i : Nat) : ∀ l : List Byte, 3 * i + 2 < l.length → (samplesOf l)[i]? =
    some (sampleOf (l.getD (3 * i) 0) (l.getD (3 * i + 1) 0) (l.getD (3 * i + 2) 0)) := by
  induction i with
  | zero =>
    rintro (_ | ⟨a, _ | ⟨b, _ | ⟨c, rest⟩⟩⟩) h
    iterate 3 simp at h
    rfl
  | succ i ih =>
    rintro (_ | ⟨a, _ | ⟨b, _ | ⟨c, rest⟩⟩⟩) h
    iterate 3 simp at h
    have hrest := ih rest (by simp only [List.length_cons] at h; omega)
    simpa [samplesOf, Nat.mul_add] using hrest

theorem blocksOf_getElem? : ∀ (m n : Nat) (l : List Byte), n < m →
    (blocksOf m l)[n]? = some (samplesOf ((l.drop (1152 * n)).take 1152))
  | m + 1, 0, l, _ => rfl
  | m + 1, n + 1, l, h => by
    rw [blocksOf, List.getElem?_cons_succ, blocksOf_getElem? m n _ (by omega), List.drop_drop]
    congr 4
    omega

/-- R12: sample i of block n of a run of whole blocks. -/
theorem blocksOf_sample {m n i : Nat} {bytes : List Byte} (hlen : bytes.length = 1152 * m) (hn : n < m) (hi : i < 384) :
    ∃ b, (blocksOf m bytes)[n]? = some b ∧ b.length = 384 ∧
      b[i]? = some (sampleOf (bytes.getD (1152 * n + 3 * i) 0) (bytes.getD (1152 * n + 3 * i + 1) 0)
        (bytes.getD (1152 * n + 3 * i + 2) 0)) := by
  have hblock : ((bytes.drop (1152 * n)).take 1152).length = 1152 := by
    rw [List.length_take, List.length_drop]; omega
  have hbyte : ∀ j, j < 1152 → ((bytes.drop (1152 * n)).take 1152).getD j 0 = bytes.getD (1152 * n + j) 0 := by
    intro j hj
    rw [List.getD_eq_getElem?_getD, List.getElem?_take_of_lt hj, List.getElem?_drop, List.getD_eq_getElem?_getD]
  refine ⟨_, blocksOf_getElem? m n bytes hn, by rw [length_samplesOf, hblock], ?_⟩
  rw [samplesOf_getElem? i _ (by omega), hbyte _ (by omega), hbyte _ (by omega), hbyte _ (by omega)]
  rfl

/-- Settles O11: past the sequence check the length, then the room in the lane's buffer, decide. -/
theorem linesAndBlocksJoinTheirBuffers : Obligations.LinesAndBlocksJoinTheirBuffers := by
  refine ⟨fun f p s s0 s1 l v x fmt hpower hlp hparse hlane hoff htaken hv hs0 hs1 hx hfmt => ?_,
    fun f p s s0 s1 k v bytes hpower hlp hparse hlane htaken hv hs0 hs1 => ?_⟩
  · replace hs1 := hs1.trans (seqCounts_taken l.val _ s0 htaken).symm
    obtain rfl : v = videoTaken l p s := hv
    obtain rfl : x = lineOf p := hx
    subst hs0 hfmt
    rw [exec_frameReceived hpower, frameReceived_lane hlp, hparse, lanePacket_video hlane,
      videoPacket_taken hoff htaken]
    dsimp only
    rw [← hs1]
    refine ⟨fun hlen => ?_, fun hlen hfull => ?_, fun hlen hroom hplacing => ?_⟩
    · rw [hlen]; rfl
    · rw [hlen, if_neg nofun, if_pos hfull]
    · rw [hlen, if_neg nofun, if_neg (by omega), pump_placing (by rw [hs1]; simpa [State.setVideo, seqCounts_lanes])]
      rfl
  · replace hs1 := hs1.trans (seqCounts_taken (8 + k.val) _ s0 htaken).symm
    obtain rfl : v = audioTaken k p s := hv
    subst hs0
    rw [exec_frameReceived hpower, frameReceived_lane hlp, hparse, lanePacket_audio hlane, audioPacket_taken htaken]
    dsimp only
    rw [← hs1]
    refine ⟨fun hbad => ?_, fun hkind h1 h4 hpayload hlen => ?_⟩
    · rw [if_pos]
      rw [Bool.not_eq_true', ← Bool.not_eq_true, audioLengthOk_iff]
      rintro ⟨hkind, h1, h4, hsome, hlen⟩
      rcases hbad with h | h | h | h | h
      · exact h hkind
      · simp [h] at h1
      · omega
      · simp [h] at hsome
      · exact h hlen
    · have hok : audioLengthOk p = true := audioLengthOk_iff.2 ⟨hkind, h1, h4, by simp [hpayload], hlen⟩
      rw [if_neg (by simp [hok])]
      refine ⟨fun hover => ?_, fun hroom => ?_⟩
      · rw [if_pos hover]
      · rw [if_neg (by omega), hpayload]
        refine ⟨blocksOf p.extra.toNat bytes, rfl, length_blocksOf _ _, fun n i hn hi => blocksOf_sample ?_ hn hi⟩
        rw [← hlen, ← hparse]
        exact parseLanePacket_payload (by rw [hparse, hpayload])

end Sys2Proof.Machine
end

section
/-! SUPPORT. One lane coder of the machine: what reading and writing it gives, and the parts of the machine that it stands
apart from. -/

namespace Sys2Proof.Machine

variable {s : State} {l : Lane}

/-! ## Reading and writing a lane -/

theorem setLane_lane (s : State) (l : Lane) (k : LaneCoder) : (s.setLane l k).lanes[l] = k := by simp [State.setLane]

theorem setLane_other {m : Lane} (h : m ≠ l) (s : State) (k : LaneCoder) : (s.setLane l k).lanes[m] = s.lanes[m] := by
  rw [State.setLane, State.withLanes_lanes, lane_set, if_neg h.symm]

theorem setLane_setLane (s : State) (l : Lane) (j k : LaneCoder) : (s.setLane l j).setLane l k = s.setLane l k := by
  simp [State.setLane, State.withLanes]

theorem setLane_self (s : State) (l : Lane) : s.setLane l s.lanes[l] = s := by
  simp [State.setLane, State.withLanes]

theorem modLane_eq (s : State) (l : Lane) (f : LaneCoder → LaneCoder) : s.modLane l f = s.setLane l (f s.lanes[l]) := rfl

theorem modLane_setLane (s : State) (l : Lane) (k : LaneCoder) (f : LaneCoder → LaneCoder) :
    (s.setLane l k).modLane l f = s.setLane l (f k) := by
  rw [modLane_eq, setLane_lane, setLane_setLane]

theorem modLane_modLane (s : State) (l : Lane) (f g : LaneCoder → LaneCoder) :
    (s.modLane l f).modLane l g = s.setLane l (g (f s.lanes[l])) := modLane_setLane s l _ g

/-- A lane written with what it holds already. -/
theorem setLane_of_eq {c : LaneCoder} (h : s.lanes[l] = c) : s.setLane l c = s := by rw [← h, setLane_self]

@[simp] theorem setLane_store (s : State) (l k) : (s.setLane l k).store = s.store := rfl
@[simp] theorem setLane_port (s : State) (l k) : (s.setLane l k).port = s.port := rfl
@[simp] theorem setLane_ref (s : State) (l k) : (s.setLane l k).ref = s.ref := rfl
@[simp] theorem setLane_handler (s : State) (l k) : (s.setLane l k).handler = s.handler := rfl

/-! ## Counts and events beside a lane -/

theorem latch_setLane (s : State) (l k e u) : (s.setLane l k).latch e u = (s.latch e u).setLane l k := rfl

theorem bump_setLane (s : State) (l k c n) : (s.setLane l k).bump c n = (s.bump c n).setLane l k := rfl

theorem count_setLane (s : State) (l k c e u) : (s.setLane l k).count c e u = (s.count c e u).setLane l k := by
  rw [State.count, bump_setLane, latch_setLane, State.count]

theorem mem_insertSorted {α : Type} {before : α → α → Bool} {a x : α} {xs : List α} :
    x ∈ insertSorted before a xs ↔ x = a ∨ x ∈ xs := by
  induction xs with
  | nil => simp [insertSorted]
  | cons y ys ih =>
    unfold insertSorted
    split
    · simp
    · simp only [List.mem_cons, ih]
      tauto

theorem mem_join_self (h : Handler) (k : EventKind) (u : Nat) : (k, u) ∈ (h.join k u).flags :=
  mem_insertSorted.2 (.inl rfl)

theorem mem_loseNotice {h : Handler} {f : EventKind × Nat} (hf : f ∈ h.flags) : f ∈ h.loseNotice.flags := by
  unfold Handler.loseNotice
  dsimp only
  split
  · split
    · exact mem_insertSorted.2 (.inr hf)
    · exact mem_insertSorted.2 (.inr hf)
  · exact hf

/-- R179: a pair that an owner latches is in the set. -/
theorem mem_flags_latch (s : State) (k : EventKind) (u : Nat) : (k, u) ∈ (s.latch k u).handler.flags := by
  have hset : (s.latch k u).handler = (latchPair k u s.ref.tick s.handler s.port).1 := rfl
  rw [hset]
  rcases latchPair_cases k u s.ref.tick s.handler s.port with ⟨h, e⟩ | ⟨-, -, e⟩ | ⟨-, -, -, e⟩ | ⟨-, -, -, e⟩ <;> rw [e]
  · simpa using h
  · exact mem_join_self _ _ _
  · exact mem_join_self _ _ _
  · exact mem_loseNotice (mem_join_self _ _ _)

theorem mem_flags_count (s : State) (c : Fin 40) (k : EventKind) (u : Nat) : (k, u) ∈ (s.count c k u).handler.flags :=
  mem_flags_latch _ k u

end Sys2Proof.Machine
end

section
/-! SUPPORT. The lane coder's slices (R26, R27, R29, R30, R31): how a slice begins, takes a line and becomes ready, when the
engine and the pass list stand still, and when a lane enters OFF. -/

namespace Sys2Proof.Machine

variable {s t : State} {l : Lane} {c k : LaneCoder} {f : FrameInProgress} {x : Line}

/-! ## Entering OFF (R33) -/

theorem maybeOff_stay (h : s.lanes[l].state ≠ .draining ∨ s.lanes[l].frame.isSome = true ∨ s.lanes[l].pass ≠ []) :
    maybeOff l s = s := by
  unfold maybeOff
  dsimp only
  rw [if_neg]
  simp only [Bool.and_eq_true, decide_eq_true_eq, Option.isNone_iff_eq_none, List.isEmpty_iff]
  rintro ⟨⟨hd, hf⟩, hp⟩
  rcases h with h | h | h
  · exact h hd
  · rw [hf] at h; cases h
  · exact h hp

theorem maybeOff_off (hd : s.lanes[l].state = .draining) (hf : s.lanes[l].frame = none) (hp : s.lanes[l].pass = []) :
    maybeOff l s = (s.setLane l (coderOff s.lanes[l])).setVideo l emptyVideo := by
  unfold maybeOff
  dsimp only
  rw [if_pos (by simp only [hd, hf, hp]; rfl)]

theorem maybeOff_off_state (hd : s.lanes[l].state = .draining) (hf : s.lanes[l].frame = none)
    (hp : s.lanes[l].pass = []) : (maybeOff l s).lanes[l].state = .off := by
  rw [maybeOff_off hd hf hp]
  exact congrArg LaneCoder.state (setLane_lane s l _)

theorem maybeOff_store (l : Lane) (s : State) : (maybeOff l s).store = s.store := by
  unfold maybeOff
  dsimp only
  split
  · rfl
  · rfl

/-! ## The engine and the pass list stand still -/

theorem passDone_waiting (n : Nat) (h : ∀ e, s.lanes[l].pass.head? = some e → e.done = none) : passDone l n s = s := by
  cases n with
  | zero => rfl
  | succ n =>
    unfold passDone
    split
    · next hp => cases h _ (by rw [hp]; rfl)
    · rfl

theorem passReady_waiting (h : ∀ e, s.lanes[l].pass.head? = some e → e.done = none) : passReady l s = s :=
  passDone_waiting _ h

theorem startEngine_busy (n : Nat) (h : s.lanes[l].engine.isSome = true) : startEngine l n s = s := by
  cases n with
  | zero => rfl
  | succ n => exact if_pos h

theorem startEngine_empty (n : Nat) (h : s.lanes[l].pass = []) : startEngine l n s = s := by
  cases n with
  | zero => rfl
  | succ n =>
    unfold startEngine firstReady
    rw [h]
    split
    · rfl
    · rfl

/-- R28, R30: a busy engine and a front entry that is not done leave the lane as it is. -/
theorem settleCoder_still (he : s.lanes[l].engine.isSome = true)
    (hp : ∀ e, s.lanes[l].pass.head? = some e → e.done = none) : settleCoder l s = s := by
  rw [settleCoder, passReady_waiting hp, startEngine_busy 3 he]

/-! ## A slice begins (R26, R29) -/

/-- The lane with a FREE buffer claimed for the next slice of its frame. -/
def claimed (f : FrameInProgress) (b : Fin 2) (k : LaneCoder) : LaneCoder :=
  { k with
    buffers := k.buffers.set b ⟨.filling, f.tick, f.next, [], k.fill⟩
    frame := some { f with begun := some ⟨f.next, some b⟩ } }

/-- The lane with the next slice of its frame begun as an overrun slice. -/
def overrun (f : FrameInProgress) (k : LaneCoder) : LaneCoder :=
  { k with frame := some { f with begun := some ⟨f.next, none⟩ } }

theorem ensureBegun_begun (hf : s.lanes[l].frame = some f) (hb : f.begun.isSome = true) : ensureBegun l s = s := by
  unfold ensureBegun
  rw [hf]
  exact if_pos hb

/-- R26, R29: the next slice claims a FREE buffer, or is an overrun slice where there is none. -/
theorem ensureBegun_cases (hl : s.lanes[l] = k) (hf : k.frame = some f) (hb : f.begun = none) :
    (∃ b : Fin 2, k.buffers[b].state = .free ∧ ensureBegun l s = s.setLane l (claimed f b k)) ∨
    ((∀ b : Fin 2, k.buffers[b].state ≠ .free) ∧
      ensureBegun l s = (s.setLane l (overrun f k)).count ctrSliceOverruns .laneOverrun l.val) := by
  subst hl
  have hens : ensureBegun l s = beginSlice l f f.next s := by
    unfold ensureBegun
    rw [hf]
    exact if_neg (by rw [hb]; nofun)
  rw [hens]
  unfold beginSlice
  dsimp only
  split
  · next b hfind => exact .inl ⟨b, by simpa using List.find?_some hfind, rfl⟩
  · next hfind => exact .inr ⟨by simpa using hfind, rfl⟩

/-! ## A line is put into its slice (R21, R29) -/

theorem putLine_placed {i : Nat} {b : Fin 2} (hf : k.frame = some f) (hb : f.begun = some ⟨i, some b⟩) : putLine x k =
    { k with
      buffers := k.buffers.set b { k.buffers[b] with lines := k.buffers[b].lines ++ [(x.number, x.pixels)] }
      fill := some x.pixels, placing := some ⟨f.tick, x.number⟩ } := by
  unfold putLine
  rw [hf]
  dsimp only
  rw [hb]

theorem putLine_overrun {i : Nat} (hf : k.frame = some f) (hb : f.begun = some ⟨i, none⟩) : putLine x k =
    { k with fill := some x.pixels } := by
  unfold putLine
  rw [hf]
  dsimp only
  rw [hb]

/-! ## A slice becomes ready (R26, R29, R31) -/

theorem overrunResult_eq (kind : Option FrameKind) :
    overrunResult kind = ⟨if kind = some .key then .blank else .repeated, none, 16, []⟩ := by
  rcases kind with _ | (_ | _) <;> rfl

/-- The buffers once the slice in one of them, or an overrun slice, is ready. -/
def readyBuffers (f : FrameInProgress) (i : Nat) (k : LaneCoder) : Option (Fin 2) → Vector SliceBuffer 2
  | some b => k.buffers.set b { k.buffers[b] with state := .ready, lines := filledSlice f.format i k.buffers[b] }
  | none => k.buffers

/-- The entry with which a ready slice joins the pass list. -/
def readyEntry (f : FrameInProgress) (i : Nat) : Option (Fin 2) → PassEntry
  | some b => ⟨f.tick, i, some b, none⟩
  | none => ⟨f.tick, i, none, some ⟨if f.kind = some .key then .blank else .repeated, none, 16, []⟩⟩

theorem finishSlice_eq {i : Nat} {buf : Option (Fin 2)} (hf : k.frame = some f) (hb : f.begun = some ⟨i, buf⟩) :
    finishSlice k = { k with
      frame := if sliceCount f.format ≤ i + 1 then none else some { f with next := i + 1, begun := none }
      fill := if sliceCount f.format ≤ i + 1 then none else k.fill
      buffers := readyBuffers f i k buf
      pass := k.pass ++ [readyEntry f i buf] } := by
  unfold finishSlice
  rw [hf]
  dsimp only
  rw [hb]
  cases buf with
  | none => simp only [decide_eq_true_eq, overrunResult_eq, readyBuffers, readyEntry]
  | some b => simp only [decide_eq_true_eq, readyBuffers, readyEntry]

theorem makeReady_begun {i : Nat} {buf : Option (Fin 2)} (hl : s.lanes[l] = k) (hf : k.frame = some f)
    (hb : f.begun = some ⟨i, buf⟩) : makeReady l s = settleCoder l (s.setLane l (finishSlice k)) := by
  rw [makeReady, ensureBegun_begun (hl ▸ hf) (by rw [hb]; rfl), modLane_eq, hl]

/-- The slice that is ready next begins first. -/
theorem makeReady_ensureBegun (hf : (ensureBegun l s).lanes[l].frame = some f) (hb : f.begun.isSome = true) :
    makeReady l (ensureBegun l s) = makeReady l s := by
  rw [makeReady, ensureBegun_begun hf hb, makeReady]

end Sys2Proof.Machine
end

section
/-! SUPPORT. What passing slices and the coding engine leave of a lane (R28, R30), and the slices that become ready in index
order while the engine is busy and the front of the pass list is not done (R26, R31). -/

namespace Sys2Proof.Machine

variable {s t : State} {l : Lane} {c k : LaneCoder} {f : FrameInProgress}

/-! ## Passing and coding (R28, R30) -/

/-- From `s` to `t` nothing of lane `l` but its pass list and its rates has moved. -/
def Passed (l : Lane) (s t : State) : Prop :=
  t.lanes[l] = { s.lanes[l] with pass := t.lanes[l].pass, rate := t.lanes[l].rate }

/-- From `s` to `t` nothing of lane `l` but its buffers, its engine, its pass list and its rates has moved. -/
def Coded (l : Lane) (s t : State) : Prop :=
  t.lanes[l] = { s.lanes[l] with
    buffers := t.lanes[l].buffers, engine := t.lanes[l].engine, pass := t.lanes[l].pass, rate := t.lanes[l].rate }

theorem Passed.refl (l : Lane) (s : State) : Passed l s s := rfl
theorem Coded.refl (l : Lane) (s : State) : Coded l s s := rfl

theorem Passed.trans {u : State} (h : Passed l s t) (g : Passed l t u) : Passed l s u := by
  unfold Passed at *
  rw [g, h]

theorem Coded.trans {u : State} (h : Coded l s t) (g : Coded l t u) : Coded l s u := by
  unfold Coded at *
  rw [g, h]

theorem Passed.coded (h : Passed l s t) : Coded l s t := by
  unfold Passed Coded at *
  rw [h]

theorem Passed.engine (h : Passed l s t) : t.lanes[l].engine = s.lanes[l].engine := by rw [h]

theorem Coded.state (h : Coded l s t) : t.lanes[l].state = s.lanes[l].state := by rw [h]
theorem Coded.frame (h : Coded l s t) : t.lanes[l].frame = s.lanes[l].frame := by rw [h]
theorem Coded.fill (h : Coded l s t) : t.lanes[l].fill = s.lanes[l].fill := by rw [h]

theorem coded_ite {c : Prop} [Decidable c] {a b : State} (ha : Coded l s a) (hb : Coded l s b) :
    Coded l s (if c then a else b) := by
  split
  · exact ha
  · exact hb

theorem coded_modLane (h : Coded l s t) {g : LaneCoder → LaneCoder}
    (hg : ∀ c, g c = { c with
      buffers := (g c).buffers, engine := (g c).engine, pass := (g c).pass, rate := (g c).rate }) :
    Coded l s (t.modLane l g) := by
  refine h.trans ?_
  unfold Coded
  rw [modLane_eq, setLane_lane]
  exact hg _

theorem coded_modRate (h : Coded l s t) (g : RateContext → RateContext) : Coded l s (t.modRate l g) :=
  coded_modLane h fun _ => rfl

theorem coded_count (h : Coded l s t) (c e u) : Coded l s (t.count c e u) := h

theorem appendSlice_lanes (l t x) (s : State) : (appendSlice l t x s).lanes = s.lanes := by
  unfold appendSlice
  split
  · rfl
  · dsimp only
    split_ifs <;> rfl

/-- R30: the pass of one slice may only remove its frame's allotment. -/
theorem passOne_cases (l e x) (s : State) : ∃ (u : State) (r : RateContext), u.lanes = s.lanes ∧
    passOne l e x s = u.setLane l { s.lanes[l] with rate := r } := by
  have happ := appendSlice_lanes l e.tick x s
  have hself : ∀ u : State, u.lanes = s.lanes → u = u.setLane l { s.lanes[l] with rate := s.lanes[l].rate } := by
    intro u hu
    have : u.lanes[l] = s.lanes[l] := by rw [hu]
    exact (setLane_of_eq this).symm
  unfold passOne
  dsimp only
  split
  · exact ⟨_, _, happ, hself _ happ⟩
  · next a _ =>
    split
    · refine ⟨(appendSlice l e.tick x s).withStore (completeRecord (appendSlice l e.tick x s).store l e.tick),
        dropAllotment e.tick (addDebt a s.lanes[l].rate), happ, ?_⟩
      simp only [State.modRate, modLane_eq, State.withStore_lanes, happ]
    · exact ⟨_, _, happ, hself _ happ⟩

theorem passed_passOne (l e x) (s : State) : Passed l s (passOne l e x s) := by
  obtain ⟨u, r, -, e⟩ := passOne_cases l e x s
  unfold Passed
  rw [e, setLane_lane]

theorem passed_passDone (l : Lane) : ∀ (n : Nat) (s : State), Passed l s (passDone l n s)
  | 0, _ => .refl _ _
  | n + 1, s => by
    unfold passDone
    split
    · refine Passed.trans ?_ (passed_passDone l n _)
      refine Passed.trans ?_ (passed_passOne _ _ _ _)
      unfold Passed
      rw [modLane_eq, setLane_lane]
    · exact .refl _ _

theorem passed_passReady (l : Lane) (s : State) : Passed l s (passReady l s) := passed_passDone l _ s

/-- R30: a pass list of one done slice is passed to its end. -/
theorem passReady_one {e : PassEntry} {y : SliceResult} (hp : s.lanes[l].pass = [e]) (hd : e.done = some y) :
    (passReady l s).lanes[l].pass = [] := by
  obtain ⟨t, i, b, d⟩ := e
  obtain rfl : d = some y := hd
  have hone : passReady l s = passOne l ⟨t, i, b, some y⟩ y (s.modLane l (fun c => { c with pass := [] })) := by
    unfold passReady
    rw [hp, List.length_singleton]
    unfold passDone
    split
    · next h =>
      cases hp.symm.trans h
      rfl
    · next h => exact (h _ _ _ _ _ hp).elim
  obtain ⟨u, r, -, e⟩ := passOne_cases l ⟨t, i, b, some y⟩ y (s.modLane l (fun c => { c with pass := [] }))
  rw [hone, e, setLane_lane, modLane_eq, setLane_lane]

theorem coded_sliceEnds (l b x) (s : State) : Coded l s (sliceEnds l b x s) := by
  unfold sliceEnds
  split
  · exact .refl _ _
  · split
    · exact .refl _ _
    · have hcap : ∀ c : Bool, Coded l s (if c then s.count ctrSlicesCapped .sliceCapped l.val else s) := fun c =>
        coded_ite (.refl _ _) (.refl _ _)
      refine Coded.trans ?_ (passed_passReady _ _).coded
      exact coded_modLane (coded_modRate (coded_ite (coded_count (hcap _) _ _ _) (hcap _)) _) fun _ => rfl

theorem coded_beginCoding (l b) (s : State) : Coded l s (beginCoding l b s) := by
  unfold beginCoding
  split
  · exact .refl _ _
  · split
    · exact .refl _ _
    · have hbegin : ∀ B : LaneCoder → Vector SliceBuffer 2, Coded l s (s.modLane l (fun c =>
          { c with buffers := B c, rate := { c.rate with force := false } })) := fun B =>
        coded_modLane (.refl _ _) fun _ => rfl
      dsimp only
      split
      · split
        · exact (hbegin _).trans (coded_sliceEnds _ _ _ _)
        · exact coded_modLane (coded_modRate (hbegin _) _) fun _ => rfl
      · exact coded_modLane (hbegin _) fun _ => rfl

theorem coded_startEngine (l : Lane) : ∀ (n : Nat) (s : State), Coded l s (startEngine l n s)
  | 0, _ => .refl _ _
  | n + 1, s => by
    unfold startEngine
    split
    · exact .refl _ _
    · split
      · exact .refl _ _
      · exact (coded_beginCoding _ _ _).trans (coded_startEngine l n _)

theorem coded_settleCoder (l : Lane) (s : State) : Coded l s (settleCoder l s) :=
  (passed_passReady l s).coded.trans (coded_startEngine l 3 _)

end Sys2Proof.Machine
end

section
/-! SUPPORT. The slices that become ready in index order while the engine is busy and the front of the pass list is not done
(R26, R27, R29, R31). -/

namespace Sys2Proof.Machine

variable {s t : State} {l : Lane} {k : LaneCoder} {f : FrameInProgress}

theorem buffer_set {α : Type} (v : Vector α 2) (a b : Fin 2) (x : α) : (v.set a x)[b] = if a = b then x else v[b] := by
  simp [Vector.getElem_set, Fin.ext_iff]

/-! ## The lines of a ready slice (R27) -/

theorem length_fillLines (taken : List (Nat × List Byte)) (m : Nat) :
    ∀ n near, (fillLines taken n m near).length = m := by
  induction m with
  | zero => exact fun _ _ => rfl
  | succ m ih =>
    intro n near
    unfold fillLines
    split
    · rw [List.length_cons, ih]
    · rw [List.length_cons, ih]

theorem map_fst_fillLines (taken : List (Nat × List Byte)) (m : Nat) :
    ∀ n near, (fillLines taken n m near).map Prod.fst = (List.range m).map (fun i => n + i) := by
  induction m with
  | zero => exact fun _ _ => rfl
  | succ m ih =>
    intro n near
    have hshift : (fun i => n + i) ∘ Nat.succ = fun i => n + 1 + i := funext fun i => by simp; omega
    unfold fillLines
    rw [List.range_succ_eq_map, List.map_cons, List.map_map, hshift]
    split
    · rw [List.map_cons, ih]; rfl
    · rw [List.map_cons, ih]; rfl

/-- The numbers of the lines of slice `i` of a format (R26). -/
def sliceLines (f : Format) (i : Nat) : List Nat := (List.range (lastLineOf f i + 1 - 16 * i)).map (fun j => 16 * i + j)

theorem map_fst_filledSlice (f : Format) (i : Nat) (b : SliceBuffer) :
    (filledSlice f i b).map Prod.fst = sliceLines f i := map_fst_fillLines _ _ _ _

/-! ## One slice becomes ready -/

/-- From `s` to `t` neither the store nor another lane than `l` has moved. -/
def Aside (l : Lane) (s t : State) : Prop := t.store = s.store ∧ ∀ m, m ≠ l → t.lanes[m] = s.lanes[m]

theorem Aside.refl (l : Lane) (s : State) : Aside l s s := ⟨rfl, fun _ _ => rfl⟩

theorem Aside.trans {u : State} (h : Aside l s t) (g : Aside l t u) : Aside l s u :=
  ⟨g.1.trans h.1, fun m hm => (g.2 m hm).trans (h.2 m hm)⟩

theorem Aside.setLane (h : Aside l s t) (k : LaneCoder) : Aside l s (t.setLane l k) :=
  ⟨h.1, fun m hm => (setLane_other hm t k).trans (h.2 m hm)⟩

theorem Aside.count (h : Aside l s t) (c e u) : Aside l s (t.count c e u) := h

/-- What a slice that became ready is on the pass list: its buffer is READY with every line of its range, or it is done as
an overrun slice. -/
def LateEntry (f : FrameInProgress) (B : Vector SliceBuffer 2) (y : PassEntry) : Prop :=
  (∀ b, y.buffer = some b →
    y.done = none ∧ B[b].state = .ready ∧ B[b].lines.map Prod.fst = sliceLines f.format y.index) ∧
  (y.buffer = none → y.done = some ⟨if f.kind = some .key then .blank else .repeated, none, 16, []⟩)

theorem LateEntry.congr {B C : Vector SliceBuffer 2} {y : PassEntry} (h : LateEntry f B y)
    (hBC : ∀ b : Fin 2, B[b].state = .ready → C[b] = B[b]) : LateEntry f C y := by
  refine ⟨fun b hb => ?_, h.2⟩
  obtain ⟨hd, hs, hl⟩ := h.1 b hb
  rw [hBC b hs]
  exact ⟨hd, hs, hl⟩

theorem lateEntry_ready (f : FrameInProgress) (i : Nat) (k : LaneCoder) (buf : Option (Fin 2)) :
    LateEntry f (readyBuffers f i k buf) (readyEntry f i buf) := by
  cases buf with
  | none => exact ⟨nofun, fun _ => rfl⟩
  | some a =>
    refine ⟨fun b hb => ?_, nofun⟩
    obtain rfl : a = b := Option.some.inj hb
    rw [readyBuffers, buffer_set, if_pos rfl]
    exact ⟨rfl, rfl, map_fst_filledSlice _ _ _⟩

/-- R26, R29: the next slice has begun, and no READY buffer is touched where it begins now. -/
theorem ensureBegun_spec (hl : t.lanes[l] = k) (hf : k.frame = some f)
    (hown : ∀ g, f.begun = some g → g.index = f.next) : ∃ (u : State) (buf : Option (Fin 2)) (B : Vector SliceBuffer 2),
      ensureBegun l t = u.setLane l { k with frame := some { f with begun := some ⟨f.next, buf⟩ }, buffers := B } ∧
      Aside l t u ∧
      (f.begun = none → ∀ b : Fin 2, k.buffers[b].state = .ready → buf ≠ some b ∧ B[b] = k.buffers[b]) := by
  cases hb : f.begun with
  | some g =>
    refine ⟨t, g.buffer, k.buffers, ?_, .refl l t, nofun⟩
    obtain ⟨i, buf⟩ := g
    obtain rfl : i = f.next := hown _ hb
    rw [ensureBegun_begun (hl ▸ hf) (by rw [hb]; rfl), ← hb, ← hf, setLane_of_eq hl]
  | none =>
    rcases ensureBegun_cases hl hf hb with ⟨b, hfree, e⟩ | ⟨-, e⟩
    · refine ⟨t, some b, _, e, .refl l t, fun _ a ha => ?_⟩
      have hab : b ≠ a := fun h => by rw [← h, hfree] at ha; cases ha
      exact ⟨fun h => hab (Option.some.inj h), by rw [buffer_set, if_neg hab]⟩
    · rw [count_setLane] at e
      exact ⟨_, none, k.buffers, e, (Aside.refl l t).count _ _ _, fun _ _ _ => ⟨nofun, rfl⟩⟩

/-- The lane once the slices of frame `f` before slice `n` are ready: `late` on its pass list, its buffers `B`. -/
def readiedLane (f : FrameInProgress) (n : Nat) (B : Vector SliceBuffer 2) (late : List PassEntry) (k : LaneCoder) :
    LaneCoder :=
  { k with
    frame := if sliceCount f.format ≤ n then none else some { f with next := n, begun := none }
    fill := if sliceCount f.format ≤ n then none else k.fill
    buffers := B
    pass := k.pass ++ late }

/-- From `t`, whose lane is `k` with frame `f`, to `v` the slices of the frame before slice `n` have become ready, and
nothing has been passed or coded. -/
def Readied (l : Lane) (f : FrameInProgress) (k : LaneCoder) (t : State) (n : Nat) (v : State) : Prop :=
  ∃ (u : State) (late : List PassEntry) (B : Vector SliceBuffer 2),
    v = u.setLane l (readiedLane f n B late k) ∧ Aside l t u ∧
    late.map (fun y => (y.tick, y.index)) = (List.range (n - f.next)).map (fun i => (f.tick, f.next + i)) ∧
    (∀ y ∈ late, LateEntry f B y) ∧
    (f.begun = none → ∀ b : Fin 2, k.buffers[b].state = .ready → B[b] = k.buffers[b])

/-- The engine of a lane is busy, and the front of its pass list is not done. -/
def Busy (k : LaneCoder) : Prop := k.engine.isSome = true ∧ ∃ e rest, k.pass = e :: rest ∧ e.done = none

theorem settleCoder_busy (hl : t.lanes[l] = k) (h : Busy k) : settleCoder l t = t := by
  obtain ⟨he, e, rest, hp, hd⟩ := h
  refine settleCoder_still (hl ▸ he) fun a ha => ?_
  rw [hl, hp] at ha
  obtain rfl : e = a := Option.some.inj ha
  exact hd

theorem Busy.readied (h : Busy k) (f : FrameInProgress) (n : Nat) (B : Vector SliceBuffer 2) (late : List PassEntry) :
    Busy (readiedLane f n B late k) := by
  obtain ⟨he, e, rest, hp, hd⟩ := h
  exact ⟨he, e, rest ++ late, by rw [readiedLane, hp]; rfl, hd⟩

theorem makeReady_busy (hl : t.lanes[l] = k) (hf : k.frame = some f) (hown : ∀ g, f.begun = some g → g.index = f.next)
    (hbusy : Busy k) : Readied l f k t (f.next + 1) (makeReady l t) := by
  obtain ⟨u, buf, B, e, haside, hkeep⟩ := ensureBegun_spec hl hf hown
  have hfinish : makeReady l t = u.setLane l
      (readiedLane f (f.next + 1) (readyBuffers f f.next { k with buffers := B } buf) [readyEntry f f.next buf] k) := by
    rw [makeReady, e, modLane_setLane, finishSlice_eq rfl rfl]
    exact settleCoder_busy (setLane_lane _ _ _) (hbusy.readied _ _ _ _)
  refine ⟨u, _, _, hfinish, haside, ?_, ?_, fun hnone b hb => ?_⟩
  · rw [Nat.add_sub_cancel_left]
    cases buf <;> rfl
  · intro y hy
    obtain rfl := List.mem_singleton.1 hy
    exact lateEntry_ready _ _ _ _
  · obtain ⟨hne, hB⟩ := hkeep hnone b hb
    cases buf with
    | none => exact hB
    | some a => rw [readyBuffers, buffer_set, if_neg fun h => hne (by rw [h])]; exact hB

/-! ## Slices become ready up to one -/

theorem readyUpTo_done {n m : Nat} (h : ∀ g, t.lanes[l].frame = some g → n ≤ g.next) : readyUpTo l n m t = t := by
  cases m with
  | zero => rfl
  | succ m =>
    unfold readyUpTo
    split
    · next g hg => exact if_neg (Nat.not_lt.2 (h g hg))
    · rfl

theorem readyUpTo_next {n m : Nat} (hf : t.lanes[l].frame = some f) (h : f.next < n) :
    readyUpTo l n (m + 1) t = readyUpTo l n m (makeReady l t) := by
  rw [readyUpTo, hf]
  exact if_pos h

theorem range_map_split (a : Word) (i d : Nat) : (List.range (d + 1)).map (fun j => (a, i + j)) =
    (a, i) :: (List.range d).map (fun j => (a, i + 1 + j)) := by
  rw [List.range_succ_eq_map, List.map_cons, List.map_map]
  refine congrArg₂ _ rfl (List.map_congr_left fun j _ => ?_)
  simp only [Function.comp_apply, Nat.succ_eq_add_one, Nat.add_assoc, Nat.add_comm 1]

/-- R26, R31: with a busy engine and a front entry not done the slices before one become ready, and only that. -/
theorem readyUpTo_busy (d : Nat) : ∀ {t : State} {k : LaneCoder} {f : FrameInProgress} {m : Nat}, t.lanes[l] = k →
    k.frame = some f → (∀ g, f.begun = some g → g.index = f.next) → Busy k → d < m →
    f.next + d + 1 ≤ sliceCount f.format →
    Readied l f k t (f.next + d + 1) (readyUpTo l (f.next + d + 1) m t) := by
  induction d with
  | zero =>
    intro t k f m hl hf hown hbusy hm hcount
    obtain ⟨m, rfl⟩ := Nat.exists_eq_succ_of_ne_zero (Nat.ne_of_gt hm)
    have hone := makeReady_busy hl hf hown hbusy
    rw [Nat.add_zero, readyUpTo_next (hl ▸ hf) (Nat.lt_succ_self _), readyUpTo_done]
    · exact hone
    · obtain ⟨u, late, B, e, -⟩ := hone
      intro g hg
      rw [e, setLane_lane, readiedLane] at hg
      split at hg
      · cases hg
      · obtain rfl := Option.some.inj hg
        exact Nat.le_refl _
  | succ d ih =>
    intro t k f m hl hf hown hbusy hm hcount
    obtain ⟨m, rfl⟩ := Nat.exists_eq_succ_of_ne_zero (Nat.ne_of_gt (Nat.zero_lt_of_lt hm))
    rw [readyUpTo_next (hl ▸ hf) (by omega)]
    obtain ⟨u, late, B, e, haside, hlate, hgood, hkeep⟩ := makeReady_busy hl hf hown hbusy
    have hlane : (makeReady l t).lanes[l] = readiedLane f (f.next + 1) B late k := by rw [e, setLane_lane]
    have hframe : (readiedLane f (f.next + 1) B late k).frame = some { f with next := f.next + 1, begun := none } :=
      if_neg (by omega)
    obtain ⟨u', late', B', e', haside', hlate', hgood', hkeep'⟩ :=
      ih (m := m) hlane hframe nofun (hbusy.readied _ _ _ _) (by omega) (by dsimp only; omega)
    have hindex : f.next + 1 + d + 1 = f.next + (d + 1) + 1 := by omega
    dsimp only at e' hlate' hgood' hkeep'
    rw [hindex] at e' hlate'
    refine ⟨u', late ++ late', B', ?_, ?_, ?_, ?_, ?_⟩
    · rw [e']
      simp only [readiedLane, List.append_assoc, Nat.not_le.2 (show f.next + 1 < sliceCount f.format by omega), if_false]
    · rw [e] at haside'
      exact haside.trans (((Aside.refl l u).setLane _).trans haside')
    · have h1 : f.next + 1 - f.next = 0 + 1 := by omega
      have hd : f.next + (d + 1) + 1 - f.next = d + 1 + 1 := by omega
      have hd' : f.next + (d + 1) + 1 - (f.next + 1) = d + 1 := by omega
      rw [h1, range_map_split] at hlate
      rw [hd'] at hlate'
      rw [List.map_append, hlate, hlate', hd, range_map_split _ _ (d + 1)]
      rfl
    · intro y hy
      rcases List.mem_append.1 hy with hy | hy
      · exact (hgood y hy).congr (hkeep' rfl)
      · exact hgood' y hy
    · intro hnone b hb
      have hB := hkeep hnone b hb
      exact (hkeep' rfl b (by rw [readiedLane, hB]; exact hb)).trans hB

end Sys2Proof.Machine
end

section
/-! SUPPORT. What the lane coder makes of a line by its state (R9, R21 to R23, R26, R29). -/

namespace Sys2Proof.Machine

variable {s t : State} {l : Lane} {c k : LaneCoder} {f : FrameInProgress} {x : Line}

/-! ## The parts of a line's taking -/

theorem settleStall_early (h : s.lanes[l].idle < 2) : settleStall l s = s := if_pos h

/-- A line taken before a stall is due, by a lane whose idle ticks it sets to 0. -/
theorem takeLine_eq (hl : s.lanes[l] = c) (hi : c.idle < 2) :
    takeLine l x s = maybeOff l (actOnLine l x (s.setLane l { c with idle := 0 })) := by
  rw [takeLine, settleStall_early (hl ▸ hi), modLane_eq, hl]

/-- A line taken that leaves a lane other than DRAINING, or one with a frame in progress or a slice to pass. -/
theorem takeLine_stay {k : LaneCoder} (hl : s.lanes[l] = c) (hi : c.idle < 2)
    (hact : actOnLine l x (s.setLane l { c with idle := 0 }) = t.setLane l k)
    (hk : k.state ≠ .draining ∨ k.frame.isSome = true ∨ k.pass ≠ []) : takeLine l x s = t.setLane l k := by
  rw [takeLine_eq hl hi, hact, maybeOff_stay (by rw [setLane_lane]; exact hk)]

theorem setPrev_of_ne_off (h : k.state ≠ .off) :
    setPrev l x (s.setLane l k) = s.setLane l { k with prev := some x.number } := by
  rw [setPrev, modLane_setLane, if_neg h]

theorem setPrev_eq (h : s.lanes[l].state ≠ .off) :
    setPrev l x s = s.setLane l { s.lanes[l] with prev := some x.number } := by
  rw [setPrev, modLane_eq, if_neg h]

theorem setPrev_off (h : s.lanes[l].state = .off) : setPrev l x s = s := by
  rw [setPrev, modLane_eq, if_pos h, setLane_self]

theorem actOnLine_acquire (h : s.lanes[l].state = .acquire) :
    actOnLine l x s = if beginsFrame s.lanes[l].prev x then firstLine l x s else setPrev l x s := by
  unfold actOnLine; dsimp only; rw [h]

theorem actOnLine_coding (h : s.lanes[l].state = .coding) :
    actOnLine l x s = if beginsFrame s.lanes[l].prev x then firstLine l x s else laterLine l x s := by
  unfold actOnLine; dsimp only; rw [h]

theorem actOnLine_stalled (h : s.lanes[l].state = .stalled) : actOnLine l x s =
    if x.start then firstLine l x (s.setLane l { s.lanes[l] with state := .acquire, keyReq := true, prev := none })
    else setPrev l x (s.setLane l { s.lanes[l] with state := .acquire, keyReq := true, prev := none }) := by
  unfold actOnLine; dsimp only; rw [h]; rfl

theorem actOnLine_draining (h : s.lanes[l].state = .draining) : actOnLine l x s =
    if beginsFrame s.lanes[l].prev x then setPrev l x (endFrame l s) else laterLine l x s := by
  unfold actOnLine; dsimp only; rw [h]

/-- A line that begins a frame, in ACQUIRE or CODING. -/
theorem actOnLine_first (h : s.lanes[l].state = .acquire ∨ s.lanes[l].state = .coding)
    (hb : beginsFrame s.lanes[l].prev x = true) : actOnLine l x s = firstLine l x s := by
  rcases h with h | h
  · rw [actOnLine_acquire h, if_pos hb]
  · rw [actOnLine_coding h, if_pos hb]

/-- A line that begins no frame, in CODING or DRAINING. -/
theorem actOnLine_later (h : s.lanes[l].state = .coding ∨ s.lanes[l].state = .draining)
    (hb : beginsFrame s.lanes[l].prev x = false) : actOnLine l x s = laterLine l x s := by
  rcases h with h | h
  · rw [actOnLine_coding h, if_neg (by rw [hb]; nofun)]
  · rw [actOnLine_draining h, if_neg (by rw [hb]; nofun)]

theorem endFrame_none (h : s.lanes[l].frame = none) : endFrame l s = s := by
  unfold endFrame
  rw [h]

theorem fits_iff {fmt : Format} : Machine.fits x fmt = true ↔ x.pixels.length = 2 * fmt.width := by
  simp [Machine.fits]

theorem firstLine_wrongLength (h : x.pixels.length ≠ 2 * (s.lanes[l].held.getD s.lanes[l].format).width) :
    firstLine l x s = s.count ctrLaneLength .laneLength l.val := by
  unfold firstLine
  exact if_neg (mt fits_iff.1 h)

theorem firstLine_fits (h : x.pixels.length = 2 * (s.lanes[l].held.getD s.lanes[l].format).width) :
    firstLine l x s = setPrev l x (frameStart l x (s.setLane l { s.lanes[l] with state := .coding })) := by
  unfold firstLine
  exact if_pos (fits_iff.2 h)

/-- R22, R23: a frame that starts in the tick of the previous lane frame start, with none in progress. -/
theorem frameStart_discarded (hl : s.lanes[l] = k) (hf : k.frame = none) (ht : k.lastTick = some s.ref.tick) :
    frameStart l x s = (s.setLane l { k with
      format := k.held.getD k.format, held := none
      frame := some ⟨k.held.getD k.format, s.ref.tick, s.ref.timecode, .discarded, none, none, 0, none⟩ }).count
        ctrDiscardedForRate .laneRate l.val := by
  unfold frameStart
  dsimp only
  rw [endFrame_none (hl ▸ hf), modLane_eq, hl, if_pos (by rw [setLane_lane]; exact ht), discardFrame, modLane_setLane]
  rfl

/-! ## Lines that begin no frame -/

theorem laterLine_none (hf : s.lanes[l].frame = none) : laterLine l x s = setPrev l x s := by
  unfold laterLine
  rw [hf]

theorem laterLine_idle (hf : s.lanes[l].frame = some f) (hd : f.disposition ≠ .stored) :
    laterLine l x s = setPrev l x s := by
  unfold laterLine
  rw [hf]
  exact if_neg hd

theorem laterLine_stored (hf : s.lanes[l].frame = some f) (hd : f.disposition = .stored) : laterLine l x s =
    if s.lanes[l].prev = some x.number then s.bump ctrOutOfOrder 1
    else if Machine.fits x f.format then setPrev l x (placeLine l f x s) else wrongLength l s := by
  unfold laterLine
  rw [hf]
  exact if_pos hd

/-- The lane with a first fill line: the line itself where there is none. -/
def withFill (x : Line) (k : LaneCoder) : LaneCoder := { k with fill := some (k.fill.getD x.pixels) }

theorem placeLine_eq (hl : s.lanes[l] = k) : placeLine l f x s =
    if f.format.lines ≤ x.number || x.number / 16 < f.next then s.setLane l (withFill x k)
    else
      let s2 := ensureBegun l (readyUpTo l (x.number / 16) (sliceCount f.format) (s.setLane l (withFill x k)))
      let s3 := s2.modLane l (putLine x)
      if s3.lanes[l].placing.isNone then readyAfter l x.number s3 else s3 := by
  have hfill : s.modLane l (fun c => { c with fill := match c.fill with | some p => some p | none => some x.pixels })
      = s.setLane l (withFill x k) := by
    rw [modLane_eq, hl]
    unfold withFill
    cases k.fill <;> rfl
  rw [← hfill]
  rfl

theorem placeLine_beyond (hl : s.lanes[l] = k) (h : f.format.lines ≤ x.number) :
    placeLine l f x s = s.setLane l (withFill x k) := by
  rw [placeLine_eq hl, if_pos (by simp [h])]

/-- R21, R26: the line is put into the slice that has begun; the last line of an overrun slice makes it ready. -/
def putReady (l : Lane) (x : Line) (s : State) : State :=
  let s1 := s.modLane l (putLine x)
  if s1.lanes[l].placing.isNone then readyAfter l x.number s1 else s1

theorem placeLine_within (hl : s.lanes[l] = k) (h : x.number < f.format.lines) (hn : f.next ≤ x.number / 16) :
    placeLine l f x s =
      putReady l x (ensureBegun l (readyUpTo l (x.number / 16) (sliceCount f.format) (s.setLane l (withFill x k)))) := by
  rw [placeLine_eq hl, if_neg (by simp; omega)]
  rfl

theorem putReady_placed {i : Nat} {b : Fin 2} (hf : k.frame = some f) (hb : f.begun = some ⟨i, some b⟩) :
    putReady l x (s.setLane l k) = s.setLane l { k with
      buffers := k.buffers.set b { k.buffers[b] with lines := k.buffers[b].lines ++ [(x.number, x.pixels)] }
      fill := some x.pixels, placing := some ⟨f.tick, x.number⟩ } := by
  unfold putReady
  dsimp only
  rw [modLane_setLane, putLine_placed hf hb, if_neg (by rw [setLane_lane]; nofun)]

theorem readyAfter_eq {n : Nat} (hf : s.lanes[l].frame = some f) :
    readyAfter l n s = if n = lastLineOf f.format f.next then makeReady l s else s := by
  unfold readyAfter
  rw [hf]

theorem putReady_overrun {i : Nat} (hf : k.frame = some f) (hb : f.begun = some ⟨i, none⟩)
    (hn : x.number ≠ lastLineOf f.format f.next) :
    putReady l x (s.setLane l k) = s.setLane l { k with fill := some x.pixels } := by
  unfold putReady
  dsimp only
  rw [modLane_setLane, putLine_overrun hf hb, readyAfter_eq (by rw [setLane_lane]; exact hf), if_neg hn, ite_self]

theorem putReady_overrun_last {i : Nat} (hf : k.frame = some f) (hb : f.begun = some ⟨i, none⟩)
    (hn : x.number = lastLineOf f.format f.next) (hp : k.placing = none) :
    putReady l x (s.setLane l k) = makeReady l (s.setLane l { k with fill := some x.pixels }) := by
  unfold putReady
  dsimp only
  rw [modLane_setLane, putLine_overrun hf hb, if_pos (by rw [setLane_lane]; exact congrArg Option.isNone hp),
    readyAfter_eq (by rw [setLane_lane]; exact hf), if_pos hn]

/-- A line of the slice that comes next: no slice before it is missing. -/
theorem placeLine_next (hl : s.lanes[l] = k) (hf : k.frame = some f) (h : x.number < f.format.lines)
    (hn : x.number / 16 = f.next) :
    placeLine l f x s = putReady l x (ensureBegun l (s.setLane l (withFill x k))) := by
  rw [placeLine_within hl h hn.ge, readyUpTo_done]
  intro g hg
  rw [setLane_lane] at hg
  obtain rfl := Option.some.inj (hf.symm.trans hg)
  exact hn.le

theorem placeLine_begun {buf : Option (Fin 2)} (hl : s.lanes[l] = k) (hf : k.frame = some f)
    (h : x.number < f.format.lines) (hn : x.number / 16 = f.next) (hb : f.begun = some ⟨f.next, buf⟩) :
    placeLine l f x s = putReady l x (s.setLane l (withFill x k)) := by
  rw [placeLine_next hl hf h hn, ensureBegun_begun (f := f) (by rw [setLane_lane]; exact hf) (by rw [hb]; rfl)]

end Sys2Proof.Machine
end

section
/-! SUPPORT. A line of a STORED frame that begins none (R21, R26, R27, R29, R30): the line beyond the format, the slice that
has begun, the slice that begins, the slices that come before it, and the last line of an overrun slice. -/

namespace Sys2Proof.Machine

variable {s : State} {l : Lane} {c k : LaneCoder} {f : FrameInProgress} {x : Line}

/-- The line is the lane's previous line, and the lane stays. -/
theorem maybeOff_setPrev (hoff : k.state ≠ .off)
    (hstay : k.state ≠ .draining ∨ k.frame.isSome = true ∨ k.pass ≠ []) :
    maybeOff l (setPrev l x (s.setLane l k)) = s.setLane l { k with prev := some x.number } := by
  rw [setPrev_of_ne_off hoff, maybeOff_stay (by rw [setLane_lane]; exact hstay)]

theorem ne_off_of_running (h : k.state = .coding ∨ k.state = .draining) : k.state ≠ .off := by
  rcases h with h | h <;> rw [h] <;> nofun

/-- A later line of a STORED frame, of the right length and no repeat, is placed. -/
theorem takeLine_placed (hl : s.lanes[l] = c) (hi : c.idle < 2) (hs : c.state = .coding ∨ c.state = .draining)
    (hb : beginsFrame c.prev x = false) (hf : c.frame = some f) (hd : f.disposition = .stored)
    (hp : c.prev ≠ some x.number) (hlen : x.pixels.length = 2 * f.format.width) :
    takeLine l x s = maybeOff l (setPrev l x (placeLine l f x (s.setLane l { c with idle := 0 }))) := by
  rw [takeLine_eq hl hi, actOnLine_later (by rw [setLane_lane]; exact hs) (by rw [setLane_lane]; exact hb),
    laterLine_stored (by rw [setLane_lane]; exact hf) hd, if_neg (by rw [setLane_lane]; exact hp),
    if_pos (fits_iff.2 hlen)]

/-- The line is the previous line of a lane whose frame goes on. -/
theorem maybeOff_setPrev_frame (hs : k.state = .coding ∨ k.state = .draining) (hf : k.frame = some f) :
    maybeOff l (setPrev l x (s.setLane l k)) = s.setLane l { k with prev := some x.number } :=
  maybeOff_setPrev (ne_off_of_running hs) (.inr (.inl (by rw [hf]; rfl)))

/-- R26: the first line of a slice goes into the buffer that the slice has claimed. -/
theorem putReady_claimed (b : Fin 2) : putReady l x (s.setLane l (claimed f b k)) = s.setLane l { k with
    fill := some x.pixels, placing := some ⟨f.tick, x.number⟩
    frame := some { f with begun := some ⟨f.next, some b⟩ }
    buffers := k.buffers.set b ⟨.filling, f.tick, f.next, [(x.number, x.pixels)], k.fill⟩ } := by
  rw [putReady_placed rfl rfl]
  simp only [claimed, buffer_set, if_true, Vector.set_set, List.nil_append]

/-- R29: the first line of a slice that finds no FREE buffer, and is not its last. -/
theorem putReady_overrun_begins (hn : x.number ≠ lastLineOf f.format f.next) :
    putReady l x ((s.setLane l (overrun f k)).count ctrSliceOverruns .laneOverrun l.val) =
      (s.setLane l { k with
        fill := some x.pixels, frame := some { f with begun := some ⟨f.next, none⟩ } }).count ctrSliceOverruns
          .laneOverrun l.val := by
  rw [count_setLane, putReady_overrun (f := { f with begun := some ⟨f.next, none⟩ }) rfl rfl hn, count_setLane]
  rfl

section
variable (hs : k.state = .coding ∨ k.state = .draining) (hf : k.frame = some f)
include hs hf

theorem place_beyond (h : f.format.lines ≤ x.number) (hfill : k.fill.isSome = true) :
    maybeOff l (setPrev l x (placeLine l f x (s.setLane l k))) = s.setLane l { k with prev := some x.number } := by
  have hsame : withFill x k = k := by
    obtain ⟨p, hp⟩ := Option.isSome_iff_exists.1 hfill
    unfold withFill
    rw [hp, Option.getD_some, ← hp]
  rw [placeLine_beyond (setLane_lane _ _ _) h, setLane_setLane, hsame, maybeOff_setPrev_frame hs hf]

variable (h : x.number < f.format.lines)
include h

section
variable (hn : x.number / 16 = f.next)
include hn

theorem place_begun {b : Fin 2} (hb : f.begun = some ⟨f.next, some b⟩) :
    maybeOff l (setPrev l x (placeLine l f x (s.setLane l k))) = s.setLane l { k with
      prev := some x.number, fill := some x.pixels, placing := some ⟨f.tick, x.number⟩
      buffers := k.buffers.set b { k.buffers[b] with lines := k.buffers[b].lines ++ [(x.number, x.pixels)] } } := by
  have hfill : (withFill x k).frame = some f := hf
  rw [placeLine_begun (setLane_lane _ _ _) hf h hn hb, setLane_setLane, putReady_placed hfill hb,
    maybeOff_setPrev_frame (f := f)]
  · rfl
  · exact hs
  · exact hf

/-- R26, R29: the first line of the next slice claims a FREE buffer for it, or begins an overrun slice. -/
theorem place_begins (hb : f.begun = none) :
    (∃ b : Fin 2, k.buffers[b].state = .free ∧
      maybeOff l (setPrev l x (placeLine l f x (s.setLane l k))) = s.setLane l { k with
        prev := some x.number, fill := some x.pixels, placing := some ⟨f.tick, x.number⟩
        frame := some { f with begun := some ⟨f.next, some b⟩ }
        buffers := k.buffers.set b
          ⟨.filling, f.tick, f.next, [(x.number, x.pixels)], some (k.fill.getD x.pixels)⟩ }) ∨
    ((∀ b : Fin 2, k.buffers[b].state ≠ .free) ∧ (x.number ≠ lastLineOf f.format f.next →
      maybeOff l (setPrev l x (placeLine l f x (s.setLane l k))) = (s.setLane l { k with
        prev := some x.number, fill := some x.pixels
        frame := some { f with begun := some ⟨f.next, none⟩ } }).count ctrSliceOverruns .laneOverrun l.val)) := by
  have hfill : (withFill x k).frame = some f := hf
  rw [placeLine_next (setLane_lane _ _ _) hf h hn, setLane_setLane]
  rcases ensureBegun_cases (setLane_lane s l (withFill x k)) hfill hb with ⟨b, hfree, e⟩ | ⟨hno, e⟩
  · refine .inl ⟨b, hfree, ?_⟩
    rw [e, setLane_setLane, putReady_claimed, maybeOff_setPrev_frame]
    · rfl
    · exact hs
    · rfl
  · refine .inr ⟨hno, fun hlast => ?_⟩
    rw [e, setLane_setLane, putReady_overrun_begins hlast, count_setLane,
      maybeOff_setPrev_frame, count_setLane]
    · rfl
    · exact hs
    · rfl

theorem place_overrun (hb : f.begun = some ⟨f.next, none⟩) (hlast : x.number ≠ lastLineOf f.format f.next) :
    maybeOff l (setPrev l x (placeLine l f x (s.setLane l k))) =
      s.setLane l { k with prev := some x.number, fill := some x.pixels } := by
  have hfill : (withFill x k).frame = some f := hf
  rw [placeLine_begun (setLane_lane _ _ _) hf h hn hb, setLane_setLane, putReady_overrun hfill hb hlast,
    maybeOff_setPrev_frame (f := f)]
  · rfl
  · exact hs
  · exact hf

end

end

end Sys2Proof.Machine
end

section
/-! SUPPORT. A line of a later slice of a STORED frame (R26, R27): the slices before it become ready first; and the last line
of an overrun slice (R29, R30). -/

namespace Sys2Proof.Machine

variable {s : State} {l : Lane} {c k : LaneCoder} {f : FrameInProgress} {x : Line}

theorem slice_lt_sliceCount {fmt : Format} {n : Nat} (h : n < fmt.lines) : n / 16 < sliceCount fmt := by
  unfold sliceCount ceilDiv
  omega

/-- R26: a slice before another one has all its sixteen lines. -/
theorem sliceLines_full {fmt : Format} {i n : Nat} (hn : n < fmt.lines) (hi : i < n / 16) :
    sliceLines fmt i = (List.range 16).map (fun j => 16 * i + j) := by
  have hlast : lastLineOf fmt i + 1 - 16 * i = 16 := by unfold lastLineOf; omega
  rw [sliceLines, hlast]

/-- What a line of a later slice leaves: the lane `j` with slice `n` begun in `mine`, the line placed where it has a
buffer. -/
def laterSlice (f : FrameInProgress) (n : Nat) (x : Line) (mine : Option (Fin 2)) (fill : List Byte) (j : LaneCoder) :
    LaneCoder :=
  { j with
    frame := some { f with next := n, begun := some ⟨n, mine⟩ }
    prev := some x.number, fill := some x.pixels
    placing := match mine with | some _ => some ⟨f.tick, x.number⟩ | none => j.placing
    buffers := match mine with
      | some b => j.buffers.set b ⟨.filling, f.tick, n, [(x.number, x.pixels)], some fill⟩
      | none => j.buffers }

/-- R26, R27, R29: a line of a later slice, where the engine is busy and the front of the pass list is not done. -/
theorem place_late_lane (hs : k.state = .coding ∨ k.state = .draining) (hf : k.frame = some f)
    (h : x.number < f.format.lines) (hn : f.next < x.number / 16)
    (hlast : x.number ≠ lastLineOf f.format (x.number / 16)) (hown : ∀ g, f.begun = some g → g.index = f.next)
    (hbusy : Busy k) : ∃ (u : State) (late : List PassEntry) (B : Vector SliceBuffer 2) (mine : Option (Fin 2)),
      maybeOff l (setPrev l x (placeLine l f x (s.setLane l k))) =
        u.setLane l (laterSlice f (x.number / 16) x mine (k.fill.getD x.pixels)
          { k with buffers := B, pass := k.pass ++ late }) ∧
      Aside l s u ∧
      late.map (fun y => (y.tick, y.index)) = (List.range (x.number / 16 - f.next)).map (fun i => (f.tick, f.next + i)) ∧
      (∀ y ∈ late, LateEntry f B y) ∧ (∀ b, mine = some b → B[b].state = .free) ∧
      (mine = none → (.laneOverrun, l.val) ∈ u.handler.flags) := by
  obtain ⟨d, hd⟩ : ∃ d, f.next + d + 1 = x.number / 16 := ⟨x.number / 16 - f.next - 1, by omega⟩
  have hcount := slice_lt_sliceCount h
  have hready := readyUpTo_busy (l := l) (t := s.setLane l (withFill x k)) (k := withFill x k) (f := f) d
    (m := sliceCount f.format) (setLane_lane _ _ _) hf hown hbusy (by omega) (by omega)
  rw [placeLine_within (setLane_lane _ _ _) h hn.le, setLane_setLane]
  rw [hd] at hready
  obtain ⟨u, late, B, e, haside, hlate, hgood, -⟩ := hready
  have haside' : Aside l s u := ((Aside.refl l s).setLane _).trans haside
  have hlane : readiedLane f (x.number / 16) B late (withFill x k) = { withFill x k with
      frame := some { f with next := x.number / 16, begun := none }, buffers := B, pass := k.pass ++ late } := by
    simp only [readiedLane, Nat.not_le.2 hcount, if_false]
    rfl
  rw [hlane] at e
  rw [e]
  rcases ensureBegun_cases (setLane_lane u l { withFill x k with
    frame := some { f with next := x.number / 16, begun := none }, buffers := B, pass := k.pass ++ late }) rfl rfl with
    ⟨b, hfree, e'⟩ | ⟨-, e'⟩
  · refine ⟨u, late, B, some b, ?_, haside', hlate, hgood, fun a ha => ?_, nofun⟩
    · rw [e', setLane_setLane, putReady_claimed, maybeOff_setPrev_frame]
      · rfl
      · exact hs
      · rfl
    · obtain rfl := Option.some.inj ha
      exact hfree
  · refine ⟨u.count ctrSliceOverruns .laneOverrun l.val, late, B, none, ?_, haside'.count _ _ _, hlate, hgood, nofun,
      fun _ => mem_flags_count _ _ _ _⟩
    rw [e', setLane_setLane, putReady_overrun_begins (by exact hlast), count_setLane, maybeOff_setPrev_frame]
    · rfl
    · exact hs
    · rfl

theorem late_index_lt {late : List PassEntry} {a : Word} {i n : Nat} (hi : i < n)
    (h : late.map (fun y => (y.tick, y.index)) = (List.range (n - i)).map (fun j => (a, i + j))) {y : PassEntry}
    (hy : y ∈ late) : y.index < n := by
  have hmem := List.mem_map_of_mem (f := fun y : PassEntry => (y.tick, y.index)) hy
  rw [h] at hmem
  obtain ⟨j, hj, heq⟩ := List.mem_map.1 hmem
  have hindex : i + j = y.index := congrArg Prod.snd heq
  have := List.mem_range.1 hj
  omega

/-- A READY buffer is not the one that slice `n` claims. -/
theorem laterSlice_buffer {B : Vector SliceBuffer 2} {mine : Option (Fin 2)} {n : Nat} {fill : List Byte} {b : Fin 2}
    {j : LaneCoder} (hj : j.buffers = B) (hmine : ∀ a, mine = some a → B[a].state = .free) (hb : B[b].state = .ready) :
    (laterSlice f n x mine fill j).buffers[b] = B[b] := by
  subst hj
  cases mine with
  | none => rfl
  | some a =>
    have hne : a ≠ b := fun h => by
      have hfree := hmine a rfl
      rw [h, hb] at hfree
      cases hfree
    exact (buffer_set _ _ _ _).trans (if_neg hne)

/-- R26, R27, R29: what the slices before the line's slice, and the slice itself, have become. -/
theorem place_late (hs : k.state = .coding ∨ k.state = .draining) (hf : k.frame = some f)
    (h : x.number < f.format.lines) (hn : f.next < x.number / 16)
    (hlast : x.number ≠ lastLineOf f.format (x.number / 16)) (hown : ∀ g, f.begun = some g → g.index = f.next)
    (hp : k.placing = none) (hbusy : Busy k) : ∃ (t : State) (late : List PassEntry) (mine : Option (Fin 2)),
      maybeOff l (setPrev l x (placeLine l f x (s.setLane l k))) = t ∧
      t.lanes[l].frame = some { f with next := x.number / 16, begun := some ⟨x.number / 16, mine⟩ } ∧
      t.lanes[l].prev = some x.number ∧ t.lanes[l].fill = some x.pixels ∧ t.lanes[l].idle = k.idle ∧
      t.lanes[l].pass = k.pass ++ late ∧
      late.map (fun y => (y.tick, y.index)) = (List.range (x.number / 16 - f.next)).map (fun i => (f.tick, f.next + i)) ∧
      (∀ y ∈ late, (∀ b, y.buffer = some b → y.done = none ∧ t.lanes[l].buffers[b].state = .ready ∧
          t.lanes[l].buffers[b].lines.map Prod.fst = (List.range 16).map (fun i => 16 * y.index + i)) ∧
        (y.buffer = none → y.done = some ⟨if f.kind = some .key then .blank else .repeated, none, 16, []⟩)) ∧
      (∀ b, mine = some b → t.lanes[l].placing = some ⟨f.tick, x.number⟩ ∧
        t.lanes[l].buffers[b] =
          ⟨.filling, f.tick, x.number / 16, [(x.number, x.pixels)], some (k.fill.getD x.pixels)⟩) ∧
      (mine = none → t.lanes[l].placing = none ∧ (.laneOverrun, l.val) ∈ t.handler.flags) ∧
      t.store = s.store ∧ (∀ m, m ≠ l → t.lanes[m] = s.lanes[m]) := by
  obtain ⟨u, late, B, mine, et, haside, hlate, hgood, hmine, hflag⟩ := place_late_lane hs hf h hn hlast hown hbusy
  refine ⟨_, late, mine, et, ?_⟩
  simp only [setLane_lane]
  refine ⟨rfl, rfl, rfl, rfl, rfl, hlate, fun y hy => ⟨fun b hb => ?_, fun hb => ?_⟩, fun b hb => ?_, fun hnone => ?_,
    haside.1, fun m hm => (setLane_other hm u _).trans (haside.2 m hm)⟩
  · obtain ⟨hdone, hready, hlines⟩ := (hgood y hy).1 b hb
    rw [laterSlice_buffer rfl hmine hready]
    exact ⟨hdone, hready, hlines.trans (sliceLines_full h (late_index_lt hn hlate hy))⟩
  · exact (hgood y hy).2 hb
  · subst hb
    exact ⟨rfl, (buffer_set _ _ _ _).trans (if_pos rfl)⟩
  · subst hnone
    exact ⟨hp, hflag rfl⟩

/-! ## The last line of an overrun slice (R29, R30) -/

/-- The lane once the last line of its overrun slice has been taken. -/
def overrunReady (f : FrameInProgress) (x : Line) (k : LaneCoder) : LaneCoder :=
  { k with
    fill := if f.next + 1 < sliceCount f.format then some x.pixels else none
    frame := if f.next + 1 < sliceCount f.format then some { f with next := f.next + 1, begun := none } else none
    pass := k.pass ++ [⟨f.tick, f.next, none, some ⟨if f.kind = some .key then .blank else .repeated, none, 16, []⟩⟩] }

theorem finishSlice_overrun (hf : k.frame = some f) (hb : f.begun = some ⟨f.next, none⟩) :
    finishSlice { k with fill := some x.pixels } = overrunReady f x k := by
  have hlt : ∀ {α : Type} (a b : α), (if sliceCount f.format ≤ f.next + 1 then a else b) =
      if f.next + 1 < sliceCount f.format then b else a := fun a b => by
    simp only [← Nat.not_lt, ite_not]
  rw [finishSlice_eq (k := { k with fill := some x.pixels }) hf hb]
  simp only [overrunReady, hlt, readyEntry, readyBuffers]

/-- R29: the overrun slice joins the pass list done, and the pass list and the engine act on it. -/
theorem place_overrun_last (hf : k.frame = some f) (h : x.number < f.format.lines) (hn : x.number / 16 = f.next)
    (hb : f.begun = some ⟨f.next, none⟩) (hlast : x.number = lastLineOf f.format f.next) (hp : k.placing = none) :
    placeLine l f x (s.setLane l k) = settleCoder l (s.setLane l (overrunReady f x k)) := by
  have hfill : (withFill x k).frame = some f := hf
  rw [placeLine_begun (setLane_lane _ _ _) hf h hn hb, setLane_setLane, putReady_overrun_last hfill hb hlast hp]
  refine (makeReady_begun (f := f) (setLane_lane _ _ _) ?_ hb).trans ?_
  · exact hf
  rw [setLane_setLane]
  exact congrArg (fun j => settleCoder l (s.setLane l j)) (finishSlice_overrun hf hb)

/-- R30: with a busy engine, or nothing before it on the pass list, the engine has nothing to do for the slice. -/
theorem settleCoder_overrun (h : k.engine.isSome = true ∨ k.pass = []) :
    settleCoder l (s.setLane l (overrunReady f x k)) = passReady l (s.setLane l (overrunReady f x k)) := by
  have hpassed := passed_passReady l (s.setLane l (overrunReady f x k))
  rw [settleCoder]
  rcases h with h | h
  · refine startEngine_busy 3 ?_
    rw [hpassed.engine, setLane_lane]
    exact h
  · have hlist : (s.setLane l (overrunReady f x k)).lanes[l].pass =
        [⟨f.tick, f.next, none, some ⟨if f.kind = some .key then .blank else .repeated, none, 16, []⟩⟩] := by
      rw [setLane_lane, overrunReady, h]
      rfl
    exact startEngine_empty 3 (passReady_one hlist rfl)

/-- R29, R30: with a busy engine and a front entry not done the overrun slice waits at the back of the pass list. -/
theorem place_overrun_waits (hs : k.state = .coding ∨ k.state = .draining) (hf : k.frame = some f)
    (h : x.number < f.format.lines) (hn : x.number / 16 = f.next) (hb : f.begun = some ⟨f.next, none⟩)
    (hlast : x.number = lastLineOf f.format f.next) (hmore : f.next + 1 < sliceCount f.format) (hp : k.placing = none)
    (hbusy : Busy k) : maybeOff l (setPrev l x (placeLine l f x (s.setLane l k))) = s.setLane l { k with
      prev := some x.number, fill := some x.pixels
      frame := some { f with next := f.next + 1, begun := none }
      pass := k.pass ++ [⟨f.tick, f.next, none,
        some ⟨if f.kind = some .key then .blank else .repeated, none, 16, []⟩⟩] } := by
  obtain ⟨heng, e, rest, hpass, hdone⟩ := hbusy
  have hstill : Busy (overrunReady f x k) := ⟨heng, e, rest ++ _, by rw [overrunReady, hpass]; rfl, hdone⟩
  rw [place_overrun_last hf h hn hb hlast hp, settleCoder_busy (setLane_lane _ _ _) hstill,
    maybeOff_setPrev_frame (f := { f with next := f.next + 1, begun := none })]
  · simp only [overrunReady, hmore, if_true]
  · exact hs
  · exact if_pos hmore

/-- R29, R30, R33: what is left once the overrun slice, alone on the pass list or behind a busy engine, has been weighed
for passing. -/
theorem place_overrun_ends {v : State} (hs : k.state = .coding ∨ k.state = .draining) (hf : k.frame = some f)
    (h : x.number < f.format.lines) (hn : x.number / 16 = f.next) (hb : f.begun = some ⟨f.next, none⟩)
    (hlast : x.number = lastLineOf f.format f.next) (hp : k.placing = none)
    (hstill : k.engine.isSome = true ∨ k.pass = []) (hv : passReady l (s.setLane l (overrunReady f x k)) = v) :
    ((k.state = .coding ∨ f.next + 1 < sliceCount f.format ∨ v.lanes[l].pass ≠ []) →
      maybeOff l (setPrev l x (placeLine l f x (s.setLane l k))) =
        v.setLane l { v.lanes[l] with prev := some x.number }) ∧
    (k.state = .draining → sliceCount f.format ≤ f.next + 1 → v.lanes[l].pass = [] → ∃ t : State,
      maybeOff l (setPrev l x (placeLine l f x (s.setLane l k))) = t ∧ t.lanes[l].state = .off ∧ t.store = v.store) := by
  have hcoded : Coded l (s.setLane l (overrunReady f x k)) v := hv ▸ (passed_passReady l _).coded
  have hstate : v.lanes[l].state = k.state := by rw [hcoded.state, setLane_lane]; rfl
  have hframe : v.lanes[l].frame = (overrunReady f x k).frame := by rw [hcoded.frame, setLane_lane]
  have hprev : setPrev l x v = v.setLane l { v.lanes[l] with prev := some x.number } :=
    setPrev_eq (by rw [hstate]; exact ne_off_of_running hs)
  rw [place_overrun_last hf h hn hb hlast hp, settleCoder_overrun hstill, hv, hprev]
  refine ⟨fun hstay => maybeOff_stay ?_, fun hd hend hpass => ⟨_, rfl, maybeOff_off_state ?_ ?_ ?_, maybeOff_store _ _⟩⟩
  · rw [setLane_lane]
    rcases hstay with hc | hmore | hpass
    · exact .inl (by rw [hstate, hc]; nofun)
    · exact .inr (.inl (by rw [hframe, overrunReady, if_pos hmore]; rfl))
    · exact .inr (.inr hpass)
  · rw [setLane_lane]
    exact hstate.trans hd
  · rw [setLane_lane]
    exact hframe.trans (if_neg (Nat.not_lt.2 hend))
  · rw [setLane_lane]
    exact hpass

end Sys2Proof.Machine
end

section
/-! SUPPORT. A line at an empty intake buffer, and the coder's taking of a line by the state of its lane and frame (R9, R21 to
R23, R26, R27, R29, R32). -/

namespace Sys2Proof.Machine

variable {s : State} {l : Lane} {c : LaneCoder} {f : FrameInProgress} {x : Line}

theorem setVideo_video (s : State) (l : Lane) (v : VideoIntake) : (s.setVideo l v).port.video[l] = v := by
  simp [State.setVideo]

theorem setVideo_setVideo (s : State) (l : Lane) (v w : VideoIntake) :
    (s.setVideo l v).setVideo l w = s.setVideo l w := by
  simp [State.setVideo, State.withPort]

theorem setVideo_lane (s : State) (l m : Lane) (v : VideoIntake) : (s.setVideo l v).lanes[m] = s.lanes[m] := rfl

/-- R9: the coder that places no line takes the front line of the intake buffer. -/
theorem pumpLines_take {rest : List Line} (n : Nat) (hp : s.lanes[l].placing = none)
    (hv : s.port.video[l].lines = x :: rest) :
    pumpLines l (n + 1) s = pumpLines l n (takeLine l x (s.setVideo l { s.port.video[l] with lines := rest })) := by
  rw [pumpLines, if_neg (by rw [hp]; nofun), hv]

/-- R9: a line at an empty intake buffer is taken at once when the coder is not placing. -/
theorem pump_only {v : VideoIntake} (hp : s.lanes[l].placing = none) (hv : v.lines = [x]) :
    pump l (s.setVideo l v) = takeLine l x (s.setVideo l { v with lines := [] }) := by
  unfold pump
  rw [setVideo_video, hv, List.length_singleton, pumpLines_take 0 (x := x) (rest := [])]
  · rw [setVideo_video, setVideo_setVideo]
    rfl
  · exact hp
  · rw [setVideo_video, hv]

theorem takeLine_at_once {p : LanePacket} {v : VideoIntake} {fmt : Format} (hoff : s.lanes[l].state ≠ .off)
    (horder : seqVerdict false s.port.video[l].seq p.seq = .inOrder) (hv : v = videoTaken l p s)
    (hfmt : fmt = applicableFormat s.lanes[l] v (lineOf p)) (hlen : videoLengthOk fmt p = true) (hempty : v.lines = [])
    (hp : s.lanes[l].placing = none) : videoPacket l p s = takeLine l (lineOf p) (s.setVideo l { v with
      prevHanded := some (lineOf p).number
      frameFormat := if beginsFrame v.prevHanded (lineOf p) then some fmt else v.frameFormat }) := by
  subst hv hfmt
  rw [videoPacket_taken hoff (by rw [horder]; nofun), horder]
  dsimp only
  rw [hlen, if_neg nofun, if_neg (by rw [hempty]; nofun)]
  simp only [seqCounts, setVideo_setVideo]
  rw [pump_only hp (by rw [handLine, hempty]; rfl)]
  simp only [handLine, ← hempty]

theorem beginsFrame_start (h : x.start = true) : beginsFrame none x = true := by simp [beginsFrame, h]

/-- R21: a line that begins a frame ends the frame in progress of a DRAINING lane. -/
theorem takeLine_draining (hl : s.lanes[l] = c) (hi : c.idle < 2) (hs : c.state = .draining)
    (hb : beginsFrame c.prev x = true) :
    takeLine l x s = maybeOff l (setPrev l x (endFrame l (s.setLane l { c with idle := 0 }))) := by
  rw [takeLine_eq hl hi, actOnLine_draining (by rw [setLane_lane]; exact hs), if_pos (by rw [setLane_lane]; exact hb)]

/-- R21: a line that begins no frame, with none in progress, or none that is STORED. -/
theorem takeLine_discarded (hl : s.lanes[l] = c) (hi : c.idle < 2) (hs : c.state = .coding ∨ c.state = .draining)
    (hb : beginsFrame c.prev x = false) (hf : c.frame = some f) (hd : f.disposition ≠ .stored) :
    takeLine l x s = s.setLane l { c with idle := 0, prev := some x.number } := by
  refine takeLine_stay hl hi ?_ (.inr (.inl (by rw [hf]; rfl)))
  rw [actOnLine_later (by rw [setLane_lane]; exact hs) (by rw [setLane_lane]; exact hb),
    laterLine_idle (by rw [setLane_lane]; exact hf) hd, setPrev_of_ne_off]
  exact ne_off_of_running hs

end Sys2Proof.Machine
end

section
/-! SUPPORT. The settlement of O14. -/

namespace Sys2Proof.Machine

/-- Settles O14: by the state of the lane, then by its frame in progress, then by the line's slice. -/
theorem linesAreTakenByState : Obligations.LinesAreTakenByState := by
  refine ⟨?_, fun s l x c fmt hl hi hfmt => ?_⟩
  · intro f p s l v x fmt hpower hlp hparse hlane hoff horder hv hx hfmt hlen hempty hplacing
    obtain rfl : x = lineOf p := hx
    rw [exec_frameReceived hpower, frameReceived_lane hlp, hparse, lanePacket_video hlane,
      takeLine_at_once hoff horder hv hfmt hlen hempty hplacing]
  · refine ⟨fun hs hb => ?_, fun hs hb => ?_, fun hs hb hlen => ?_, fun hs hb hlen hf ht => ?_, fun hs hb hf => ?_,
      fun hs hb => ?_, fun u hs hb hu => ?_, fun hs hb hf hpass => ?_, fun f hs hb hf => ⟨fun hd => ?_, fun hd hp => ?_,
        fun hd hp hlen => ?_, fun hd hp hlen => ?_⟩⟩
    · refine takeLine_stay hl hi ?_ (.inl (by rw [hs]; nofun))
      rw [actOnLine_acquire (by rw [setLane_lane]; exact hs), if_neg (by rw [setLane_lane, hb]; nofun), setPrev_of_ne_off]
      rw [hs]
      nofun
    · refine takeLine_stay hl hi ?_ (.inl nofun)
      rw [actOnLine_stalled (by rw [setLane_lane]; exact hs), if_neg (by rw [hb]; nofun), setLane_lane, setLane_setLane,
        setPrev_of_ne_off]
      nofun
    · rw [takeLine_eq hl hi, actOnLine_first (by rw [setLane_lane]; exact hs) (by rw [setLane_lane]; exact hb),
        firstLine_wrongLength (by rw [setLane_lane, ← hfmt]; exact hlen), count_setLane, maybeOff_stay]
      rw [setLane_lane]
      rcases hs with hs | hs <;> exact .inl (by rw [hs]; nofun)
    · rw [takeLine_eq hl hi, actOnLine_first (by rw [setLane_lane]; exact hs) (by rw [setLane_lane]; exact hb),
        firstLine_fits (by rw [setLane_lane, ← hfmt]; exact hlen), setLane_lane, setLane_setLane,
        frameStart_discarded (setLane_lane _ _ _), setLane_setLane, count_setLane, maybeOff_setPrev, ← count_setLane, hfmt]
      · rfl
      · nofun
      · exact .inl nofun
      · exact hf
      · exact ht
    · refine takeLine_stay hl hi ?_ (.inl (by rw [hs]; nofun))
      rw [actOnLine_later (by rw [setLane_lane]; exact .inl hs) (by rw [setLane_lane]; exact hb),
        laterLine_none (by rw [setLane_lane]; exact hf), setPrev_of_ne_off]
      rw [hs]
      nofun
    · have hstart : ∀ u : State, maybeOff l (actOnLine l x (u.setLane l { c with
          state := .acquire, keyReq := true, idle := 0, prev := none })) =
            maybeOff l (firstLine l x (u.setLane l { c with
              state := .acquire, keyReq := true, idle := 0, prev := none })) := fun u => by
        rw [actOnLine_first (by rw [setLane_lane]; exact .inl rfl) (by rw [setLane_lane]; exact beginsFrame_start hb)]
      rw [takeLine_eq hl hi, takeLine_eq (setLane_lane _ _ _) (by exact Nat.zero_lt_two), setLane_setLane, hstart,
        actOnLine_stalled (by rw [setLane_lane]; exact hs), if_pos hb, setLane_lane, setLane_setLane]
    · rw [takeLine_draining hl hi hs hb, hu]
      refine ⟨fun hoff => ?_, fun hoff hpass => ?_⟩
      · rw [setPrev_off hoff, maybeOff_stay]
        exact .inl (by rw [hoff]; nofun)
      · rw [setPrev_eq hoff, maybeOff_stay]
        rw [setLane_lane]
        exact .inr (.inr hpass)
    · rw [takeLine_draining hl hi hs hb, endFrame_none (by rw [setLane_lane]; exact hf), maybeOff_setPrev]
      · rw [hs]
        nofun
      · exact .inr (.inr hpass)
    · exact takeLine_discarded hl hi hs hb hf hd
    · rw [takeLine_eq hl hi, actOnLine_later (by rw [setLane_lane]; exact hs) (by rw [setLane_lane]; exact hb),
        laterLine_stored (by rw [setLane_lane]; exact hf) hd, if_pos (by rw [setLane_lane]; exact hp), bump_setLane,
        maybeOff_stay]
      rw [setLane_lane]
      exact .inr (.inl (by rw [hf]; rfl))
    · rw [takeLine_eq hl hi, actOnLine_later (by rw [setLane_lane]; exact hs) (by rw [setLane_lane]; exact hb),
        laterLine_stored (by rw [setLane_lane]; exact hf) hd, if_neg (by rw [setLane_lane]; exact hp),
        if_neg (mt fits_iff.1 hlen), wrongLength, count_setLane, maybeOff_stay]
      rw [setLane_lane]
      exact .inr (.inl (by rw [hf]; rfl))

    · rw [takeLine_placed hl hi hs hb hf hd hp hlen]
      refine ⟨fun h hfill => ?_, fun b h hn hbegun => ?_, fun h hn hbegun hfree => ?_, ?_,
        fun h hn hbegun hno hlast => ?_, fun h hn hbegun => ⟨fun hlast => ?_,
          fun e rest hlast hmore hplacing heng hpass hdone => ?_, fun v hlast hplacing hstill hv => ?_⟩⟩
      · exact place_beyond (k := { c with idle := 0 }) hs hf h hfill
      · exact place_begun (k := { c with idle := 0 }) hs hf h hn hbegun
      · rcases place_begins (k := { c with idle := 0 }) (s := s) (l := l) hs hf h hn hbegun with hclaim | ⟨hno, -⟩
        · exact hclaim
        · obtain ⟨b, hb⟩ := hfree
          exact absurd hb (hno b)
      · rintro k e rest h rfl hn hlast hown hplacing heng hpass hdone
        exact place_late (k := { c with idle := 0 }) hs hf h hn hlast hown hplacing ⟨heng, e, rest, hpass, hdone⟩
      · rcases place_begins (k := { c with idle := 0 }) (s := s) (l := l) hs hf h hn hbegun with ⟨b, hfree, -⟩ | ⟨-, hover⟩
        · exact absurd hfree (hno b)
        · exact hover hlast
      · exact place_overrun (k := { c with idle := 0 }) hs hf h hn hbegun hlast
      · exact place_overrun_waits (k := { c with idle := 0 }) hs hf h hn hbegun hlast hmore hplacing
          ⟨heng, e, rest, hpass, hdone⟩
      · exact place_overrun_ends (k := { c with idle := 0 }) hs hf h hn hbegun hlast hplacing hstill hv

end Sys2Proof.Machine
end

section
/-! SUPPORT. What the lane coder leaves of the port's video intake (R9, R11): every act of the store, the clip log, the
cursors and the coder leaves it, but for a lane that enters OFF, whose intake is emptied. -/

namespace Sys2Proof.Machine

variable {s t : State} {l : Lane}

theorem video_ite {c : Prop} [Decidable c] {a b : State} (ha : a.port.video = s.port.video)
    (hb : b.port.video = s.port.video) : (if c then a else b).port.video = s.port.video := by
  split
  · exact ha
  · exact hb

/-! ## The clip log and the transfer engines -/

@[simp] theorem video_markStale (id) (s : State) : (markStale id s).port.video = s.port.video := by
  rcases markStale_cases id s with ⟨-, e⟩ | ⟨-, -, e⟩ | ⟨-, -, e⟩ <;> rw [e] <;> rfl

@[simp] theorem video_mark (id) (s : State) : (mark id s).port.video = s.port.video := by simp [mark]

@[simp] theorem video_modClip (s : State) (id f) : (s.modClip id f).port.video = s.port.video := rfl

@[simp] theorem video_enterQueued (id) (s : State) : (enterQueued id s).port.video = s.port.video := by
  unfold enterQueued; split <;> simp

@[simp] theorem video_releasePins (id sel) (s : State) : (releasePins id sel s).port.video = s.port.video := by
  unfold releasePins; split <;> simp

@[simp] theorem video_transferDone (e id) (s : State) : (transferDone e id s).port.video = s.port.video := by
  unfold transferDone; dsimp only; split <;> split <;> simp

@[simp] theorem video_engineTake (e id) (s : State) : (engineTake e id s).port.video = s.port.video := by
  unfold engineTake; dsimp only; split <;> [skip; split] <;> simp

@[simp] theorem video_runEngines : ∀ (n : Nat) (s : State), (runEngines n s).port.video = s.port.video
  | 0, _ => rfl
  | n + 1, s => by
    unfold runEngines
    split
    · rfl
    · split <;> [skip; split] <;> simp [video_runEngines n]

@[simp] theorem video_serveEngines (s : State) : (serveEngines s).port.video = s.port.video := video_runEngines _ s

@[simp] theorem video_closeClip (id out c) (s : State) : (closeClip id out c s).port.video = s.port.video := by
  unfold closeClip; split <;> [skip; split] <;> simp

@[simp] theorem video_weighRecord (l r id) (s : State) : (weighRecord l r id s).port.video = s.port.video := by
  unfold weighRecord
  split
  · rfl
  · dsimp only
    split <;> [split; skip] <;> simp

theorem video_foldl {α : Type} {f : State → α → State} (hf : ∀ u a, (f u a).port.video = u.port.video) :
    ∀ (xs : List α) (s : State), (xs.foldl f s).port.video = s.port.video
  | [], _ => rfl
  | x :: xs, s => (video_foldl hf xs _).trans (hf s x)

@[simp] theorem video_newRecord (l k) (s : State) : (newRecord l k s).port.video = s.port.video := by
  unfold newRecord
  split
  · rfl
  · exact video_foldl (fun _ _ => video_weighRecord ..) _ s

/-! ## The cursors and the reclaim -/

@[simp] theorem video_seek (l) : ∀ (rs : List FrameRecord) (s : State), (seek l rs s).port.video = s.port.video
  | [], _ => rfl
  | r :: rs, s => by
    unfold seek
    split
    · exact video_seek l rs s
    · split
      · rw [video_seek l rs]; split <;> rfl
      · dsimp only
        split <;> rfl

@[simp] theorem video_seekOnward (l k) (s : State) : (seekOnward l k s).port.video = s.port.video := video_seek l _ s

@[simp] theorem video_weighNew (l k) (s : State) : (weighNew l k s).port.video = s.port.video := by
  unfold weighNew; split <;> simp

@[simp] theorem video_dropStale : ∀ (n : Nat) (s : State), (dropStale n s).port.video = s.port.video
  | 0, _ => rfl
  | n + 1, s => by
    unfold dropStale
    split
    · split
      · rw [video_dropStale n]; simp
      · rfl
    · rfl

@[simp] theorem video_settleRedispatch (s : State) : (settleRedispatch s).port.video = s.port.video :=
  video_dropStale _ s

@[simp] theorem video_leaveAbandoned (l) (s : State) : (leaveAbandoned l s).port.video = s.port.video := by
  unfold leaveAbandoned; split <;> [skip; split] <;> [skip; split; skip] <;> simp

@[simp] theorem video_enterAwaiting (l) (s : State) : (enterAwaiting l s).port.video = s.port.video := by
  simp [enterAwaiting]

@[simp] theorem video_awaitingOrders : ∀ (ls : List Lane) (s : State), (awaitingOrders ls s).port.video = s.port.video
  | [], _ => rfl
  | _ :: ls, s => (video_awaitingOrders ls _).trans (video_enterAwaiting _ s)

@[simp] theorem video_requestKey (s : State) (l : Lane) : (s.requestKey l).port.video = s.port.video := rfl

@[simp] theorem video_modLane (s : State) (l : Lane) (f) : (s.modLane l f).port.video = s.port.video := rfl

@[simp] theorem video_modRate (s : State) (l : Lane) (f) : (s.modRate l f).port.video = s.port.video := rfl

@[simp] theorem video_liveSkip (l n) (s : State) : (liveSkip l n s).port.video = s.port.video := by
  unfold liveSkip; split <;> [skip; split] <;> simp

@[simp] theorem video_reclaim : ∀ (n : Nat) (orders) (s : State), (reclaim n orders s).1.port.video = s.port.video
  | 0, _, _ => rfl
  | n + 1, orders, s => by
    unfold reclaim
    split
    · rfl
    · split
      · rfl
      · dsimp only
        split
        · rw [video_reclaim n]; simp [reclaimUnsent]
        · rw [video_reclaim n]; simp

@[simp] theorem video_makeReserve (s : State) : (makeReserve s).port.video = s.port.video := by
  unfold makeReserve; split <;> simp

/-! ## Passing, coding and slices -/

@[simp] theorem video_appendSlice (l k x) (s : State) : (appendSlice l k x s).port.video = s.port.video := by
  unfold appendSlice
  split
  · rfl
  · dsimp only
    split_ifs <;> simp

@[simp] theorem video_passOne (l e x) (s : State) : (passOne l e x s).port.video = s.port.video := by
  unfold passOne; dsimp only; split <;> [skip; split] <;> simp

@[simp] theorem video_passDone (l) : ∀ (n : Nat) (s : State), (passDone l n s).port.video = s.port.video
  | 0, _ => rfl
  | n + 1, s => by
    unfold passDone
    split
    · rw [video_passDone l n]; simp
    · rfl

@[simp] theorem video_passReady (l) (s : State) : (passReady l s).port.video = s.port.video := video_passDone l _ s

@[simp] theorem video_sliceEnds (l b x) (s : State) : (sliceEnds l b x s).port.video = s.port.video := by
  unfold sliceEnds
  split
  · rfl
  · split
    · rfl
    · have hcap : ∀ c : Bool, (if c then s.count ctrSlicesCapped .sliceCapped l.val else s).port.video = s.port.video :=
        fun c => video_ite (by simp) rfl
      simp only [video_passReady, video_modLane, video_modRate]
      exact video_ite ((State.count_port_video ..).trans (hcap _)) (hcap _)

@[simp] theorem video_beginCoding (l b) (s : State) : (beginCoding l b s).port.video = s.port.video := by
  unfold beginCoding
  split
  · rfl
  · split
    · rfl
    · dsimp only
      split
      · split <;> simp
      · simp

@[simp] theorem video_startEngine (l) : ∀ (n : Nat) (s : State), (startEngine l n s).port.video = s.port.video
  | 0, _ => rfl
  | n + 1, s => by
    unfold startEngine
    split
    · rfl
    · split <;> simp [video_startEngine l n]

@[simp] theorem video_ensureBegun (l) (s : State) : (ensureBegun l s).port.video = s.port.video := by
  unfold ensureBegun
  split
  · split
    · rfl
    · unfold beginSlice
      dsimp only
      split <;> simp
  · rfl

@[simp] theorem video_makeReady (l) (s : State) : (makeReady l s).port.video = s.port.video := by
  simp [makeReady, settleCoder]

@[simp] theorem video_readyUpTo (l k) : ∀ (n : Nat) (s : State), (readyUpTo l k n s).port.video = s.port.video
  | 0, _ => rfl
  | n + 1, s => by
    unfold readyUpTo
    split
    · split <;> simp [video_readyUpTo l k n]
    · rfl

@[simp] theorem video_readyAfter (l n) (s : State) : (readyAfter l n s).port.video = s.port.video := by
  unfold readyAfter; split <;> [split; skip] <;> simp

@[simp] theorem video_placeLine (l f x) (s : State) : (placeLine l f x s).port.video = s.port.video := by
  unfold placeLine
  dsimp only
  split_ifs <;> simp

@[simp] theorem video_offerFrame (l k tc kind n) (s : State) :
    (offerFrame l k tc kind n s).1.port.video = s.port.video := by
  unfold offerFrame
  dsimp only
  split_ifs <;> simp

@[simp] theorem video_workShares (l on) (s : State) : (workShares l on s).port.video = s.port.video := rfl

@[simp] theorem video_laneFrameStart (l) (s : State) : (laneFrameStart l s).port.video = s.port.video := by
  unfold laneFrameStart
  dsimp only
  split_ifs <;> simp

/-! ## A line is taken (R9, R11) -/

/-- From `s` to `t` the intake buffer of lane `l` stands, or has been emptied. -/
def Waiting (l : Lane) (s t : State) : Prop :=
  t.port.video[l].lines = s.port.video[l].lines ∨ t.port.video[l].lines = []

theorem waiting_of_video (h : t.port.video = s.port.video) : Waiting l s t := .inl (by rw [h])

theorem Waiting.trans {u : State} (h : Waiting l s t) (g : Waiting l t u) : Waiting l s u := by
  rcases g with g | g
  · rw [Waiting, g]; exact h
  · exact .inr g

theorem Waiting.video {u : State} (h : Waiting l s t) (hu : u.port.video = t.port.video) : Waiting l s u :=
  h.trans (waiting_of_video hu)

theorem waiting_maybeOff (l) (s : State) : Waiting l s (maybeOff l s) := by
  unfold maybeOff
  dsimp only
  split
  · refine .inr ?_
    rw [setVideo_video]
    rfl
  · exact .inl rfl

theorem waiting_endFrame (l) (s : State) : Waiting l s (endFrame l s) := by
  unfold endFrame
  split
  · exact .inl rfl
  · dsimp only
    refine Waiting.trans (waiting_of_video ?_) (waiting_maybeOff _ _)
    split <;> simp

theorem waiting_settleStall (l) (s : State) : Waiting l s (settleStall l s) := by
  unfold settleStall
  split
  · exact .inl rfl
  · split
    · exact (waiting_endFrame l s).video (by simp)
    · exact (waiting_of_video (by simp)).trans (waiting_endFrame l _)
    all_goals exact .inl rfl

theorem waiting_frameStart (l x) (s : State) : Waiting l s (frameStart l x s) := by
  refine (waiting_endFrame l s).video ?_
  unfold frameStart discardFrame
  dsimp only
  split
  · simp
  · split
    · split <;> simp
    · simp

theorem waiting_firstLine (l x) (s : State) : Waiting l s (firstLine l x s) := by
  unfold firstLine setPrev wrongLength
  dsimp only
  split
  · refine Waiting.video ?_ (video_modLane _ _ _)
    exact (waiting_of_video (video_modLane _ _ _)).trans (waiting_frameStart _ _ _)
  · exact waiting_of_video (by simp)

theorem waiting_laterLine (l x) (s : State) : Waiting l s (laterLine l x s) := by
  refine waiting_of_video ?_
  unfold laterLine setPrev wrongLength
  split
  · split_ifs <;> simp
  · simp

theorem waiting_actOnLine (l x) (s : State) : Waiting l s (actOnLine l x s) := by
  have hprev : ∀ u : State, (setPrev l x u).port.video = u.port.video := fun _ => rfl
  have hkey : ∀ f, Waiting l s (s.modLane l f) := fun f => waiting_of_video (video_modLane _ _ _)
  unfold actOnLine
  dsimp only
  split
  · exact .inl rfl
  · split
    · exact waiting_firstLine _ _ _
    · exact waiting_of_video (hprev _)
  · split
    · exact waiting_firstLine _ _ _
    · exact waiting_laterLine _ _ _
  · split
    · exact (hkey _).trans (waiting_firstLine _ _ _)
    · exact (hkey _).video (hprev _)
  · split
    · exact (waiting_endFrame _ _).video (hprev _)
    · exact waiting_laterLine _ _ _

/-- R9, R11: taking a line leaves the lines that wait behind it, or the lane has entered OFF and none wait. -/
theorem waiting_takeLine (l x) (s : State) : Waiting l s (takeLine l x s) := by
  refine Waiting.trans ?_ (waiting_maybeOff _ _)
  exact ((waiting_settleStall l s).video (video_modLane _ _ _)).trans (waiting_actOnLine _ _ _)

end Sys2Proof.Machine
end

section
/-! SUPPORT. The end of a frame in progress, the engine's start on a single READY slice, the pump, and what the label writer
leaves of the lanes (R9, R26 to R34). -/

namespace Sys2Proof.Machine

variable {s t u : State} {l : Lane} {c k : LaneCoder} {f : FrameInProgress} {x : Line}

/-! ## The lines taken one after another (R9) -/

theorem pumpLines_nil (n : Nat) (h : s.port.video[l].lines = []) : pumpLines l n s = s := by
  cases n with
  | zero => rfl
  | succ n =>
    unfold pumpLines
    split
    · rfl
    · rw [h]

theorem pump_nil (h : s.port.video[l].lines = []) : pump l s = s := pumpLines_nil _ h

/-- R9: the coder takes the front line, and goes on with what then waits. -/
theorem pump_take {rest : List Line} (hp : s.lanes[l].placing = none) (hv : s.port.video[l].lines = x :: rest) :
    pump l s = pump l (takeLine l x (s.setVideo l { s.port.video[l] with lines := rest })) := by
  have hwait := waiting_takeLine l x (s.setVideo l { s.port.video[l] with lines := rest })
  have hfront : pump l s =
      pumpLines l rest.length (takeLine l x (s.setVideo l { s.port.video[l] with lines := rest })) := by
    unfold pump
    rw [hv, List.length_cons, pumpLines_take _ hp hv]
  rw [hfront]
  rcases hwait with h | h
  · rw [setVideo_video] at h
    unfold pump
    rw [h]
  · rw [pumpLines_nil _ h, pump_nil h]

/-! ## The label writer leaves the lanes -/

theorem lanes_beginWrite (id q d cp bs) (s : State) : (beginWrite id q d cp bs s).lanes = s.lanes := by
  unfold beginWrite
  dsimp only
  split <;> rfl

theorem lanes_serveDirty : ∀ (n : Nat) (s : State), (serveDirty n s).lanes = s.lanes
  | 0, _ => rfl
  | n + 1, s => by
    unfold serveDirty
    split
    · rfl
    · split
      · rfl
      · split
        · rfl
        · split
          · exact lanes_beginWrite ..
          · split
            · exact lanes_serveDirty n _
            · exact lanes_beginWrite ..

theorem lanes_serveCompaction (s : State) : (serveCompaction s).lanes = s.lanes := by
  unfold serveCompaction
  split
  · split
    · rfl
    · split
      · exact lanes_beginWrite ..
      · split <;> rfl
  · rfl

theorem lanes_kick (s : State) : (kick s).lanes = s.lanes := by
  unfold kick serveErase
  split
  · have hserved := (lanes_serveDirty 514 (serveCompaction s)).trans (lanes_serveCompaction s)
    split
    · exact hserved
    · exact hserved
  · rfl

/-- R33, R11: a DRAINING lane with nothing left to pass is OFF, takes no further line, and stays OFF. -/
theorem kick_pump_off (hd : s.lanes[l].state = .draining) (hf : s.lanes[l].frame = none) (hp : s.lanes[l].pass = []) :
    (kick (pump l (maybeOff l s))).lanes[l].state = .off := by
  have hoff := maybeOff_off_state hd hf hp
  have hempty : (maybeOff l s).port.video[l].lines = [] := by
    rw [maybeOff_off hd hf hp, setVideo_video]
    rfl
  rw [pump_nil hempty]
  simpa only [lanes_kick] using hoff

/-! ## The engine begins on the only slice of the pass list (R28, R47) -/

theorem rate_unforced {r : RateContext} (h : r.force = false) : { r with force := false } = r := by
  cases r
  cases h
  rfl

theorem entryIn_single {b : Fin 2} {a : Word} {i : Nat} (hp : k.pass = [⟨a, i, some b, none⟩]) :
    entryIn k b = some ⟨a, i, some b, none⟩ := by simp [entryIn, hp]

theorem firstReady_single {b : Fin 2} {a : Word} {i : Nat} (hp : k.pass = [⟨a, i, some b, none⟩])
    (hb : k.buffers[b].state = .ready) : firstReady k = some b := by
  unfold firstReady
  rw [hp, List.find?_cons_of_pos]
  simpa using hb

/-- R28: a slice that is done at once leaves the pass list. -/
theorem sliceEnds_single {b : Fin 2} {a : Word} {i : Nat} {al : Allotment} {y : SliceResult}
    (hp : s.lanes[l].pass = [⟨a, i, some b, none⟩]) (ha : findAllotment s.lanes[l].rate a = some al) :
    (sliceEnds l b y s).lanes[l].pass = [] := by
  have hlane : ∀ (p : Bool) (u : State) (e : Fin 40) (v : EventKind), u.lanes = s.lanes →
      (if p then u.count e v l.val else u).lanes = s.lanes := fun p u e v hu => by
    split
    · exact hu
    · exact hu
  have hpass : ∀ u : State, u.lanes = s.lanes → u.lanes[l].pass = [⟨a, i, some b, none⟩] := fun u hu => by
    simpa only [hu] using hp
  unfold sliceEnds
  rw [entryIn_single hp]
  dsimp only
  rw [ha]
  refine passReady_one (y := if decide (y.kind = .coded) && capped al i y.size then ⟨.repeated, none, 16, []⟩ else y)
    (e := ⟨a, i, some b, some _⟩) ?_ rfl
  rw [modLane_eq, setLane_lane, State.modRate, modLane_eq, setLane_lane, markDone]
  dsimp only
  rw [hpass _ (hlane _ _ _ _ (hlane _ _ _ _ rfl))]
  simp

theorem beginCoding_eq {b : Fin 2} {a : Word} {i : Nat} {al : Allotment} (hp : s.lanes[l].pass = [⟨a, i, some b, none⟩])
    (ha : findAllotment s.lanes[l].rate a = some al) (hforce : s.lanes[l].rate.force = false) :
    beginCoding l b s = s.setLane l { s.lanes[l] with
      engine := some ⟨b, clampNat al.qmin al.qmax s.lanes[l].rate.q⟩
      buffers := s.lanes[l].buffers.set b { s.lanes[l].buffers[b] with state := .coding } } := by
  unfold beginCoding
  rw [entryIn_single hp]
  dsimp only
  rw [ha]
  dsimp only
  rw [if_neg (by rw [hforce]; nofun), modLane_modLane, rate_unforced hforce]

/-- R28: the engine that begins on the only slice of the pass list has no other to begin on. -/
theorem startEngine_beginCoding {b : Fin 2} {a : Word} {i : Nat} (n : Nat)
    (hp : s.lanes[l].pass = [⟨a, i, some b, none⟩]) (hb : s.lanes[l].buffers[b].state = .ready)
    (he : s.lanes[l].engine = none) : startEngine l n (beginCoding l b s) = beginCoding l b s := by
  cases ha : findAllotment s.lanes[l].rate a with
  | none =>
    have hsame : beginCoding l b s = s := by
      unfold beginCoding
      rw [entryIn_single hp]
      dsimp only
      rw [ha]
    rw [hsame]
    induction n with
    | zero => rfl
    | succ n ih =>
      rw [startEngine, if_neg (by rw [he]; nofun), firstReady_single hp hb]
      dsimp only
      rw [hsame]
      exact ih
  | some al =>
    unfold beginCoding
    rw [entryIn_single hp]
    dsimp only
    rw [ha]
    dsimp only
    split
    · split
      · refine startEngine_empty n (sliceEnds_single (a := a) (i := i) (al := al) ?_ ?_)
        · rw [modLane_eq, setLane_lane]
          exact hp
        · rw [modLane_eq, setLane_lane]
          exact ha
      · refine startEngine_busy n ?_
        rw [modLane_eq, setLane_lane]
        rfl
    · refine startEngine_busy n ?_
      rw [modLane_eq, setLane_lane]
      rfl

/-- R28: an idle engine begins on the only slice of the pass list. -/
theorem settleCoder_single {b : Fin 2} {a : Word} {i : Nat} (hp : s.lanes[l].pass = [⟨a, i, some b, none⟩])
    (hb : s.lanes[l].buffers[b].state = .ready) (he : s.lanes[l].engine = none) :
    settleCoder l s = beginCoding l b s := by
  have hwait : passReady l s = s := passReady_waiting fun e h => by
    rw [hp] at h
    obtain rfl := Option.some.inj h
    rfl
  rw [settleCoder, hwait, startEngine, if_neg (by rw [he]; nofun), firstReady_single hp hb]
  exact startEngine_beginCoding 2 hp hb he

/-! ## A frame in progress ends (R31) -/

/-- The next slice of the frame is ready, and the frame goes on to the slice after it or has ended. -/
theorem makeReady_frame (hf : t.lanes[l].frame = some f) (hown : ∀ g, f.begun = some g → g.index = f.next) :
    (makeReady l t).lanes[l].frame =
      if sliceCount f.format ≤ f.next + 1 then none else some { f with next := f.next + 1, begun := none } := by
  obtain ⟨u, buf, B, e, -, -⟩ := ensureBegun_spec rfl hf hown
  rw [makeReady, (coded_settleCoder l _).frame, e, modLane_setLane, finishSlice_eq rfl rfl, setLane_lane]

/-- R31: steps beyond those that the frame has slices left for change nothing. -/
theorem readyUpTo_fuel {n : Nat} : ∀ (d : Nat) {m : Nat} {t : State} {f : FrameInProgress}, t.lanes[l].frame = some f →
    (∀ g, f.begun = some g → g.index = f.next) → n ≤ f.next + d → n ≤ f.next + m →
    readyUpTo l n d t = readyUpTo l n m t := by
  intro d
  induction d with
  | zero =>
    intro m t f hf hown hd hm
    rw [readyUpTo_done, readyUpTo_done]
    all_goals
      intro g hg
      obtain rfl := Option.some.inj (hf.symm.trans hg)
      omega
  | succ d ih =>
    intro m t f hf hown hd hm
    by_cases hlt : f.next < n
    · obtain ⟨m, rfl⟩ : ∃ m', m = m' + 1 := ⟨m - 1, by omega⟩
      rw [readyUpTo_next hf hlt, readyUpTo_next hf hlt]
      have hframe := makeReady_frame hf hown
      split at hframe
      · rw [readyUpTo_done, readyUpTo_done]
        all_goals
          intro g hg
          rw [hframe] at hg
          cases hg
      · exact ih hframe nofun (by dsimp only; omega) (by dsimp only; omega)
    · rw [readyUpTo_done, readyUpTo_done]
      all_goals
        intro g hg
        obtain rfl := Option.some.inj (hf.symm.trans hg)
        omega

theorem endFrame_idle (hl : s.lanes[l] = c) (hf : c.frame = some f) (hd : f.disposition ≠ .stored) :
    endFrame l s = maybeOff l (s.setLane l { c with frame := none, fill := none }) := by
  unfold endFrame
  rw [hl, hf]
  dsimp only
  rw [if_neg hd, modLane_eq, hl]

theorem endFrame_stored (hf : s.lanes[l].frame = some f) (hd : f.disposition = .stored) : endFrame l s =
    maybeOff l ((readyUpTo l (sliceCount f.format) (sliceCount f.format) s).modLane l
      (fun c => { c with frame := none, fill := none })) := by
  unfold endFrame
  rw [hf]
  dsimp only
  rw [if_pos hd]

/-- R31: a frame's end goes on with the slice after the one that is ready. -/
theorem endFrame_makeReady (hf : s.lanes[l].frame = some f) (hd : f.disposition = .stored)
    (hown : ∀ g, f.begun = some g → g.index = f.next) (hmore : f.next + 1 < sliceCount f.format) :
    endFrame l s = endFrame l (makeReady l s) := by
  have hframe : (makeReady l s).lanes[l].frame = some { f with next := f.next + 1, begun := none } :=
    (makeReady_frame hf hown).trans (if_neg (Nat.not_le.2 hmore))
  rw [endFrame_stored hf hd, endFrame_stored hframe hd]
  obtain ⟨n, hn⟩ : ∃ n, sliceCount f.format = n + 1 := ⟨sliceCount f.format - 1, by omega⟩
  have hfuel : readyUpTo l (sliceCount f.format) n (makeReady l s) =
      readyUpTo l (sliceCount f.format) (sliceCount f.format) (makeReady l s) :=
    readyUpTo_fuel n hframe nofun (by dsimp only; omega) (by dsimp only; omega)
  have hstep : readyUpTo l (sliceCount f.format) (sliceCount f.format) s =
      readyUpTo l (sliceCount f.format) n (makeReady l s) := by
    rw [hn, readyUpTo_next hf (by omega)]
  rw [hstep, hfuel]

/-- R31: a frame's end begins the next slice where that has not begun. -/
theorem endFrame_ensureBegun (hf : s.lanes[l].frame = some f) (hd : f.disposition = .stored) (hb : f.begun = none)
    (hmore : f.next < sliceCount f.format) : endFrame l s = endFrame l (ensureBegun l s) := by
  obtain ⟨u, buf, B, e, -, -⟩ := ensureBegun_spec rfl hf (fun g hg => by rw [hb] at hg; cases hg)
  have hframe : (ensureBegun l s).lanes[l].frame = some { f with begun := some ⟨f.next, buf⟩ } := by
    rw [e, setLane_lane]
  rw [endFrame_stored hf hd, endFrame_stored hframe hd]
  obtain ⟨n, hn⟩ : ∃ n, sliceCount f.format = n + 1 := ⟨sliceCount f.format - 1, by omega⟩
  dsimp only
  rw [hn, readyUpTo_next hf (by omega), readyUpTo_next hframe (by dsimp only; omega), makeReady_ensureBegun hframe rfl]

/-- R31: the frame's last slice is ready, and the frame has ended. -/
theorem endFrame_last (hf : s.lanes[l].frame = some f) (hd : f.disposition = .stored)
    (hown : ∀ g, f.begun = some g → g.index = f.next) (hlast : f.next + 1 = sliceCount f.format)
    (hfill : (makeReady l s).lanes[l].fill = none) : endFrame l s = maybeOff l (makeReady l s) := by
  have hframe : (makeReady l s).lanes[l].frame = none :=
    (makeReady_frame hf hown).trans (if_pos hlast.ge)
  have hsame : (makeReady l s).modLane l (fun c => { c with frame := none, fill := none }) = makeReady l s := by
    rw [modLane_eq]
    refine setLane_of_eq ?_
    generalize (makeReady l s).lanes[l] = k at hframe hfill
    obtain ⟨⟩ := k
    cases hframe
    cases hfill
    rfl
  rw [endFrame_stored hf hd, ← hlast, readyUpTo_next hf (Nat.lt_succ_self _), readyUpTo_done, hsame]
  intro g hg
  rw [hframe] at hg
  cases hg

/-! ## Missing lines (R27) -/

/-- What fills a missing line: the nearest earlier line, or the first line taken. -/
def nearCopy (taken : List (Nat × List Byte)) (near : Option (List Byte)) : List Byte :=
  near.getD ((taken.head?.map Prod.snd).getD [])

/-- R27: the first line of a filled run is the line taken, or a copy; and it is the nearest line of the next one. -/
theorem fillLines_cons (taken : List (Nat × List Byte)) (n m : Nat) (near : Option (List Byte)) :
    ∃ (p : List Byte) (near' : Option (List Byte)),
      fillLines taken n (m + 1) near = (n, p) :: fillLines taken (n + 1) m near' ∧ nearCopy taken near' = p ∧
      (∀ x, taken.find? (fun y => decide (y.1 = n)) = some x → p = x.2) ∧
      (taken.find? (fun y => decide (y.1 = n)) = none → p = nearCopy taken near) := by
  cases hfind : taken.find? (fun y => decide (y.1 = n)) with
  | some x =>
    refine ⟨x.2, some x.2, by rw [fillLines.eq_def]; simp only [hfind], rfl, fun y hy => ?_, nofun⟩
    rw [Option.some.inj hy]
  | none =>
    refine ⟨nearCopy taken near, near, ?_, rfl, nofun, fun _ => rfl⟩
    rw [fillLines.eq_def]
    simp only [hfind]
    unfold nearCopy
    cases near with
    | some p => rfl
    | none => cases taken <;> rfl

/-- R27: each line of a filled slice is the line taken, or a copy of the line before it. -/
theorem fillLines_line (taken : List (Nat × List Byte)) (m : Nat) : ∀ (n k : Nat) (near : Option (List Byte)), k < m →
    ∃ p : List Byte, (fillLines taken n m near)[k]? = some (n + k, p) ∧
      (∀ x, taken.find? (fun y => decide (y.1 = n + k)) = some x → p = x.2) ∧
      (taken.find? (fun y => decide (y.1 = n + k)) = none →
        (1 ≤ k → (fillLines taken n m near)[k - 1]? = some (n + (k - 1), p)) ∧ (k = 0 → p = nearCopy taken near)) := by
  induction m with
  | zero => exact fun _ k _ h => absurd h (Nat.not_lt_zero k)
  | succ m ih =>
    intro n k near hk
    obtain ⟨p, near', hcons, hnear, hfound, hmissing⟩ := fillLines_cons taken n m near
    rw [hcons]
    cases k with
    | zero => exact ⟨p, rfl, hfound, fun hnone => ⟨nofun, fun _ => hmissing hnone⟩⟩
    | succ k =>
      obtain ⟨q, hq, hqfound, hqmissing⟩ := ih (n + 1) k near' (by omega)
      have hindex : n + 1 + k = n + (k + 1) := by omega
      rw [hindex] at hq hqfound hqmissing
      refine ⟨q, by rw [List.getElem?_cons_succ, hq], hqfound, fun hnone => ⟨fun _ => ?_, nofun⟩⟩
      obtain ⟨hprev, hfirst⟩ := hqmissing hnone
      cases k with
      | zero => rw [hfirst rfl, hnear]; rfl
      | succ k =>
        have hback : n + 1 + (k + 1 - 1) = n + (k + 1 + 1 - 1) := by omega
        rw [← hback, ← hprev (by omega)]
        rfl

/-- What fills the first line of a run where it is missing. -/
theorem nearCopy_cases (taken : List (Nat × List Byte)) (near : Option (List Byte)) :
    (∀ q, near = some q → nearCopy taken near = q) ∧
    (near = none → ∀ x, taken.head? = some x → nearCopy taken near = x.2) := by
  refine ⟨fun q hq => by rw [hq]; rfl, fun hnone x hx => ?_⟩
  rw [hnone, nearCopy, hx]
  rfl

end Sys2Proof.Machine
end

section
/-! SUPPORT. A line's placing ends (R9, R26, R28, R30), and the settlement of O16. -/

namespace Sys2Proof.Machine

variable {s u w : State} {l : Lane} {c : LaneCoder} {f : FrameInProgress} {p : Placing}

theorem exec_linePlaced (h : s.power = true) (l : Lane) : exec (.linePlaced l) s = .next (kick (linePlaced l s)) :=
  live_on (f := fun s => kick (linePlaced l s)) h

theorem exec_laneStall (h : s.power = true) (l : Lane) : exec (.laneStall l) s = .next (laneStall l s) :=
  live_on (f := laneStall l) h

/-! ## The placing of a line ends -/

theorem linePlaced_none (h : s.lanes[l].placing = none) : linePlaced l s = s := by
  unfold linePlaced
  rw [h]

/-- The line placed was of the frame in progress, and of the slice that has begun. -/
theorem linePlaced_current (hl : s.lanes[l] = c) (hp : c.placing = some p) (hf : c.frame = some f)
    (hd : f.disposition = .stored) (ht : f.tick = p.tick) (hn : p.number / 16 = f.next) :
    linePlaced l s = pump l (maybeOff l (readyAfter l p.number (s.setLane l { c with placing := none }))) := by
  unfold linePlaced
  rw [hl, hp]
  dsimp only
  rw [modLane_eq, hl, setLane_lane]
  dsimp only
  rw [hf]
  dsimp only
  rw [if_pos (by simp [hd, ht, hn])]

/-- The line placed was of no slice that goes on. -/
theorem linePlaced_aside (hl : s.lanes[l] = c) (hp : c.placing = some p)
    (h : ∀ f, c.frame = some f → f.disposition ≠ .stored ∨ f.tick ≠ p.tick ∨ p.number / 16 ≠ f.next) :
    linePlaced l s = pump l (maybeOff l (s.setLane l { c with placing := none })) := by
  unfold linePlaced
  rw [hl, hp]
  dsimp only
  rw [modLane_eq, hl, setLane_lane]
  dsimp only
  cases hf : c.frame with
  | none => rfl
  | some f =>
    dsimp only
    rw [if_neg]
    have := h f hf
    simp only [Bool.and_eq_true, decide_eq_true_eq]
    tauto

/-- The lane once the slice that has begun in `buf` is ready and its frame goes on, or has ended with it. -/
def readyLane (f : FrameInProgress) (buf : Option (Fin 2)) (more : Bool) (c : LaneCoder) : LaneCoder :=
  { c with
    frame := if more then some { f with next := f.next + 1, begun := none } else none
    fill := if more then c.fill else none
    buffers := readyBuffers f f.next c buf
    pass := c.pass ++ [readyEntry f f.next buf] }

theorem finishSlice_ready {buf : Option (Fin 2)} (hf : c.frame = some f) (hb : f.begun = some ⟨f.next, buf⟩) :
    finishSlice c = readyLane f buf (decide (f.next + 1 < sliceCount f.format)) c := by
  rw [finishSlice_eq hf hb, readyLane]
  by_cases hmore : f.next + 1 < sliceCount f.format
  · simp only [hmore, Nat.not_le.2 hmore, decide_true, if_true, if_false]
  · simp only [hmore, Nat.not_lt.1 hmore, decide_false, if_true, if_false, Bool.false_eq_true]

theorem makeReady_eq {buf : Option (Fin 2)} (hl : s.lanes[l] = c) (hf : c.frame = some f)
    (hb : f.begun = some ⟨f.next, buf⟩)
    (hu : u = s.setLane l (readyLane f buf (decide (f.next + 1 < sliceCount f.format)) c)) :
    makeReady l s = settleCoder l u := by
  rw [makeReady_begun hl hf hb, finishSlice_ready hf hb, ← hu]

theorem linePlaced_last {buf : Option (Fin 2)} (hl : s.lanes[l] = c) (hp : c.placing = some p) (hf : c.frame = some f)
    (hd : f.disposition = .stored) (ht : f.tick = p.tick) (hn : p.number / 16 = f.next)
    (hlast : p.number = lastLineOf f.format f.next) (hb : f.begun = some ⟨f.next, buf⟩)
    (hu : u = s.setLane l (readyLane f buf (decide (f.next + 1 < sliceCount f.format)) { c with placing := none })) :
    linePlaced l s = pump l (maybeOff l (settleCoder l u)) := by
  rw [linePlaced_current hl hp hf hd ht hn, readyAfter_eq (by rw [setLane_lane]; exact hf), if_pos hlast,
    makeReady_begun (setLane_lane _ _ _) (by exact hf) hb, setLane_setLane, finishSlice_ready (by exact hf) hb, ← hu]

/-! ## What the engine and the pass list make of the slice that is ready -/

section
variable {b : Fin 2} {more : Bool} (hl : u.lanes[l] = readyLane f (some b) more c)
include hl

/-- A busy engine and a front entry that is not done. -/
theorem settleCoder_readied_still (he : c.engine.isSome = true) (hp : ∀ e, c.pass.head? = some e → e.done = none) :
    settleCoder l u = u := by
  refine settleCoder_still (by rw [hl]; exact he) fun e h => ?_
  rw [hl, readyLane] at h
  cases hc : c.pass with
  | nil =>
    rw [hc] at h
    obtain rfl := Option.some.inj h
    rfl
  | cons a rest =>
    rw [hc] at h
    exact hp e (by rw [hc]; exact h)

variable (he : c.engine = none) (hp : c.pass = [])
include he hp

/-- An idle engine and an empty pass list. -/
theorem settleCoder_readied_idle : settleCoder l u = beginCoding l b u := by
  refine settleCoder_single (a := f.tick) (i := f.next) ?_ ?_ ?_
  · rw [hl, readyLane, hp]
    rfl
  · rw [hl, readyLane, readyBuffers, buffer_set, if_pos rfl]
  · rw [hl]
    exact he

theorem settleCoder_readied_coding {a : Allotment} (ha : findAllotment c.rate f.tick = some a)
    (hforce : c.rate.force = false) : settleCoder l u = u.setLane l { u.lanes[l] with
      engine := some ⟨b, clampNat a.qmin a.qmax c.rate.q⟩
      buffers := u.lanes[l].buffers.set b { u.lanes[l].buffers[b] with state := .coding } } := by
  have hrate : u.lanes[l].rate = c.rate := by rw [hl, readyLane]
  rw [settleCoder_readied_idle hl he hp, beginCoding_eq (a := f.tick) (i := f.next) (al := a), hrate]
  · rw [hl, readyLane, hp]
    rfl
  · rw [hrate]
    exact ha
  · rw [hrate]
    exact hforce

end

/-- The pass list is not empty once a slice has become ready and the engine codes it. -/
theorem readyLane_pass_ne_nil {buf : Option (Fin 2)} {more : Bool} : (readyLane f buf more c).pass ≠ [] := by
  simp [readyLane]

/-! ## Stalls (R32) -/

theorem settleStall_due (h : 2 ≤ s.lanes[l].idle) (hc : s.lanes[l].state = .coding) : settleStall l s =
    ((endFrame l s).modLane l (fun c =>
      { c with state := .stalled, idle := 0, rate := { c.rate with rate := 0 } })).count ctrLaneStalls
        .laneStalled l.val := by
  unfold settleStall
  rw [if_neg (Nat.not_lt.2 h), hc]

theorem settleStall_draining (hl : s.lanes[l] = c) (h : 2 ≤ c.idle) (hc : c.state = .draining) :
    settleStall l s = endFrame l (s.setLane l { c with idle := 0 }) := by
  have hend : settleStall l s = endFrame l (s.modLane l (fun c => { c with idle := 0 })) := by
    unfold settleStall
    rw [if_neg (by rw [hl]; exact Nat.not_lt.2 h), hl, hc]
  rw [hend, modLane_eq, hl]

/-- R32: at the second idle tick a CODING lane's frame ends, and the lane is STALLED. -/
theorem laneStall_coding (hl : s.lanes[l] = c) (h : 2 ≤ c.idle) (hc : c.state = .coding) (hu : endFrame l s = u) :
    laneStall l s = (u.setLane l { u.lanes[l] with
      state := .stalled, idle := 0, rate := { u.lanes[l].rate with rate := 0 } }).count ctrLaneStalls
        .laneStalled l.val := by
  rw [laneStall, settleStall_due (hl ▸ h) (hl ▸ hc), hu, modLane_eq, count_setLane, maybeOff_stay]
  rw [setLane_lane]
  exact .inl nofun

theorem coderOff_facts (c : LaneCoder) : (coderOff c).state = .off ∧ (coderOff c).format = c.held.getD c.format ∧
    (coderOff c).held = none ∧ (coderOff c).keyReq = false ∧ (coderOff c).idle = 0 ∧ (coderOff c).prev = none ∧
    (coderOff c).fill = none ∧ (coderOff c).frame = none ∧ (coderOff c).pass = [] ∧ (coderOff c).engine = none ∧
    (coderOff c).rate.rate = 0 ∧ (coderOff c).rate.allots = [] :=
  ⟨rfl, rfl, rfl, rfl, rfl, rfl, rfl, rfl, rfl, rfl, rfl, rfl⟩

/-- R32, R33, R34: a DRAINING lane with nothing to pass and no slice to become ready is OFF at the second idle tick. -/
theorem laneStall_off (hl : s.lanes[l] = c) (h : 2 ≤ c.idle) (hc : c.state = .draining) (hp : c.pass = [])
    (hf : c.frame = none ∨ ∃ f, c.frame = some f ∧ f.disposition ≠ .stored) : ∃ k : LaneCoder,
      laneStall l s = (s.setLane l (coderOff k)).setVideo l emptyVideo ∧ k.held.getD k.format = c.held.getD c.format := by
  have hoff : ∀ k : LaneCoder, k.state = .draining → k.frame = none → k.pass = [] →
      maybeOff l (s.setLane l k) = (s.setLane l (coderOff k)).setVideo l emptyVideo := fun k hs hf hp => by
    rw [maybeOff_off (by rw [setLane_lane]; exact hs) (by rw [setLane_lane]; exact hf) (by rw [setLane_lane]; exact hp),
      setLane_lane, setLane_setLane]
  rw [laneStall, settleStall_draining hl h hc]
  rcases hf with hf | ⟨f, hf, hd⟩
  · refine ⟨{ c with idle := 0 }, ?_, rfl⟩
    rw [endFrame_none (by rw [setLane_lane]; exact hf)]
    exact hoff { c with idle := 0 } hc hf hp
  · refine ⟨{ c with idle := 0, frame := none, fill := none }, ?_, rfl⟩
    have hframe : endFrame l (s.setLane l { c with idle := 0 }) =
        (s.setLane l (coderOff { c with idle := 0, frame := none, fill := none })).setVideo l emptyVideo :=
      (endFrame_idle (setLane_lane _ _ _) (by exact hf) hd).trans (by rw [setLane_setLane]; exact hoff _ hc rfl hp)
    rw [hframe, maybeOff_stay]
    refine .inl ?_
    rw [setVideo_lane, setLane_lane]
    nofun

end Sys2Proof.Machine
end

section
/-! SUPPORT. The settlement of O16. -/

namespace Sys2Proof.Machine

/-- Settles O16: the placing of a line by its slice, the pump, the stall by the lane's state, the end of a frame by what is
left of it, and the filled lines one by one. -/
theorem placedLinesAndStalls : Obligations.PlacedLinesAndStalls := by
  refine ⟨fun s l c hpower hl => ?_, fun s l c hl => ?_, fun taken near n m k hk => ?_⟩
  · rw [exec_linePlaced hpower, exec_laneStall hpower]
    refine ⟨fun p f hp hf hd ht hn => ⟨fun hlast => ?_, fun b u hlast hmore hb hu => ?_,
      fun b u w hlast hend hb hu hw => ?_⟩, fun p hp hstay h => ?_, fun hp => ?_, fun hp => ?_, fun hv => ?_,
      fun x rest hp hv => ?_, fun hi hs => ?_, fun hi hs hf => ?_, fun u hi hs hu => ?_, fun u hi hs hu => ⟨fun hpass => ?_,
        fun hf hpass => ?_⟩⟩
    · rw [linePlaced_current hl hp hf hd ht hn, readyAfter_eq (by rw [setLane_lane]; exact hf), if_neg hlast,
        maybeOff_stay]
      rw [setLane_lane]
      exact .inr (.inl (by rw [hf]; rfl))
    · have hmore' : decide (f.next + 1 < sliceCount f.format) = true := decide_eq_true hmore
      have hready := linePlaced_last (u := u) hl hp hf hd ht hn hlast hb (by rw [hmore']; exact hu)
      have hlane : u.lanes[l] = readyLane f (some b) true { c with placing := none } := by rw [hu, setLane_lane]; rfl
      have hstay : maybeOff l (settleCoder l u) = settleCoder l u :=
        maybeOff_stay (.inr (.inl (by rw [(coded_settleCoder l u).frame, hlane]; rfl)))
      rw [hready, hstay]
      refine ⟨rfl, fun he hhead => ?_, fun he hpass => ⟨?_, fun a ha hforce => ?_⟩⟩
      · rw [settleCoder_readied_still hlane he hhead]
      · rw [settleCoder_readied_idle hlane he hpass]
      · rw [settleCoder_readied_coding hlane he hpass ha hforce]
    · have hmore' : decide (f.next + 1 < sliceCount f.format) = false := decide_eq_false (by omega)
      have hready := linePlaced_last (u := u) hl hp hf hd ht hn hlast hb (by rw [hmore']; exact hu)
      have hlane : u.lanes[l] = readyLane f (some b) false { c with placing := none } := by rw [hu, setLane_lane]; rfl
      have hcoded : Coded l u w := hw ▸ coded_settleCoder l u
      have hstate : w.lanes[l].state = c.state := by rw [hcoded.state, hlane]; rfl
      have hframe : w.lanes[l].frame = none := by rw [hcoded.frame, hlane]; rfl
      have hu' : maybeOff l u = u := maybeOff_stay (.inr (.inr (by rw [hlane]; exact readyLane_pass_ne_nil)))
      replace hw : settleCoder l u = w := hw
      rw [hready]
      refine ⟨fun hstay => ?_, fun hdr hpass => ?_, fun he hhead => ?_, fun he hpass => ⟨?_, fun a ha hforce => ?_⟩⟩
      · rw [hw, maybeOff_stay]
        rcases hstay with h | h
        · exact .inl (by rw [hstate]; exact h)
        · exact .inr (.inr h)
      · rw [hw]
        exact ⟨_, rfl, kick_pump_off (hstate.trans hdr) hframe hpass⟩
      · rw [settleCoder_readied_still hlane he hhead, hu']
      · rw [← hw, settleCoder_readied_idle hlane he hpass]
      · rw [settleCoder_readied_coding hlane he hpass ha hforce, maybeOff_stay]
        rw [setLane_lane, hlane]
        exact .inr (.inr (readyLane_pass_ne_nil (more := false)))
    · rw [linePlaced_aside hl hp h, maybeOff_stay]
      rw [setLane_lane]
      exact hstay
    · rw [linePlaced_none (hl ▸ hp)]
    · exact pump_placing (hl ▸ hp)
    · exact pump_nil hv
    · exact pump_take (hl ▸ hp) hv
    · rw [laneStall, settleStall_early (hl ▸ hi), maybeOff_stay (.inl (hl ▸ hs))]
    · rw [laneStall_coding hl hi hs (endFrame_none (hl ▸ hf)), hl]
    · rw [laneStall_coding hl hi hs hu]
    · rw [laneStall, settleStall_draining hl hi hs, hu, maybeOff_stay (.inr (.inr hpass))]
    · obtain ⟨k, e, hformat⟩ := laneStall_off hl hi hs hpass hf
      obtain ⟨hstate, hform, hrest⟩ := coderOff_facts k
      exact ⟨coderOff k, congrArg _ e, hstate, hform.trans hformat, hrest⟩
  · refine ⟨fun hf => endFrame_none (hl ▸ hf), fun f hf hd hstay => ?_, fun f buf u hf hd hmore hb hu => ?_,
      fun f buf u w hf hd hend hb hu hw => ?_, fun f hf hd hmore hb => ?_, ?_⟩
    · rw [endFrame_idle hl hf hd, maybeOff_stay]
      rw [setLane_lane]
      exact hstay.imp_right .inr
    · have hmore' : decide (f.next + 1 < sliceCount f.format) = true := decide_eq_true hmore
      rw [endFrame_makeReady (hl ▸ hf) hd (fun g hg => by rw [hb] at hg; rw [← Option.some.inj hg]) hmore,
        makeReady_eq (u := u) hl hf hb (by rw [hmore', hu]; cases buf <;> rfl)]
      rfl
    · have hmore' : decide (f.next + 1 < sliceCount f.format) = false := decide_eq_false (by omega)
      have hready := makeReady_eq (u := u) hl hf hb (by rw [hmore', hu]; cases buf <;> rfl)
      have hlane : u.lanes[l] = readyLane f buf false c := by rw [hu, setLane_lane]; cases buf <;> rfl
      have hcoded : Coded l u w := hw ▸ coded_settleCoder l u
      replace hw : settleCoder l u = w := hw.symm
      rw [hw] at hready
      have hfill : (makeReady l s).lanes[l].fill = none := by rw [hready, hcoded.fill, hlane]; rfl
      have hstate : w.lanes[l].state = c.state := by rw [hcoded.state, hlane]; rfl
      rw [endFrame_last (hl ▸ hf) hd (fun g hg => by rw [hb] at hg; rw [← Option.some.inj hg]) hend hfill, hready]
      refine ⟨fun hstay => maybeOff_stay ?_, fun hdr hpass => ⟨_, rfl, maybeOff_off_state ?_ ?_ hpass, maybeOff_store _ _⟩⟩
      · rcases hstay with h | h
        · exact .inl (by rw [hstate]; exact h)
        · exact .inr (.inr h)
      · exact hstate.trans hdr
      · rw [hcoded.frame, hlane]
        rfl
    · have hens := ensureBegun_cases hl hf hb
      rw [endFrame_ensureBegun (hl ▸ hf) hd hb hmore]
      refine ⟨fun hfree => ?_, fun hno => ?_⟩
      · rcases hens with ⟨b, hb, e⟩ | ⟨hno, -⟩
        · exact ⟨b, hb, by rw [e]; rfl⟩
        · obtain ⟨b, hb⟩ := hfree
          exact absurd hb (hno b)
      · rcases hens with ⟨b, hb, -⟩ | ⟨-, e⟩
        · exact absurd hb (hno b)
        · rw [e]
          rfl
    · intro f e rest hf hd hmore hown heng hpass hdone
      obtain ⟨d, hcount⟩ : ∃ d, f.next + d + 1 = sliceCount f.format := ⟨sliceCount f.format - f.next - 1, by omega⟩
      have hready := readyUpTo_busy d (m := sliceCount f.format) hl hf hown ⟨heng, e, rest, hpass, hdone⟩ (by omega)
        (by omega)
      rw [hcount] at hready
      obtain ⟨u, late, B, e', haside, hlate, hgood, -⟩ := hready
      refine ⟨u.setLane l (readiedLane f (sliceCount f.format) B late c), late, ?_, ?_⟩
      · rw [endFrame_stored (hl ▸ hf) hd, e', modLane_setLane, maybeOff_stay]
        · simp only [readiedLane, Nat.le_refl, if_true]
        · rw [setLane_lane]
          exact .inr (.inr (by rw [readiedLane, hpass]; nofun))
      · rw [setLane_lane]
        exact ⟨if_pos (Nat.le_refl _), if_pos (Nat.le_refl _), rfl, rfl, rfl, rfl, haside.1,
          fun m hm => (setLane_other hm u _).trans (haside.2 m hm), hlate, fun y hy =>
            ⟨fun b hb => ⟨((hgood y hy).1 b hb).1, ((hgood y hy).1 b hb).2.1⟩, (hgood y hy).2⟩⟩
  · obtain ⟨p, hline, hfound, hmissing⟩ := fillLines_line taken m n k near hk
    refine ⟨p, length_fillLines taken m n near, hline, hfound, fun hnone => ?_⟩
    obtain ⟨hprev, hfirst⟩ := hmissing hnone
    refine ⟨hprev, fun hk => ?_⟩
    rw [hfirst hk]
    exact nearCopy_cases taken near

end Sys2Proof.Machine
end

section
/-! SUPPORT. What a latch, a rise and a count leave of the counters, the flags and the egress queue, read one counter and
one pair at a time (R16, R179, R181): only COUNTER_HALF and the notices lost counter (6) move besides what is named. -/

namespace Sys2Proof.Machine

/-! ## One counter -/

theorem add_counter_self (h : Handler) (c : Fin 40) (n : Nat) :
    (h.add c n).counters[c] = h.counters[c] + BitVec.ofNat 32 n := by simp [Handler.add]

theorem add_counter_other (h : Handler) {c d : Fin 40} (n : Nat) (hd : c ≠ d) :
    (h.add c n).counters[d] = h.counters[d] := by
  have hv : c.val ≠ d.val := fun e => hd (Fin.ext e)
  simp [Handler.add, hv]

theorem loseNotice_counter (h : Handler) {d : Fin 40} (hd : ctrNoticesLost ≠ d) :
    h.loseNotice.counters[d] = h.counters[d] := by
  unfold Handler.loseNotice
  dsimp only
  split
  · split
    · exact add_counter_other _ _ hd
    · exact (add_counter_other _ _ hd).trans (add_counter_other _ _ hd)
  · exact add_counter_other _ _ hd

theorem latchPair_counter (k : EventKind) (u : Nat) (tick : Word) (h : Handler) (p : FabricPort) {d : Fin 40}
    (hd : ctrNoticesLost ≠ d) : (latchPair k u tick h p).1.counters[d] = h.counters[d] := by
  rcases latchPair_cases k u tick h p with ⟨_, e⟩ | ⟨_, _, e⟩ | ⟨_, _, _, e⟩ | ⟨_, _, _, e⟩ <;> rw [e]
  · rfl
  · rfl
  · exact loseNotice_counter _ hd

/-- R16: with room behind it a latch loses no notice. -/
theorem latchPair_counters_room {k : EventKind} {u : Nat} {tick : Word} {h : Handler} {p : FabricPort}
    (hr : (latchPair k u tick h p).2.egress.length < 32) : (latchPair k u tick h p).1.counters = h.counters := by
  rcases latchPair_cases k u tick h p with ⟨_, e⟩ | ⟨_, _, e⟩ | ⟨_, _, _, e⟩ | ⟨_, _, hfull, e⟩ <;> rw [e] at hr ⊢
  · rfl
  · rfl
  · exact absurd hr (Nat.not_lt.mpr hfull)

theorem latchPair_egress_le (k : EventKind) (u : Nat) (tick : Word) (h : Handler) (p : FabricPort) :
    p.egress.length ≤ (latchPair k u tick h p).2.egress.length := by
  rcases latchPair_cases k u tick h p with ⟨_, e⟩ | ⟨_, _, e⟩ | ⟨_, _, _, e⟩ | ⟨_, _, _, e⟩ <;> simp [e]

/-! ## One pair -/

theorem mem_flags_join_iff {h : Handler} {k : EventKind} {u : Nat} {x : EventKind × Nat} :
    x ∈ (h.join k u).flags ↔ x = (k, u) ∨ x ∈ h.flags := mem_insertSorted

theorem mem_flags_loseNotice_iff {h : Handler} {x : EventKind × Nat} (hx : x.1 ≠ .counterHalf) :
    x ∈ h.loseNotice.flags ↔ x ∈ h.flags := by
  have hne : ∀ u, x ≠ (.counterHalf, u) := fun u e => hx (congrArg Prod.fst e)
  unfold Handler.loseNotice
  dsimp only
  (repeat' split) <;> simp [mem_flags_join_iff, hne]

theorem mem_flags_latchPair_iff {k : EventKind} {u : Nat} {tick : Word} {h : Handler} {p : FabricPort}
    {x : EventKind × Nat} (hx : x.1 ≠ .counterHalf) :
    x ∈ (latchPair k u tick h p).1.flags ↔ x = (k, u) ∨ x ∈ h.flags := by
  rcases latchPair_cases k u tick h p with ⟨hm, e⟩ | ⟨_, _, e⟩ | ⟨_, _, _, e⟩ | ⟨_, _, _, e⟩ <;> rw [e]
  · exact ⟨Or.inr, fun hor => hor.elim (fun hxe => hxe ▸ List.contains_iff_mem.mp hm) id⟩
  · exact mem_flags_join_iff
  · exact mem_flags_join_iff
  · exact (mem_flags_loseNotice_iff hx).trans mem_flags_join_iff

/-! ## On the machine -/

theorem latch_counter (s : State) (k : EventKind) (u : Nat) {d : Fin 40} (hd : ctrNoticesLost ≠ d) :
    (s.latch k u).handler.counters[d] = s.handler.counters[d] := latchPair_counter _ _ _ _ _ hd

theorem latch_counters_room {s : State} {k : EventKind} {u : Nat} (hr : (s.latch k u).port.egress.length < 32) :
    (s.latch k u).handler.counters = s.handler.counters := latchPair_counters_room hr

theorem latch_egress_le (s : State) (k : EventKind) (u : Nat) :
    s.port.egress.length ≤ (s.latch k u).port.egress.length := latchPair_egress_le _ _ _ _ _

theorem mem_flags_latch_iff {s : State} {k : EventKind} {u : Nat} {x : EventKind × Nat} (hx : x.1 ≠ .counterHalf) :
    x ∈ (s.latch k u).handler.flags ↔ x = (k, u) ∨ x ∈ s.handler.flags := mem_flags_latchPair_iff hx

/-- R181: a rise is the addition, with COUNTER_HALF latched where the counter passes 2^31. -/
theorem bump_eq (s : State) (c : Fin 40) (n : Nat) : s.bump c n =
    if s.handler.crosses c n then (s.withHandler (s.handler.add c n)).latch .counterHalf c.val
    else s.withHandler (s.handler.add c n) := by
  unfold State.bump
  rw [bumpPair_eq]
  split <;> rfl

theorem bump_counter_self (s : State) {c : Fin 40} (n : Nat) (hc : ctrNoticesLost ≠ c) :
    (s.bump c n).handler.counters[c] = s.handler.counters[c] + BitVec.ofNat 32 n := by
  rw [bump_eq]
  split
  · exact (latch_counter _ _ _ hc).trans (add_counter_self _ _ _)
  · exact add_counter_self _ _ _

theorem bump_counter_other (s : State) {c d : Fin 40} (n : Nat) (hd : ctrNoticesLost ≠ d) (hcd : c ≠ d) :
    (s.bump c n).handler.counters[d] = s.handler.counters[d] := by
  rw [bump_eq]
  split
  · exact (latch_counter _ _ _ hd).trans (add_counter_other _ _ hcd)
  · exact add_counter_other _ _ hcd

/-- R16: with room behind it a rise is the addition alone. -/
theorem bump_counters_room {s : State} {c : Fin 40} {n : Nat} (hr : (s.bump c n).port.egress.length < 32) :
    (s.bump c n).handler.counters = (s.handler.add c n).counters := by
  revert hr
  rw [bump_eq]
  split
  · exact fun hr => latch_counters_room hr
  · exact fun _ => rfl

theorem bump_egress_le (s : State) (c : Fin 40) (n : Nat) :
    s.port.egress.length ≤ (s.bump c n).port.egress.length := by
  rw [bump_eq]
  split
  · exact latch_egress_le (s.withHandler (s.handler.add c n)) _ _
  · exact le_refl _

theorem mem_flags_bump_iff {s : State} {c : Fin 40} {n : Nat} {x : EventKind × Nat} (hx : x.1 ≠ .counterHalf) :
    x ∈ (s.bump c n).handler.flags ↔ x ∈ s.handler.flags := by
  have hne : x ≠ (.counterHalf, c.val) := fun e => hx (congrArg Prod.fst e)
  rw [bump_eq]
  split
  · exact (mem_flags_latch_iff hx).trans (or_iff_right hne)
  · exact Iff.rfl

theorem count_counter_self (s : State) {c : Fin 40} (k : EventKind) (u : Nat) (hc : ctrNoticesLost ≠ c) :
    (s.count c k u).handler.counters[c] = s.handler.counters[c] + 1 :=
  (latch_counter _ _ _ hc).trans (bump_counter_self _ _ hc)

theorem count_counter_other (s : State) {c d : Fin 40} (k : EventKind) (u : Nat) (hd : ctrNoticesLost ≠ d)
    (hcd : c ≠ d) : (s.count c k u).handler.counters[d] = s.handler.counters[d] :=
  (latch_counter _ _ _ hd).trans (bump_counter_other _ _ hd hcd)

theorem count_counters_room {s : State} {c : Fin 40} {k : EventKind} {u : Nat}
    (hr : (s.count c k u).port.egress.length < 32) :
    (s.count c k u).handler.counters = (s.handler.add c 1).counters :=
  (latch_counters_room hr).trans (bump_counters_room ((latch_egress_le _ _ _).trans_lt hr))

theorem count_egress_le (s : State) (c : Fin 40) (k : EventKind) (u : Nat) :
    s.port.egress.length ≤ (s.count c k u).port.egress.length :=
  (bump_egress_le _ _ _).trans (latch_egress_le _ _ _)

theorem mem_flags_count_iff {s : State} {c : Fin 40} {k : EventKind} {u : Nat} {x : EventKind × Nat}
    (hx : x.1 ≠ .counterHalf) :
    x ∈ (s.count c k u).handler.flags ↔ x = (k, u) ∨ x ∈ s.handler.flags :=
  (mem_flags_latch_iff hx).trans (or_congr Iff.rfl (mem_flags_bump_iff hx))

end Sys2Proof.Machine
end

section
/-! SUPPORT. The return receiver at a block request (R110, R111): its playout reads the receiver and the paths alone, and
leaves the other blocks as they were, but for the gaps and underruns it reports. -/

namespace Sys2Proof.Machine

/-! ## What the playout reads -/

/-- The return receiver and the paths of two machines agree. -/
structure SameReturn (s t : State) : Prop where
  ret : s.ret = t.ret
  paths : s.paths = t.paths

theorem placeHolds_same {s t : State} (ms : Nat) (h : SameReturn s t) :
    SameReturn (placeHolds ms s) (placeHolds ms t) :=
  ⟨h.ret, by simp only [placeHolds, State.withPaths_paths, h.paths]⟩

theorem withRet_same {s t : State} (r : ReturnReceiver) (h : SameReturn s t) :
    SameReturn (s.withRet r) (t.withRet r) := ⟨rfl, h.paths⟩

theorem lowMark_same {s t : State} (h : SameReturn s t) : SameReturn (lowMark s) (lowMark t) := by
  unfold lowMark
  rw [h.ret]
  split
  · split
    · have hp := placeHolds_same 0 h
      exact ⟨by simp only [State.withRet_ret, hp.ret], hp.paths⟩
    · exact ⟨by simp only [State.withRet_ret, h.ret], h.paths⟩
  · exact h

theorem takeFrontCell_same {s t : State} (x : RetCell) (rest : List RetCell) (h : SameReturn s t) :
    SameReturn (takeFrontCell x rest s) (takeFrontCell x rest t) := by
  unfold takeFrontCell
  rw [h.ret]
  exact lowMark_same (withRet_same _ h)

theorem needCell_same {s t : State} (h : SameReturn s t) : SameReturn (needCell s) (needCell t) := by
  unfold needCell
  rw [h.ret]
  split
  · exact ⟨rfl, h.paths⟩
  · split
    · exact takeFrontCell_same _ _ h
    · split
      · exact takeFrontCell_same _ _ h
      · exact ⟨rfl, h.paths⟩

theorem enterPlaying_same {s t : State} (h : SameReturn s t) : SameReturn (enterPlaying s) (enterPlaying t) := by
  unfold enterPlaying
  rw [h.ret]
  split
  · exact h
  · simp only [State.withRet_ret]
    split
    · exact takeFrontCell_same _ _ (withRet_same _ h)
    · exact withRet_same _ h

/-! ## One sample frame -/

/-- R110: the receiver just before it hands a sample frame. -/
def fed (s : State) : State := if s.ret.playing && usedUp s.ret then needCell s else s

/-- R110: the receiver with a current cell after it has handed one frame of it. -/
def handed (x : PlayCell) (s : State) : State :=
  s.withRet { s.ret with current := some ⟨x.samples.drop s.ret.channels, x.pos + 1⟩ }

theorem handFrames_cell {n : Nat} {s : State} {acc : List (List Sample)} {x : PlayCell}
    (hp : (fed s).ret.playing = true) (hx : (fed s).ret.current = some x) :
    handFrames (n + 1) s acc
      = handFrames n (handed x (fed s)) (fourOf (x.samples.take (fed s).ret.channels) :: acc) := by
  show (match (fed s).ret.playing, (fed s).ret.current with | true, some x => _ | _, _ => _) = _
  rw [hp, hx]
  rfl

theorem handFrames_silence {n : Nat} {s : State} {acc : List (List Sample)}
    (h : (fed s).ret.playing = false ∨ (fed s).ret.current = none) :
    handFrames (n + 1) s acc = handFrames n (fed s) ([0, 0, 0, 0] :: acc) := by
  show (match (fed s).ret.playing, (fed s).ret.current with | true, some x => _ | _, _ => _) = _
  cases hp : (fed s).ret.playing with
  | false => cases hx : (fed s).ret.current <;> rfl
  | true =>
    rw [h.resolve_left (by simp [hp])]
    rfl

theorem handFrames_cases (n : Nat) (s : State) (acc : List (List Sample)) :
    (∃ x, (fed s).ret.playing = true ∧ (fed s).ret.current = some x ∧ handFrames (n + 1) s acc
      = handFrames n (handed x (fed s)) (fourOf (x.samples.take (fed s).ret.channels) :: acc)) ∨
    (((fed s).ret.playing = false ∨ (fed s).ret.current = none) ∧
      handFrames (n + 1) s acc = handFrames n (fed s) ([0, 0, 0, 0] :: acc)) := by
  cases hp : (fed s).ret.playing with
  | false => exact .inr ⟨.inl rfl, handFrames_silence (.inl hp)⟩
  | true =>
    cases hx : (fed s).ret.current with
    | none => exact .inr ⟨.inr rfl, handFrames_silence (.inr hx)⟩
    | some x => exact .inl ⟨x, rfl, rfl, handFrames_cell hp hx⟩

theorem fed_same {s t : State} (h : SameReturn s t) : SameReturn (fed s) (fed t) := by
  unfold fed
  rw [h.ret]
  split
  · exact needCell_same h
  · exact h

theorem handFrames_same : ∀ (n : Nat) {s t : State} (acc : List (List Sample)), SameReturn s t →
    SameReturn (handFrames n s acc).1 (handFrames n t acc).1 ∧ (handFrames n s acc).2 = (handFrames n t acc).2
  | 0, _, _, _, h => ⟨h, rfl⟩
  | n + 1, s, t, acc, h => by
    have hf := fed_same h
    rcases handFrames_cases n s acc with ⟨x, hp, hx, e⟩ | ⟨hn, e⟩
    · rw [e, hf.ret, handFrames_cell (s := t) (hf.ret ▸ hp) (hf.ret ▸ hx)]
      exact handFrames_same n _ ⟨by simp only [handed, State.withRet_ret, hf.ret], hf.paths⟩
    · rw [e, handFrames_silence (s := t) (hf.ret ▸ hn)]
      exact handFrames_same n _ hf

/-- R110: the playout of a block is that of any machine with the same receiver and paths. -/
theorem returnBlock_same {s t : State} (h : SameReturn s t) :
    SameReturn (returnBlock s).1 (returnBlock t).1 ∧ (returnBlock s).2 = (returnBlock t).2 :=
  handFrames_same 48 [] (enterPlaying_same h)

/-! ## What the playout leaves alone -/

/-- From `s` to `t` the return receiver alone has acted: it moves its own record and the paths' hold slots, and reports
gaps and underruns. -/
structure ReturnActs (s t : State) : Prop where
  mixer : t.mixer = s.mixer
  lanes : t.lanes = s.lanes
  store : t.store = s.store
  asm : t.asm = s.asm
  clips : t.clips = s.clips
  labels : t.labels = s.labels
  audio : t.port.audio = s.port.audio
  flags : ∀ k : Nat, (.audioUnderrun, k) ∈ t.handler.flags ↔ (.audioUnderrun, k) ∈ s.handler.flags
  underruns : t.handler.counters[ctrAudioUnderruns] = s.handler.counters[ctrAudioUnderruns]

theorem ReturnActs.refl (s : State) : ReturnActs s s := ⟨rfl, rfl, rfl, rfl, rfl, rfl, rfl, fun _ => Iff.rfl, rfl⟩

theorem ReturnActs.trans {a b c : State} (h : ReturnActs a b) (g : ReturnActs b c) : ReturnActs a c :=
  ⟨g.mixer.trans h.mixer, g.lanes.trans h.lanes, g.store.trans h.store, g.asm.trans h.asm, g.clips.trans h.clips,
   g.labels.trans h.labels, g.audio.trans h.audio, fun k => (g.flags k).trans (h.flags k),
   g.underruns.trans h.underruns⟩

theorem withRet_acts (s : State) (r : ReturnReceiver) : ReturnActs s (s.withRet r) :=
  ⟨rfl, rfl, rfl, rfl, rfl, rfl, rfl, fun _ => Iff.rfl, rfl⟩

theorem withPaths_acts (s : State) (v : Vector PathCtl 4) : ReturnActs s (s.withPaths v) :=
  ⟨rfl, rfl, rfl, rfl, rfl, rfl, rfl, fun _ => Iff.rfl, rfl⟩

theorem count_acts {s : State} {c : Fin 40} {k : EventKind} {u : Nat} (hc : c ≠ ctrAudioUnderruns)
    (hk : k ≠ .audioUnderrun) : ReturnActs s (s.count c k u) where
  mixer := rfl
  lanes := rfl
  store := rfl
  asm := rfl
  clips := rfl
  labels := rfl
  audio := State.count_port_audio _ _ _ _
  flags _ := (mem_flags_count_iff (by simp)).trans (or_iff_right fun e => hk (congrArg Prod.fst e).symm)
  underruns := count_counter_other _ _ _ (by decide) hc

theorem lowMark_acts (s : State) : ReturnActs s (lowMark s) := by
  unfold lowMark
  split
  · split
    · exact (withPaths_acts s _).trans (withRet_acts _ _)
    · exact withRet_acts _ _
  · exact .refl s

theorem takeFrontCell_acts (x : RetCell) (rest : List RetCell) (s : State) :
    ReturnActs s (takeFrontCell x rest s) := (withRet_acts s _).trans (lowMark_acts _)

theorem needCell_acts (s : State) : ReturnActs s (needCell s) := by
  unfold needCell
  split
  · exact (withRet_acts s _).trans (count_acts (by decide) (by decide))
  · split
    · exact takeFrontCell_acts _ _ _
    · split
      · exact takeFrontCell_acts _ _ _
      · exact (withRet_acts s _).trans (count_acts (by decide) (by decide))

theorem enterPlaying_acts (s : State) : ReturnActs s (enterPlaying s) := by
  unfold enterPlaying
  split
  · exact .refl s
  · dsimp only
    split
    · exact (withRet_acts s _).trans (takeFrontCell_acts _ _ _)
    · exact withRet_acts s _

theorem fed_acts (s : State) : ReturnActs s (fed s) := by
  unfold fed
  split
  · exact needCell_acts s
  · exact .refl s

theorem handFrames_acts : ∀ (n : Nat) (s : State) (acc : List (List Sample)), ReturnActs s (handFrames n s acc).1
  | 0, s, _ => .refl s
  | n + 1, s, acc => by
    rcases handFrames_cases n s acc with ⟨x, -, -, e⟩ | ⟨-, e⟩ <;> rw [e]
    · exact (fed_acts s).trans ((withRet_acts _ _).trans (handFrames_acts n _ _))
    · exact (fed_acts s).trans (handFrames_acts n _ _)

theorem returnBlock_acts (s : State) : ReturnActs s (returnBlock s).1 :=
  (enterPlaying_acts s).trans (handFrames_acts 48 _ _)

end Sys2Proof.Machine
end

section
/-! SUPPORT. The audio lanes at a block request (R13, R73): each asked in turn hands its front block or underruns. -/

namespace Sys2Proof.Machine

theorem audio_set {α : Type} (v : Vector α 4) (k j : Fin 4) (x : α) : (v.set k x)[j] = if k = j then x else v[j] := by
  simp [Vector.getElem_set, Fin.ext_iff]

theorem setAudio_audio (s : State) (k j : Fin 4) (v : AudioIntake) :
    (s.setAudio k v).port.audio[j] = if k = j then v else s.port.audio[j] := audio_set _ _ _ _

/-- R13: an audio lane whose front block, if it had one, has been handed over. -/
def withoutFront (v : AudioIntake) : AudioIntake := { v with blocks := v.blocks.tail }

theorem withoutFront_empty {v : AudioIntake} (h : v.blocks = []) : withoutFront v = v := by
  cases v
  cases h
  rfl

/-! ## One lane -/

theorem audioRequest_hands {k : Fin 4} {s : State} {b : List Sample} {rest : List (List Sample)}
    (h : s.port.audio[k].blocks = b :: rest) :
    audioRequest k s = (s.setAudio k { s.port.audio[k] with blocks := rest }, b) := by
  simp only [audioRequest, h]

theorem audioRequest_underruns {k : Fin 4} {s : State} (h : s.port.audio[k].blocks = []) :
    audioRequest k s = (s.count ctrAudioUnderruns .audioUnderrun (8 + k.val), []) := by
  simp only [audioRequest, h]

theorem audioRequest_samples (k : Fin 4) (s : State) :
    (audioRequest k s).2 = s.port.audio[k].blocks.headD [] := by
  cases h : s.port.audio[k].blocks with
  | nil => rw [audioRequest_underruns h]; rfl
  | cons b rest => rw [audioRequest_hands h]; rfl

theorem audioRequest_audio (k j : Fin 4) (s : State) : (audioRequest k s).1.port.audio[j]
    = if k = j then withoutFront s.port.audio[j] else s.port.audio[j] := by
  cases h : s.port.audio[k].blocks with
  | nil =>
    rw [audioRequest_underruns h, State.count_port_audio]
    split
    · subst k
      exact (withoutFront_empty h).symm
    · rfl
  | cons b rest =>
    rw [audioRequest_hands h, setAudio_audio]
    split
    · subst k
      rw [withoutFront, h]; rfl
    · rfl

theorem audioRequest_flags (k j : Fin 4) (s : State) :
    (.audioUnderrun, 8 + j.val) ∈ (audioRequest k s).1.handler.flags ↔
      (k = j ∧ s.port.audio[k].blocks = []) ∨ (.audioUnderrun, 8 + j.val) ∈ s.handler.flags := by
  cases h : s.port.audio[k].blocks with
  | nil =>
    rw [audioRequest_underruns h, mem_flags_count_iff (by simp)]
    simp [Fin.ext_iff, eq_comm]
  | cons b rest =>
    rw [audioRequest_hands h]
    simp [State.setAudio]

theorem audioRequest_counter (k : Fin 4) (s : State) :
    (audioRequest k s).1.handler.counters[ctrAudioUnderruns] = s.handler.counters[ctrAudioUnderruns]
      + BitVec.ofNat 32 ([k].filter (fun k => decide (s.port.audio[k].blocks = []))).length := by
  cases h : s.port.audio[k].blocks with
  | nil =>
    rw [audioRequest_underruns h, count_counter_self _ _ _ (by decide), List.filter_cons_of_pos (by simpa using h)]
    rfl
  | cons b rest =>
    rw [audioRequest_hands h, List.filter_cons_of_neg (by rw [h]; simp)]
    exact (BitVec.add_zero _).symm

/-- From `s` to `t` audio lanes alone have been asked for their blocks. -/
structure LanesAsked (s t : State) : Prop where
  mixer : t.mixer = s.mixer
  lanes : t.lanes = s.lanes
  store : t.store = s.store
  asm : t.asm = s.asm
  clips : t.clips = s.clips
  labels : t.labels = s.labels
  ret : t.ret = s.ret
  paths : t.paths = s.paths

theorem audioRequest_asked (k : Fin 4) (s : State) : LanesAsked s (audioRequest k s).1 := by
  cases h : s.port.audio[k].blocks with
  | nil => rw [audioRequest_underruns h]; exact ⟨rfl, rfl, rfl, rfl, rfl, rfl, rfl, rfl⟩
  | cons b rest => rw [audioRequest_hands h]; exact ⟨rfl, rfl, rfl, rfl, rfl, rfl, rfl, rfl⟩

/-! ## The lanes in turn -/

/-- R73: the lanes of a list are asked, one after another. -/
def askLanes (ks : List (Fin 4)) (s : State) : State := ks.foldl (fun t k => (audioRequest k t).1) s

theorem askLanes_asked : ∀ (ks : List (Fin 4)) (s : State), LanesAsked s (askLanes ks s)
  | [], s => ⟨rfl, rfl, rfl, rfl, rfl, rfl, rfl, rfl⟩
  | k :: ks, s => by
    have h := audioRequest_asked k s
    have g := askLanes_asked ks (audioRequest k s).1
    exact ⟨g.mixer.trans h.mixer, g.lanes.trans h.lanes, g.store.trans h.store, g.asm.trans h.asm,
      g.clips.trans h.clips, g.labels.trans h.labels, g.ret.trans h.ret, g.paths.trans h.paths⟩

/-- A lane that is asked once hands its front block; the others keep theirs. -/
theorem askLanes_audio : ∀ (ks : List (Fin 4)) (s : State) (j : Fin 4), ks.Nodup → (askLanes ks s).port.audio[j]
    = if j ∈ ks then withoutFront s.port.audio[j] else s.port.audio[j]
  | [], s, j, _ => rfl
  | k :: ks, s, j, h => by
    obtain ⟨hk, hks⟩ := List.nodup_cons.mp h
    show (askLanes ks (audioRequest k s).1).port.audio[j] = _
    rw [askLanes_audio ks _ j hks, audioRequest_audio]
    by_cases hj : k = j
    · subst j
      rw [if_neg hk, if_pos rfl, if_pos List.mem_cons_self]
    · rw [if_neg hj]
      simp only [List.mem_cons, Ne.symm hj, false_or]

theorem askLanes_samples {ks : List (Fin 4)} {k : Fin 4} {s : State} (h : (ks ++ [k]).Nodup) :
    (audioRequest k (askLanes ks s)).2 = s.port.audio[k].blocks.headD [] := by
  have hk : k ∉ ks := fun hm => (List.nodup_append.mp h).2.2 k hm k (List.mem_singleton.mpr rfl) rfl
  rw [audioRequest_samples, askLanes_audio _ _ _ (List.nodup_append.mp h).1, if_neg hk]

theorem askLanes_flags : ∀ (ks : List (Fin 4)) (s : State) (j : Fin 4), ks.Nodup →
    ((.audioUnderrun, 8 + j.val) ∈ (askLanes ks s).handler.flags ↔
      (j ∈ ks ∧ s.port.audio[j].blocks = []) ∨ (.audioUnderrun, 8 + j.val) ∈ s.handler.flags)
  | [], s, j, _ => by simp [askLanes]
  | k :: ks, s, j, h => by
    obtain ⟨hk, hks⟩ := List.nodup_cons.mp h
    show _ ∈ (askLanes ks (audioRequest k s).1).handler.flags ↔ _
    rw [askLanes_flags ks _ j hks, audioRequest_audio, audioRequest_flags]
    by_cases hj : k = j
    · subst j
      rw [if_pos rfl]
      simp [hk]
    · rw [if_neg hj]
      simp [hj, Ne.symm hj]

/-- R181: the audio underruns counter rises by one for each lane without a block. -/
theorem askLanes_counter : ∀ (ks : List (Fin 4)) (s : State), ks.Nodup →
    (askLanes ks s).handler.counters[ctrAudioUnderruns] = s.handler.counters[ctrAudioUnderruns]
      + BitVec.ofNat 32 (ks.filter (fun k => decide (s.port.audio[k].blocks = []))).length
  | [], s, _ => (BitVec.add_zero _).symm
  | k :: ks, s, h => by
    obtain ⟨hk, hks⟩ := List.nodup_cons.mp h
    have hrest : ks.filter (fun j => decide ((audioRequest k s).1.port.audio[j].blocks = []))
        = ks.filter (fun j => decide (s.port.audio[j].blocks = [])) :=
      List.filter_congr fun j hj => by
        have hne : k ≠ j := fun e => hk (e ▸ hj)
        rw [audioRequest_audio, if_neg hne]
    have hsplit : (k :: ks).filter (fun j => decide (s.port.audio[j].blocks = []))
        = [k].filter (fun j => decide (s.port.audio[j].blocks = []))
          ++ ks.filter (fun j => decide (s.port.audio[j].blocks = [])) := List.filter_append (l₁ := [k]) ks
    show (askLanes ks (audioRequest k s).1).handler.counters[ctrAudioUnderruns] = _
    rw [askLanes_counter ks _ hks, hrest, audioRequest_counter, hsplit, List.length_append, BitVec.ofNat_add,
      BitVec.add_assoc]

end Sys2Proof.Machine
end

section
/-! SUPPORT. The block request as a whole (R72, R73), and the take it applies (R77, R85). -/

namespace Sys2Proof.Machine

theorem mapVec_getElem {α β : Type} {n : Nat} (f : Fin n → α → β) (v : Vector α n) (i : Fin n) :
    (mapVec f v)[i] = f i v[i] := by
  simp [mapVec]

/-! ## Entries of a joined list of equal runs -/

theorem flatten_getD_uniform {β : Type} {n c : Nat} {d : β} (hc : c < n) (tail : List β) : ∀ (l : List (List β))
    (k : Nat), (∀ x ∈ l, x.length = n) → k < l.length → (l.flatten ++ tail).getD (n * k + c) d = (l.getD k []).getD c d
  | x :: l, 0, h, _ => by
    have hx : c < x.length := h x List.mem_cons_self ▸ hc
    simp [List.getElem?_append_left hx]
  | x :: l, k + 1, h, hk => by
    have hx : x.length = n := h x List.mem_cons_self
    have hpos : n * (k + 1) + c = x.length + (n * k + c) := by rw [hx, Nat.mul_succ]; omega
    have ih := flatten_getD_uniform (d := d) hc tail l k (fun y hy => h y (List.mem_cons_of_mem _ hy))
      (Nat.lt_of_succ_lt_succ hk)
    rw [List.flatten_cons, List.append_assoc, hpos, List.getD_append_right _ _ _ _ (Nat.le_add_right _ _),
      Nat.add_sub_cancel_left, ih, List.getD_cons_succ]

theorem length_flatten_uniform {β : Type} {n : Nat} : ∀ (l : List (List β)), (∀ x ∈ l, x.length = n) →
    l.flatten.length = n * l.length
  | [], _ => rfl
  | x :: l, h => by
    have ih := length_flatten_uniform l fun y hy => h y (List.mem_cons_of_mem _ hy)
    rw [List.flatten_cons, List.length_append, ih, h x List.mem_cons_self, List.length_cons, Nat.mul_succ, Nat.add_comm]

theorem getD_map_range {β : Type} {n i : Nat} (f : Nat → β) (d : β) (h : i < n) :
    ((List.range n).map f).getD i d = f i := by
  simp [List.getD_eq_getElem?_getD, h]

/-! ## The input samples of a block (R72) -/

/-- The eight samples of one audio lane among the input samples of the i-th sample of a block. -/
def laneSamples (i : Nat) (b : List Sample) : List Sample := (List.range 8).map (fun c => b.getD (8 * i + c) 0)

theorem inputSample_eq (bs : List (List Sample)) (ret : List (List Sample)) (i : Nat) :
    inputSample bs ret i = (bs.map (laneSamples i)).flatten ++ fourOf (ret.getD i []) := rfl

theorem laneSamples_length {i : Nat} {bs : List (List Sample)} : ∀ x ∈ bs.map (laneSamples i), x.length = 8 := by
  simp [laneSamples]

/-- R72: sources 8k to 8k + 7 are the channels of audio lane k. -/
theorem inputSample_lane {bs : List (List Sample)} (ret : List (List Sample)) (i : Nat) {k c : Nat}
    (hk : k < bs.length) (hc : c < 8) : (inputSample bs ret i).getD (8 * k + c) 0 = (bs.getD k []).getD (8 * i + c) 0 := by
  rw [inputSample_eq, flatten_getD_uniform hc _ _ _ laneSamples_length (by simpa using hk)]
  simp [hk, laneSamples, hc]

/-- R72: the sources after the audio lanes are the channels of the return receiver. -/
theorem inputSample_return {bs : List (List Sample)} (ret : List (List Sample)) (i : Nat) {c : Nat} (hc : c < 4) :
    (inputSample bs ret i).getD (8 * bs.length + c) 0 = (ret.getD i []).getD c 0 := by
  have hlen : (bs.map (laneSamples i)).flatten.length = 8 * bs.length := by
    rw [length_flatten_uniform _ laneSamples_length, List.length_map]
  rw [inputSample_eq, List.getD_append_right _ _ _ _ (by omega), hlen, Nat.add_sub_cancel_left]
  interval_cases c <;> rfl

/-! ## The take -/

theorem applyTake_later {m : Mixer} (h : ∀ x, m.takeArmed = some x → 48 * m.block < x.sample) : applyTake m = m := by
  cases hx : m.takeArmed with
  | none => simp only [applyTake, hx]
  | some x => simp only [applyTake, hx, if_neg (Nat.not_le.mpr (h x hx))]

theorem applyTake_due {m : Mixer} {x : TakeImage} (hx : m.takeArmed = some x) (h : x.sample ≤ 48 * m.block) :
    applyTake m = applyImage x m := by
  simp only [applyTake, hx, if_pos h]

theorem applyTake_kept (m : Mixer) :
    (applyTake m).wordLens = m.wordLens ∧ (applyTake m).block = m.block := by
  unfold applyTake
  split
  · split <;> exact ⟨rfl, rfl⟩
  · exact ⟨rfl, rfl⟩

/-- R77: where the live delay changes, a fade begins or turns, from the level it has. -/
theorem beginFade_changed (f : Fade) : (beginFade true f).state = .fadingOut ∧
    (beginFade true f).readDelay = f.readDelay ∧
    (beginFade true f).level = if f.state = .steady then 48 else f.level := by
  cases h : f.state <;> simp [beginFade, h]

theorem applyImage_xp (x : TakeImage) (m : Mixer) (i : Fin 288) :
    (applyImage x m).xp[i] = retarget m.ramp x.xpCoef[i] m.xp[i] := mapVec_getElem _ _ _

theorem applyImage_masters (x : TakeImage) (m : Mixer) (b : Fin 8) :
    (applyImage x m).masters[b] = retarget m.ramp x.msCoef[b] m.masters[b] := mapVec_getElem _ _ _

/-- R77, R85: what an applied take does to the fade of a source. -/
theorem applyImage_fade (x : TakeImage) (m : Mixer) (src : Fin 36) :
    (x.bank.delays[src] = m.live.delays[src] → (applyImage x m).fades[src] = m.fades[src]) ∧
    (x.bank.delays[src] ≠ m.live.delays[src] → (applyImage x m).fades[src].state = .fadingOut ∧
      (applyImage x m).fades[src].readDelay = m.fades[src].readDelay ∧
      (applyImage x m).fades[src].level = if m.fades[src].state = .steady then 48 else m.fades[src].level) := by
  have hf : (applyImage x m).fades[src] = beginFade (decide (x.bank.delays[src] ≠ m.live.delays[src])) m.fades[src] :=
    mapVec_getElem _ _ _
  rw [hf]
  constructor
  · intro h
    rw [decide_eq_false (not_not_intro h)]
    rfl
  · intro h
    rw [decide_eq_true h]
    exact beginFade_changed _

/-! ## The block request -/

/-- R72: the machine of a block request once the take is applied and the four lanes are asked. -/
def readyForReturn (s : State) : State :=
  askLanes (List.finRange 4) ((s.advanceTo (48 * s.mixer.block)).withMixer (applyTake s.mixer))

/-- R72: the block that a request puts in work. -/
def requestedWork (s : State) : BlockWork :=
  ⟨(List.range 48).map (inputSample ((List.finRange 4).map fun k => s.port.audio[k].blocks.headD []) (returnBlock s).2),
   s.mixer.wordLens⟩

theorem readyForReturn_asked (s : State) :
    LanesAsked ((s.advanceTo (48 * s.mixer.block)).withMixer (applyTake s.mixer)) (readyForReturn s) :=
  askLanes_asked _ _

theorem readyForReturn_same (s : State) : SameReturn (readyForReturn s) s :=
  ⟨(readyForReturn_asked s).ret, (readyForReturn_asked s).paths⟩

theorem readyForReturn_eq (s : State) : readyForReturn s = (audioRequest 3 (audioRequest 2 (audioRequest 1
    (audioRequest 0 ((s.advanceTo (48 * s.mixer.block)).withMixer (applyTake s.mixer))).1).1).1).1 := rfl

theorem askedSamples (s : State) : (List.finRange 4).map (fun k => s.port.audio[k].blocks.headD []) =
    [(audioRequest 0 s).2, (audioRequest 1 (audioRequest 0 s).1).2,
      (audioRequest 2 (audioRequest 1 (audioRequest 0 s).1).1).2,
      (audioRequest 3 (audioRequest 2 (audioRequest 1 (audioRequest 0 s).1).1).1).2] := by
  have h0 : (audioRequest 0 s).2 = _ := askLanes_samples (ks := []) (by decide)
  have h1 : (audioRequest 1 (audioRequest 0 s).1).2 = _ := askLanes_samples (ks := [0]) (by decide)
  have h2 : (audioRequest 2 (audioRequest 1 (audioRequest 0 s).1).1).2 = _ :=
    askLanes_samples (ks := [0, 1]) (by decide)
  have h3 : (audioRequest 3 (audioRequest 2 (audioRequest 1 (audioRequest 0 s).1).1).1).2 = _ :=
    askLanes_samples (ks := [0, 1, 2]) (by decide)
  rw [h0, h1, h2, h3]
  rfl

theorem beginBlock_eq (s : State) : beginBlock s = (returnBlock (readyForReturn s)).1.withMixer
    { applyTake s.mixer with work := some (requestedWork s) } := by
  have hm : (returnBlock (readyForReturn s)).1.mixer = applyTake s.mixer :=
    (returnBlock_acts _).mixer.trans (readyForReturn_asked s).mixer
  have hr : (returnBlock (readyForReturn s)).2 = (returnBlock s).2 := (returnBlock_same (readyForReturn_same s)).2
  have hl := askedSamples ((s.advanceTo (48 * s.mixer.block)).withMixer (applyTake s.mixer))
  have hblocks : ((s.advanceTo (48 * s.mixer.block)).withMixer (applyTake s.mixer)).port = s.port := rfl
  have hmix : (s.advanceTo (48 * s.mixer.block)).mixer = s.mixer := rfl
  rw [hblocks] at hl
  simp only [beginBlock, hmix, ← hl, ← readyForReturn_eq, hr, hm, (applyTake_kept s.mixer).1, requestedWork]

theorem requestedWork_lane (s : State) (k : Fin 4) {i c : Nat} (hi : i < 48) (hc : c < 8) :
    ((requestedWork s).input.getD i []).getD (8 * k.val + c) 0
      = (s.port.audio[k].blocks.headD []).getD (8 * i + c) 0 := by
  rw [requestedWork, getD_map_range _ _ hi, inputSample_lane _ _ (by simp) hc]
  simp

theorem requestedWork_return (s : State) {i c : Nat} (hi : i < 48) (hc : c < 4) :
    ((requestedWork s).input.getD i []).getD (32 + c) 0 = ((returnBlock s).2.getD i []).getD c 0 := by
  have h := inputSample_return (bs := (List.finRange 4).map fun k => s.port.audio[k].blocks.headD []) (returnBlock s).2 i hc
  rw [requestedWork, getD_map_range _ _ hi]
  simpa using h

/-- R13, R73: what the request leaves of an audio lane, and whether the lane's underrun is latched. -/
theorem beginBlock_audio (s : State) (k : Fin 4) :
    (beginBlock s).port.audio[k] = withoutFront s.port.audio[k] ∧
    ((.audioUnderrun, 8 + k.val) ∈ (beginBlock s).handler.flags ↔
      s.port.audio[k].blocks = [] ∨ (.audioUnderrun, 8 + k.val) ∈ s.handler.flags) := by
  have hr := returnBlock_acts (readyForReturn s)
  rw [beginBlock_eq]
  constructor
  · rw [State.withMixer_port, hr.audio, readyForReturn, askLanes_audio _ _ _ (List.nodup_finRange 4),
      if_pos (List.mem_finRange k)]
    rfl
  · rw [State.withMixer_handler, hr.flags, readyForReturn, askLanes_flags _ _ _ (List.nodup_finRange 4)]
    simp only [List.mem_finRange, true_and]
    rfl

theorem beginBlock_counter (s : State) :
    (beginBlock s).handler.counters[ctrAudioUnderruns] = s.handler.counters[ctrAudioUnderruns]
      + BitVec.ofNat 32 ((List.finRange 4).filter (fun k => decide (s.port.audio[k].blocks = []))).length := by
  rw [beginBlock_eq, State.withMixer_handler, (returnBlock_acts _).underruns, readyForReturn,
    askLanes_counter _ _ (List.nodup_finRange 4)]
  rfl

theorem blockRequest_idle {s : State} (h : s.mixer.work = none) : blockRequest s = beginBlock s := by
  rw [blockRequest, blockCompletion, h]

/-- Settles O24: the request is the take, the four lanes in turn and the return receiver, whose playout reads nothing the
others move. -/
theorem blockRequestTakesTheFrontBlocks : Obligations.BlockRequestTakesTheFrontBlocks := by
  unfold Obligations.BlockRequestTakesTheFrontBlocks
  intro s hpower hwork
  have hrun : exec .blockRequest s = .next (beginBlock s) := by
    rw [← blockRequest_idle hwork]
    exact live_on hpower
  have hacts := returnBlock_acts (readyForReturn s)
  have hasked := readyForReturn_asked s
  have hsame := (returnBlock_same (readyForReturn_same s)).1
  have hmixer : (beginBlock s).mixer = { applyTake s.mixer with work := some (requestedWork s) } := by
    rw [beginBlock_eq, State.withMixer_mixer]
  refine ⟨beginBlock s, requestedWork s, hrun, ?_, by simp [requestedWork], rfl, ?_, fun k => ?_,
    beginBlock_counter s, fun i c hi hc => requestedWork_return s hi hc, ?_, ?_, fun hlater => ?_,
    fun x hx hdue => ?_, ?_, ?_, ?_, ?_, ?_⟩
  · rw [hmixer]
  · rw [hmixer]
    exact (applyTake_kept s.mixer).2
  · obtain ⟨haudio, hflag⟩ := beginBlock_audio s k
    rw [haudio]
    exact ⟨rfl, rfl, hflag, fun i c hi hc => requestedWork_lane s k hi hc⟩
  · rw [beginBlock_eq, State.withMixer_ret, hsame.ret]
  · rw [beginBlock_eq, State.withMixer_paths, hsame.paths]
  · rw [hmixer, applyTake_later hlater]
  · rw [hmixer, applyTake_due hx hdue]
    refine ⟨rfl, rfl, rfl, rfl, rfl, rfl, applyImage_xp x s.mixer, applyImage_masters x s.mixer, ?_⟩
    rintro src f rfl
    exact applyImage_fade x s.mixer src
  · rw [beginBlock_eq, State.withMixer_lanes, hacts.lanes, hasked.lanes]
    rfl
  · rw [beginBlock_eq, State.withMixer_store, hacts.store, hasked.store]
    rfl
  · rw [beginBlock_eq, State.withMixer_asm, hacts.asm, hasked.asm]
    rfl
  · rw [beginBlock_eq, State.withMixer_clips, hacts.clips, hasked.clips]
    rfl
  · rw [beginBlock_eq, State.withMixer_labels, hacts.labels, hasked.labels]
    rfl

end Sys2Proof.Machine
end

section
/-! SUPPORT. The stage outputs, the bus outputs and the frames of a block in work (R75 to R80), sample by sample. -/

namespace Sys2Proof.Machine

/-- R75 to R77: what the source stage gives of one source over the block in work, with its fade and history after it. -/
def sourceRun (w : BlockWork) (m : Mixer) (src : Fin 36) : List Sample × Fade × DelayHistory :=
  sourceStage w.wordLens[src] m.live.invert[src] m.live.delays[src] (48 * m.block)
    (w.input.map (fun x => x.getD src.val 0)) m.fades[src] m.history[src]

/-- R79, R80: the output of a bus at the i-th sample of the block, before it is saturated. -/
def blockOut (w : BlockWork) (m : Mixer) (i : Nat) (bus : Fin 8) : Int :=
  busOut ((List.finRange 36).map (fun src => (sourceRun w m src).1.getD i 0)) (busCoefs m.xp bus (i + 1))
    (coefAt m.masters[bus] (i + 1))

/-- The stage outputs of the block, all sources of one sample together. -/
def stageRows (w : BlockWork) (m : Mixer) : List (List Sample) :=
  (List.range 48).map (fun i => (List.finRange 36).map (fun src => (sourceRun w m src).1.getD i 0))

/-- The outputs of one bus over the block. -/
def busRun (w : BlockWork) (m : Mixer) (bus : Fin 8) : List Int := (List.range 48).map (blockOut w m · bus)

/-- R15: the samples of the block, the eight buses of one sample together. -/
def blockFrames (w : BlockWork) (m : Mixer) : List (List Sample) :=
  (List.range 48).map (fun i => (List.finRange 8).map (fun bus => saturate (blockOut w m i bus)))

/-! ## The model's tables -/

theorem byRows_ofFn {n : Nat} (run : Fin n → List Int) :
    byRows (Vector.ofFn run).toList
      = (List.range 48).map (fun i => (List.finRange n).map (fun k => (run k).getD i 0)) := by
  simp only [byRows, Vector.toList_ofFn, List.ofFn_eq_map, List.map_map]
  rfl

theorem busBlock_getElem? (m : Mixer) (b : Fin 8) : ∀ (n i : Nat) (rows : List (List Sample)),
    (busBlock m b n rows)[i]? = rows[i]?.map (fun zs => busOut zs (busCoefs m.xp b (n + i)) (coefAt m.masters[b] (n + i)))
  | _, _, [] => rfl
  | _, 0, _ :: _ => rfl
  | n, i + 1, _ :: rows => by
    have h := busBlock_getElem? m b (n + 1) i rows
    rw [Nat.add_right_comm n 1 i] at h
    exact h

/-- R79, R80: the model's bus stage over the rows is the output at each sample in turn. -/
theorem busBlock_stageRows (w : BlockWork) (m : Mixer) (bus : Fin 8) :
    busBlock m bus 1 (stageRows w m) = busRun w m bus := by
  refine List.ext_getElem? fun i => ?_
  rw [busBlock_getElem?, stageRows, busRun, List.getElem?_map, List.getElem?_map, Option.map_map]
  by_cases hi : i < 48
  · rw [List.getElem?_range hi, Nat.add_comm 1 i]
    rfl
  · rw [List.getElem?_eq_none (by simpa using hi)]
    rfl

/-! ## What the frames hold -/

theorem blockFrames_row_length {w : BlockWork} {m : Mixer} : ∀ x ∈ blockFrames w m, x.length = 8 := by
  simp [blockFrames]

theorem blockFrames_length (w : BlockWork) (m : Mixer) : (blockFrames w m).length = 48 := by
  simp [blockFrames]

theorem blockFrames_flatten_length (w : BlockWork) (m : Mixer) : (blockFrames w m).flatten.length = 384 := by
  rw [length_flatten_uniform _ blockFrames_row_length, blockFrames_length]

/-- R15: sample i of a bus stands at 8i and the bus's number in the packet. -/
theorem blockFrames_getD (w : BlockWork) (m : Mixer) {i : Nat} (bus : Fin 8) (hi : i < 48) :
    (blockFrames w m).flatten.getD (8 * i + bus.val) 0 = saturate (blockOut w m i bus) := by
  have h := flatten_getD_uniform (d := 0) bus.isLt [] (blockFrames w m) i blockFrames_row_length
    (by rw [blockFrames_length]; exact hi)
  rw [List.append_nil] at h
  rw [h, blockFrames, getD_map_range _ _ hi]
  simp

/-- R80: a saturated output is in the range of a sample. -/
theorem saturate_range (x : Int) : -8388608 ≤ saturate x ∧ saturate x ≤ 8388607 := by
  unfold saturate clampInt sampleMin sampleMax
  split
  · decide
  next hlow =>
    split
    · decide
    next hhigh => exact ⟨Int.not_lt.mp hlow, Int.not_lt.mp hhigh⟩

theorem blockFrames_range {w : BlockWork} {m : Mixer} {x : Sample} (h : x ∈ (blockFrames w m).flatten) :
    -8388608 ≤ x ∧ x ≤ 8388607 := by
  obtain ⟨row, hrow, hx⟩ := List.mem_flatten.mp h
  obtain ⟨i, -, hi⟩ := List.mem_map.mp hrow
  obtain ⟨bus, -, hbus⟩ := List.mem_map.mp (hi ▸ hx)
  exact hbus ▸ saturate_range _

/-! ## Peaks (R89) -/

/-- R89: a peak is the greatest magnitude of the run and the peak before. -/
theorem peakAfter_max : ∀ (l : List Int) (p : Nat), p ≤ peakAfter p l ∧ (∀ z ∈ l, z.natAbs ≤ peakAfter p l) ∧
    (peakAfter p l = p ∨ ∃ z ∈ l, z.natAbs = peakAfter p l)
  | [], p => ⟨le_refl _, by simp, .inl rfl⟩
  | x :: l, p => by
    obtain ⟨hge, hall, hsome⟩ := peakAfter_max l (max p x.natAbs)
    show p ≤ peakAfter (max p x.natAbs) l ∧ (∀ z ∈ x :: l, z.natAbs ≤ peakAfter (max p x.natAbs) l) ∧
      (peakAfter (max p x.natAbs) l = p ∨ ∃ z ∈ x :: l, z.natAbs = peakAfter (max p x.natAbs) l)
    refine ⟨(le_max_left _ _).trans hge, ?_, ?_⟩
    · intro z hz
      rcases List.mem_cons.mp hz with rfl | hz
      · exact (le_max_right _ _).trans hge
      · exact hall z hz
    · rcases hsome with he | ⟨z, hz, he⟩
      · rcases Nat.le_total x.natAbs p with hx | hx
        · exact .inl (he.trans (max_eq_left hx))
        · exact .inr ⟨x, List.mem_cons_self, (max_eq_right hx).symm.trans he.symm⟩
      · exact .inr ⟨z, List.mem_cons_of_mem _ hz, he⟩

end Sys2Proof.Machine
end

section
/-! SUPPORT. What a block completion leaves of the other blocks, and the counting of clipped samples (R80, R181). -/

namespace Sys2Proof.Machine

/-- From `s` to `t` the mixer alone has acted in a completion: besides its own record and the audio list it reports
events, and of notices it loses those only that find the egress queue full. -/
structure CompletionActs (s t : State) : Prop where
  lanes : t.lanes = s.lanes
  store : t.store = s.store
  paths : t.paths = s.paths
  clips : t.clips = s.clips
  labels : t.labels = s.labels
  ref : t.ref = s.ref
  bus : t.port.bus = s.port.bus
  busSeq : t.port.busSeq = s.port.busSeq
  egress : s.port.egress.length ≤ t.port.egress.length
  lost : t.port.egress.length < 32 → t.handler.counters[ctrBusLost] = s.handler.counters[ctrBusLost]
  clipFlags : ∀ k : Nat, (.busClip, k) ∈ s.handler.flags → (.busClip, k) ∈ t.handler.flags

theorem CompletionActs.refl (s : State) : CompletionActs s s :=
  ⟨rfl, rfl, rfl, rfl, rfl, rfl, rfl, rfl, le_refl _, fun _ => rfl, fun _ h => h⟩

theorem CompletionActs.trans {a b c : State} (h : CompletionActs a b) (g : CompletionActs b c) :
    CompletionActs a c where
  lanes := g.lanes.trans h.lanes
  store := g.store.trans h.store
  paths := g.paths.trans h.paths
  clips := g.clips.trans h.clips
  labels := g.labels.trans h.labels
  ref := g.ref.trans h.ref
  bus := g.bus.trans h.bus
  busSeq := g.busSeq.trans h.busSeq
  egress := h.egress.trans g.egress
  lost hr := (g.lost hr).trans (h.lost (g.egress.trans_lt hr))
  clipFlags k hk := g.clipFlags k (h.clipFlags k hk)

theorem withMixer_completion (s : State) (m : Mixer) : CompletionActs s (s.withMixer m) :=
  ⟨rfl, rfl, rfl, rfl, rfl, rfl, rfl, rfl, le_refl _, fun _ => rfl, fun _ h => h⟩

theorem withAsm_completion (s : State) (a : Assembler) : CompletionActs s (s.withAsm a) :=
  ⟨rfl, rfl, rfl, rfl, rfl, rfl, rfl, rfl, le_refl _, fun _ => rfl, fun _ h => h⟩

theorem count_completion (s : State) {c : Fin 40} (k : EventKind) (u : Nat) (hc : c ≠ ctrBusLost) :
    CompletionActs s (s.count c k u) where
  lanes := rfl
  store := rfl
  paths := rfl
  clips := rfl
  labels := rfl
  ref := rfl
  bus := State.count_port_bus _ _ _ _
  busSeq := State.count_port_busSeq _ _ _ _
  egress := count_egress_le _ _ _ _
  lost hr := by rw [count_counters_room hr, add_counter_other _ _ hc]
  clipFlags _ h := (mem_flags_count_iff (by simp)).mpr (.inr h)

/-! ## Clipped samples one by one -/

theorem countClip_completion (b : Fin 8) (s : State) : CompletionActs s (countClip b s) :=
  (withMixer_completion s _).trans (count_completion _ _ _ (by decide))

theorem countClips_completion : ∀ (bs : List (Fin 8)) (s : State), CompletionActs s (countClips bs s)
  | [], s => .refl s
  | b :: bs, s => (countClip_completion b s).trans (countClips_completion bs (countClip b s))

theorem countClips_asm : ∀ (bs : List (Fin 8)) (s : State), (countClips bs s).asm = s.asm
  | [], _ => rfl
  | b :: bs, s => (countClips_asm bs (countClip b s)).trans rfl

/-- R80: of the mixer the counting moves the clip counts alone. -/
theorem countClips_mixer : ∀ (bs : List (Fin 8)) (s : State),
    ∃ counts : Vector Nat 8, (countClips bs s).mixer = { s.mixer with clipCount := counts }
  | [], s => ⟨s.mixer.clipCount, rfl⟩
  | b :: bs, s => by
    obtain ⟨counts, h⟩ := countClips_mixer bs (countClip b s)
    exact ⟨counts, h⟩

theorem countClip_clipCount (b bus : Fin 8) (s : State) : (countClip b s).mixer.clipCount[bus]
    = if b = bus then min 4294967295 (s.mixer.clipCount[b] + 1) else s.mixer.clipCount[bus] := by
  simp [countClip, Vector.getElem_set, Fin.ext_iff]

theorem countClips_cons (b : Fin 8) (bs : List (Fin 8)) (s : State) :
    countClips (b :: bs) s = countClips bs (countClip b s) := rfl

theorem min_succ_min_add (top a n : Nat) : min top (min top (a + 1) + n) = min top (a + (n + 1)) := by omega

/-- R80: the clip count of a bus that clips rises by its clipped samples, up to the greatest it holds. -/
theorem countClips_clipCount (bus : Fin 8) (bs : List (Fin 8)) (s : State) :
    (countClips bs s).mixer.clipCount[bus] = if bs.count bus = 0 then s.mixer.clipCount[bus]
      else min 4294967295 (s.mixer.clipCount[bus] + bs.count bus) := by
  induction bs generalizing s with
  | nil => rfl
  | cons b bs ih =>
    rw [countClips_cons, ih, countClip_clipCount]
    by_cases hb : b = bus
    · subst b
      rw [if_pos rfl, List.count_cons_self, if_neg (Nat.succ_ne_zero _)]
      split
      next h0 => rw [h0]
      next => exact min_succ_min_add _ _ _
    · rw [if_neg hb, List.count_cons_of_ne hb]

theorem countClips_flags {bus : Fin 8} {bs : List (Fin 8)} (s : State) (h : bus ∈ bs) :
    (.busClip, bus.val) ∈ (countClips bs s).handler.flags := by
  induction bs generalizing s with
  | nil => exact absurd h List.not_mem_nil
  | cons b bs ih =>
    rw [countClips_cons]
    rcases List.mem_cons.mp h with rfl | h
    · exact (countClips_completion bs _).clipFlags _ (mem_flags_count _ _ _ _)
    · exact ih _ h

theorem countClips_counter (bs : List (Fin 8)) (s : State) : (countClips bs s).handler.counters[ctrBusClips]
    = s.handler.counters[ctrBusClips] + BitVec.ofNat 32 bs.length := by
  induction bs generalizing s with
  | nil => exact (BitVec.add_zero _).symm
  | cons b bs ih =>
    have hone : (countClip b s).handler.counters[ctrBusClips] = s.handler.counters[ctrBusClips] + 1 :=
      count_counter_self _ _ _ (by decide)
    rw [countClips_cons, ih, hone, List.length_cons, Nat.add_comm, BitVec.ofNat_add, BitVec.add_assoc]
    rfl

/-! ## The buses that clip over a block -/

/-- The clipped samples of a run of samples, each as its bus. -/
def clippedIn (out : Nat → Fin 8 → Int) (is : List Nat) : List (Fin 8) :=
  is.flatMap (fun i => (List.finRange 8).filter (fun b => clips (out i b)))

theorem clippedIn_count (out : Nat → Fin 8 → Int) (bus : Fin 8) : ∀ is : List Nat,
    (clippedIn out is).count bus = (is.filter (fun i => clips (out i bus))).length
  | [] => rfl
  | i :: is => by
    have ih := clippedIn_count out bus is
    have hone : ((List.finRange 8).filter (fun b => clips (out i b))).count bus = if clips (out i bus) then 1 else 0 := by
      split
      next h => rw [List.count_filter (by simpa using h), List.count_eq_one_of_mem (List.nodup_finRange 8) (List.mem_finRange bus)]
      next h => exact List.count_eq_zero_of_not_mem (by simp [h])
    show ((List.finRange 8).filter (fun b => clips (out i b)) ++ clippedIn out is).count bus = _
    rw [List.count_append, hone, ih]
    cases h : clips (out i bus) <;> simp [h, Nat.add_comm]

/-- The length of a list over the buses is the sum of its counts. -/
theorem length_eq_sum_count : ∀ bs : List (Fin 8), bs.length = ((List.finRange 8).map (fun b => bs.count b)).sum
  | [] => by simp
  | b :: bs => by
    have hone : ((List.finRange 8).map (fun c => if b = c then 1 else 0)).sum = 1 := by
      revert b
      decide
    have hcount : (List.finRange 8).map (fun c => (b :: bs).count c)
        = (List.finRange 8).map (fun c => bs.count c + if b = c then 1 else 0) :=
      List.map_congr_left fun c _ => by simp [List.count_cons]
    rw [List.length_cons, length_eq_sum_count bs, hcount, List.sum_map_add, hone]

theorem clippedBuses_runs (w : BlockWork) (m : Mixer) :
    clippedBuses (byRows (Vector.ofFn (busRun w m)).toList) = clippedIn (blockOut w m) (List.range 48) := by
  rw [byRows_ofFn, clippedBuses, clippedIn, List.flatMap_map]
  refine List.flatMap_congr fun i hi => List.filter_congr fun b _ => ?_
  have hi : i < 48 := List.mem_range.mp hi
  simp only [busRun, getD_map_range _ _ hi]
  congr 1
  simp

end Sys2Proof.Machine
end

section
/-! SUPPORT. The cell grid over the samples of a block (R87): a block lies within a period, or ends one and may begin the
next. -/

namespace Sys2Proof.Machine

/-- R87: a cell period with more samples. -/
def CellPeriod.add (q : CellPeriod) (os : List (List Sample)) : CellPeriod := { q with samples := q.samples ++ os }

/-! ## One sample -/

theorem periodStep_begins {home : List (Fin 8)} {t : Nat} (o : List Sample) (p : Option CellPeriod) (h : t % 80 = 0) :
    periodStep home t o p = (some ⟨home, t, [o]⟩, none) := by
  simp [periodStep, h]

theorem periodStep_within {home : List (Fin 8)} {t : Nat} (o : List Sample) (q : CellPeriod) (h0 : t % 80 ≠ 0)
    (h79 : t % 80 ≠ 79) : periodStep home t o (some q) = (some (q.add [o]), none) := by
  simp [periodStep, h0, h79, CellPeriod.add]

theorem periodStep_ends {home : List (Fin 8)} {t : Nat} (o : List Sample) (q : CellPeriod) (h : t % 80 = 79) :
    periodStep home t o (some q) = (none, some (q.add [o])) := by
  simp [periodStep, h, CellPeriod.add]

/-! ## Runs of samples -/

theorem CellPeriod.add_add (q : CellPeriod) (a b : List (List Sample)) : (q.add a).add b = q.add (a ++ b) := by
  simp [CellPeriod.add]

theorem CellPeriod.add_nil (q : CellPeriod) : q.add [] = q := by simp [CellPeriod.add]

theorem periodBlock_append (home : List (Fin 8)) : ∀ (a b : List (List Sample)) (t : Nat) (p fin : Option CellPeriod),
    periodBlock home t (a ++ b) p fin
      = periodBlock home (t + a.length) b (periodBlock home t a p fin).1 (periodBlock home t a p fin).2
  | [], _, _, _, _ => rfl
  | o :: a, b, t, p, fin => by
    rw [List.cons_append, periodBlock, periodBlock, periodBlock_append home a b, List.length_cons, Nat.add_assoc,
      Nat.add_comm 1]

/-- R87: samples that reach no end of the period join it. -/
theorem periodBlock_within (home : List (Fin 8)) (fin : Option CellPeriod) :
    ∀ (os : List (List Sample)) (t : Nat) (q : CellPeriod), t % 80 ≠ 0 → t % 80 + os.length < 80 →
      periodBlock home t os (some q) fin = (some (q.add os), fin)
  | [], _, q, _, _ => by rw [CellPeriod.add_nil]; rfl
  | o :: os, t, q, h0, hlen => by
    have hlen : t % 80 + (os.length + 1) < 80 := hlen
    rw [periodBlock, periodStep_within o q h0 (by omega)]
    rcases os with _ | ⟨o', os⟩
    · rfl
    · have hlen : t % 80 + (os.length + 1 + 1) < 80 := hlen
      have ih := periodBlock_within home fin (o' :: os) (t + 1) (q.add [o]) (by omega)
        (by rw [List.length_cons]; omega)
      exact ih.trans (by rw [CellPeriod.add_add]; rfl)

/-- R87: a run from a multiple of eighty begins a period. -/
theorem periodBlock_begins (home : List (Fin 8)) (p fin : Option CellPeriod) {t : Nat} {os : List (List Sample)}
    (h0 : t % 80 = 0) (hne : os ≠ []) (hlen : os.length < 80) :
    periodBlock home t os p fin = (some ⟨home, t, os⟩, fin) := by
  rcases os with _ | ⟨o, os⟩
  · exact absurd rfl hne
  · rw [List.length_cons] at hlen
    rw [periodBlock, periodStep_begins o p h0]
    exact periodBlock_within home fin os (t + 1) ⟨home, t, [o]⟩ (by omega) (by omega)

/-- R87: a run up to the last sample of the period finishes it. -/
theorem periodBlock_ends (home : List (Fin 8)) (fin : Option CellPeriod) {t : Nat} {os : List (List Sample)}
    (q : CellPeriod) (h0 : t % 80 ≠ 0) (hlen : t % 80 + os.length = 80) :
    periodBlock home t os (some q) fin = (none, some (q.add os)) := by
  have hne : os ≠ [] := by
    rintro rfl
    exact absurd (Nat.mod_lt t (by decide : 80 > 0)) (by simp at hlen; omega)
  obtain ⟨init, o, rfl⟩ : ∃ init o, os = init ++ [o] :=
    ⟨os.dropLast, os.getLast hne, (List.dropLast_append_getLast hne).symm⟩
  rw [List.length_append, List.length_singleton] at hlen
  rw [periodBlock_append, periodBlock_within home fin init t q h0 (by omega), periodBlock,
    periodStep_ends o _ (by omega), CellPeriod.add_add]
  rfl

/-! ## A block of forty-eight samples -/

theorem periodBlock_block_begins {home : List (Fin 8)} {t : Nat} {os : List (List Sample)} (p : Option CellPeriod)
    (hos : os.length = 48) (h : t % 80 = 0) : periodBlock home t os p none = (some ⟨home, t, os⟩, none) :=
  periodBlock_begins home p none h (by rintro rfl; cases hos) (by omega)

theorem periodBlock_block_within {home : List (Fin 8)} {t : Nat} {os : List (List Sample)} (q : CellPeriod)
    (hos : os.length = 48) (h0 : 0 < t % 80) (h : t % 80 < 32) :
    periodBlock home t os (some q) none = (some (q.add os), none) :=
  periodBlock_within home none os t q (by omega) (by omega)

/-- R87: a block that holds the period's last sample finishes it; what follows begins the next. -/
theorem periodBlock_block_ends {home : List (Fin 8)} {t : Nat} {os : List (List Sample)} (q : CellPeriod)
    (hos : os.length = 48) (h : 32 ≤ t % 80) :
    (periodBlock home t os (some q) none).2 = some (q.add (os.take (80 - t % 80))) ∧
    (periodBlock home t os (some q) none).1 = if t % 80 = 32 then none
      else some ⟨home, t + (80 - t % 80), os.drop (80 - t % 80)⟩ := by
  have hlt : t % 80 < 80 := Nat.mod_lt t (by decide)
  have hlen : (os.take (80 - t % 80)).length = 80 - t % 80 := by rw [List.length_take]; omega
  have hsplit := periodBlock_append home (os.take (80 - t % 80)) (os.drop (80 - t % 80)) t (some q) none
  have hend := periodBlock_ends home none (t := t) (os := os.take (80 - t % 80)) q (by omega) (by omega)
  rw [List.take_append_drop, hend, hlen] at hsplit
  rw [hsplit]
  split
  next h32 =>
    rw [List.drop_eq_nil_of_le (by omega)]
    exact ⟨rfl, rfl⟩
  next h32 =>
    have hdrop : (os.drop (80 - t % 80)).length = t % 80 - 32 := by rw [List.length_drop]; omega
    rw [periodBlock_begins home none _ (by omega) (fun e => by rw [e, List.length_nil] at hdrop; omega) (by omega)]
    exact ⟨rfl, rfl⟩

end Sys2Proof.Machine
end

section
/-! SUPPORT. The finished cell period becomes AUDIO cells (R88, R122). -/

namespace Sys2Proof.Machine

/-! ## The audio list (R122) -/

theorem handAudio_room {x : Cell} {s : State} (h : s.asm.audio.length < 48) :
    handAudio x s = s.withAsm { s.asm with audio := s.asm.audio ++ [x] } := if_pos h

theorem handAudio_full {x y : Cell} {rest : List Cell} {s : State} (hy : s.asm.audio = y :: rest)
    (h : 48 ≤ s.asm.audio.length) : handAudio x s
      = (s.withAsm { s.asm with audio := rest ++ [x] }).count ctrAudioDropped .audioDropped y.stream := by
  rw [handAudio, if_neg (Nat.not_lt.mpr h), hy]
  rfl

theorem handAudio_completion (x : Cell) (s : State) : CompletionActs s (handAudio x s) := by
  unfold handAudio
  split
  · exact withAsm_completion s _
  · exact (withAsm_completion s _).trans (count_completion _ _ _ (by decide))

theorem handAudio_mixer (x : Cell) (s : State) : (handAudio x s).mixer = s.mixer := by
  unfold handAudio
  split <;> rfl

theorem handAudio_busClips (x : Cell) (s : State) :
    (handAudio x s).handler.counters[ctrBusClips] = s.handler.counters[ctrBusClips] := by
  unfold handAudio
  split
  · rfl
  · exact count_counter_other _ _ _ (by decide) (by decide)

/-! ## One cell for each bus (R88) -/

/-- R88: the machine after the cell of one bus. -/
def handBus (c : CellPeriod) (b : Fin 8) (s : State) : State :=
  handAudio (audioCell s.ref.recent c b s.mixer.cellSeq[b])
    (s.withMixer { s.mixer with cellSeq := s.mixer.cellSeq.set b (s.mixer.cellSeq[b] + 1) })

theorem handPeriod_cons (c : CellPeriod) (b : Fin 8) (bs : List (Fin 8)) (s : State) :
    handPeriod c (b :: bs) s = handPeriod c bs (handBus c b s) := rfl

theorem handBus_mixer (c : CellPeriod) (b : Fin 8) (s : State) : (handBus c b s).mixer
    = { s.mixer with cellSeq := s.mixer.cellSeq.set b (s.mixer.cellSeq[b] + 1) } := handAudio_mixer _ _

theorem handBus_cellSeq (c : CellPeriod) (b bus : Fin 8) (s : State) : (handBus c b s).mixer.cellSeq[bus]
    = if b = bus then s.mixer.cellSeq[b] + 1 else s.mixer.cellSeq[bus] := by
  rw [handBus_mixer]
  simp [Vector.getElem_set, Fin.ext_iff]

theorem handBus_completion (c : CellPeriod) (b : Fin 8) (s : State) : CompletionActs s (handBus c b s) :=
  (withMixer_completion s _).trans (handAudio_completion _ _)

theorem handPeriod_completion (c : CellPeriod) (bs : List (Fin 8)) (s : State) :
    CompletionActs s (handPeriod c bs s) := by
  induction bs generalizing s with
  | nil => exact .refl s
  | cons b bs ih => exact (handBus_completion c b s).trans (ih _)

/-- R88: of the mixer the handing moves the sequences of the buses alone. -/
theorem handPeriod_mixer (c : CellPeriod) (bs : List (Fin 8)) (s : State) :
    ∃ seqs : Vector Word 8, (handPeriod c bs s).mixer = { s.mixer with cellSeq := seqs } := by
  induction bs generalizing s with
  | nil => exact ⟨s.mixer.cellSeq, rfl⟩
  | cons b bs ih =>
    obtain ⟨seqs, h⟩ := ih (handBus c b s)
    exact ⟨seqs, by rw [handPeriod_cons, h, handBus_mixer]⟩

theorem handPeriod_busClips (c : CellPeriod) (bs : List (Fin 8)) (s : State) :
    (handPeriod c bs s).handler.counters[ctrBusClips] = s.handler.counters[ctrBusClips] := by
  induction bs generalizing s with
  | nil => rfl
  | cons b bs ih =>
    rw [handPeriod_cons, ih]
    exact handAudio_busClips _ _

/-- R88: with room for the cells of a period each of its buses gets the next sequence. -/
theorem handPeriod_cellSeq (c : CellPeriod) (bus : Fin 8) (bs : List (Fin 8)) (s : State) (hbs : bs.Nodup) :
    (handPeriod c bs s).mixer.cellSeq[bus]
      = if bus ∈ bs then s.mixer.cellSeq[bus] + 1 else s.mixer.cellSeq[bus] := by
  induction bs generalizing s with
  | nil => rfl
  | cons b bs ih =>
    obtain ⟨hb, hbs⟩ := List.nodup_cons.mp hbs
    rw [handPeriod_cons, ih _ hbs, handBus_cellSeq]
    by_cases h : b = bus
    · subst b
      rw [if_neg hb, if_pos rfl, if_pos List.mem_cons_self]
    · simp only [if_neg h, List.mem_cons, Ne.symm h, false_or]

/-- R88: with room, the cells of a period join the audio list in the order of its buses. -/
theorem handPeriod_asm (c : CellPeriod) (bs : List (Fin 8)) (s : State) (hbs : bs.Nodup)
    (hroom : s.asm.audio.length + bs.length ≤ 48) : (handPeriod c bs s).asm
      = { s.asm with audio := s.asm.audio ++ bs.map (fun b => audioCell s.ref.recent c b s.mixer.cellSeq[b]) } := by
  induction bs generalizing s with
  | nil =>
    rw [List.map_nil, List.append_nil]
    rfl
  | cons b bs ih =>
    obtain ⟨hb, hbs⟩ := List.nodup_cons.mp hbs
    rw [List.length_cons] at hroom
    have hasm : (handBus c b s).asm
        = { s.asm with audio := s.asm.audio ++ [audioCell s.ref.recent c b s.mixer.cellSeq[b]] } := by
      rw [handBus, handAudio_room (show _ < 48 by rw [State.withMixer_asm]; omega)]
      rfl
    have hrest : bs.map (fun k => audioCell (handBus c b s).ref.recent c k (handBus c b s).mixer.cellSeq[k])
        = bs.map (fun k => audioCell s.ref.recent c k s.mixer.cellSeq[k]) :=
      List.map_congr_left fun k hk => by
        have hne : b ≠ k := fun e => hb (e ▸ hk)
        rw [handBus_cellSeq, if_neg hne, (handBus_completion c b s).ref]
    rw [handPeriod_cons, ih _ hbs (by rw [hasm, List.length_append, List.length_singleton]; omega), hrest, hasm,
      List.map_cons, List.append_assoc]
    rfl

/-! ## The stamp (R88) -/

/-- R88: the last tick at or before a sample gives the stamp. -/
theorem stampOf_last {before behind : List (Word × Nat)} {tick : Word} {sample n : Nat}
    (hlater : ∀ x ∈ before, n < x.2) (hn : sample ≤ n) :
    stampOf (before ++ (tick, sample) :: behind) n = (tick, min 4095 (n - sample)) := by
  have hfind : (before ++ (tick, sample) :: behind).find? (fun x => decide (x.2 ≤ n)) = some (tick, sample) := by
    rw [List.find?_append, List.find?_eq_none.mpr (fun x hx => by simpa using hlater x hx),
      List.find?_cons_of_pos (by simpa using hn)]
    rfl
  rw [stampOf, hfind]

/-! ## The period that a block finishes, if it finishes one -/

/-- R72: the cells of the period that the block has finished are handed on. -/
def handFinished (fin : Option CellPeriod) (s : State) : State :=
  match fin with
  | some c => handPeriod c c.buses s
  | none => s

theorem handFinished_completion (fin : Option CellPeriod) (s : State) : CompletionActs s (handFinished fin s) := by
  cases fin with
  | none => exact .refl s
  | some c => exact handPeriod_completion c c.buses s

theorem handFinished_mixer (fin : Option CellPeriod) (s : State) :
    ∃ seqs : Vector Word 8, (handFinished fin s).mixer = { s.mixer with cellSeq := seqs } := by
  cases fin with
  | none => exact ⟨s.mixer.cellSeq, rfl⟩
  | some c => exact handPeriod_mixer c c.buses s

theorem handFinished_busClips (fin : Option CellPeriod) (s : State) :
    (handFinished fin s).handler.counters[ctrBusClips] = s.handler.counters[ctrBusClips] := by
  cases fin with
  | none => rfl
  | some c => exact handPeriod_busClips c c.buses s

end Sys2Proof.Machine
end

section
/-! SUPPORT. The block completion as a whole (R72): the mixer's own record, the bus packet, the finished cells. -/

namespace Sys2Proof.Machine

/-! ## The completion in the terms of its block -/

/-- R72, R77, R86, R89: the mixer after a block, from the source runs, the bus outputs and the frames of the block. -/
def mixerAfter (stages : Vector (List Sample × Fade × DelayHistory) 36) (outs : Vector (List Int) 8)
    (frames : List (List Sample)) (m : Mixer) : Mixer :=
  { m with
    fades := mapVec (fun _ r => r.2.1) stages, history := mapVec (fun _ r => trimHistory r.2.2) stages
    xp := mapVec (fun _ c => coefAfter 48 c) m.xp, masters := mapVec (fun _ c => coefAfter 48 c) m.masters
    srcPeak := mapVec (fun i x => peakAfter x stages[i].1) m.srcPeak
    busPeak := mapVec (fun b x => peakAfter x (outs[b].map saturate)) m.busPeak
    block := m.block + 1, work := none
    period := (periodBlock m.live.home (48 * m.block) frames m.period none).1 }

/-- R90: the mixer with its live values kept for the reads of the next block. -/
def keepView (m : Mixer) : Mixer := { m with lastView := liveView m }

/-- R72: the completion from the tables of the block. -/
def completeFrom (stages : Vector (List Sample × Fade × DelayHistory) 36) (outs : Vector (List Int) 8)
    (frames : List (List Sample)) (s : State) : State :=
  handFinished (periodBlock s.mixer.live.home (48 * s.mixer.block) frames s.mixer.period none).2
    (buildBusPacket s.mixer.block frames.flatten
      (countClips (clippedBuses (byRows outs.toList))
        (s.withMixer (keepView (mixerAfter stages outs frames s.mixer)))))

/-- The bus outputs as the model works them out from the source runs. -/
def outsOf (m : Mixer) (stages : Vector (List Sample × Fade × DelayHistory) 36) : Vector (List Int) 8 :=
  Vector.ofFn (fun b => busBlock m b 1 (byRows (stages.toList.map Prod.fst)))

theorem completeWork_from (w : BlockWork) (s : State) : completeWork w s =
    completeFrom (Vector.ofFn (sourceRun w s.mixer)) (outsOf s.mixer (Vector.ofFn (sourceRun w s.mixer)))
      (byRows ((outsOf s.mixer (Vector.ofFn (sourceRun w s.mixer))).toList.map (fun l => l.map saturate))) s := rfl

theorem byRows_sourceRuns (w : BlockWork) (m : Mixer) :
    byRows ((Vector.ofFn (sourceRun w m)).toList.map Prod.fst) = stageRows w m := by
  simp only [byRows, stageRows, Vector.toList_ofFn, List.ofFn_eq_map, List.map_map]
  rfl

theorem outsOf_sourceRuns (w : BlockWork) (m : Mixer) :
    outsOf m (Vector.ofFn (sourceRun w m)) = Vector.ofFn (busRun w m) := by
  rw [outsOf, byRows_sourceRuns]
  exact congrArg Vector.ofFn (funext (busBlock_stageRows w m))

theorem byRows_saturated (w : BlockWork) (m : Mixer) :
    byRows ((Vector.ofFn (busRun w m)).toList.map (fun l => l.map saturate)) = blockFrames w m := by
  simp only [byRows, blockFrames, Vector.toList_ofFn, List.ofFn_eq_map, List.map_map]
  refine List.map_congr_left fun i hi => List.map_congr_left fun bus _ => ?_
  simp only [Function.comp_apply, busRun, List.map_map]
  exact getD_map_range _ _ (List.mem_range.mp hi)

/-- The mixer's record once the block in work is done. -/
def completedMixer (w : BlockWork) (m : Mixer) : Mixer :=
  keepView (mixerAfter (Vector.ofFn (sourceRun w m)) (Vector.ofFn (busRun w m)) (blockFrames w m) m)

/-- R80, R15: the completion up to its bus packet. -/
def packetBuilt (w : BlockWork) (s : State) : State :=
  buildBusPacket s.mixer.block (blockFrames w s.mixer).flatten
    (countClips (clippedIn (blockOut w s.mixer) (List.range 48)) (s.withMixer (completedMixer w s.mixer)))

theorem completeWork_eq (w : BlockWork) (s : State) : completeWork w s =
    handFinished (periodBlock s.mixer.live.home (48 * s.mixer.block) (blockFrames w s.mixer) s.mixer.period none).2
      (packetBuilt w s) := by
  rw [completeWork_from, outsOf_sourceRuns, byRows_saturated, completeFrom, clippedBuses_runs]
  rfl

/-! ## The mixer's record after the block -/

/-- R72, R90: what a block leaves of the mixer's record. -/
structure Completed (home : List (Fin 8)) (frames : List (List Sample)) (m n : Mixer) : Prop where
  live : n.live = m.live
  cued : n.cued = m.cued
  law : n.law = m.law
  ramp : n.ramp = m.ramp
  wordLens : n.wordLens = m.wordLens
  cellSeq : n.cellSeq = m.cellSeq
  clipCount : n.clipCount = m.clipCount
  block : n.block = m.block + 1
  work : n.work = none
  period : n.period = (periodBlock home (48 * m.block) frames m.period none).1

theorem mixerAfter_completed (stages : Vector (List Sample × Fade × DelayHistory) 36) (outs : Vector (List Int) 8)
    (frames : List (List Sample)) (m : Mixer) :
    Completed m.live.home frames m (keepView (mixerAfter stages outs frames m)) := by
  constructor <;> simp only [keepView, mixerAfter]

theorem completedMixer_completed (w : BlockWork) (m : Mixer) :
    Completed m.live.home (blockFrames w m) m (completedMixer w m) := mixerAfter_completed _ _ _ _

/-! ## The peaks (R89) -/

theorem ofFn_getElem {α : Type} {n : Nat} (f : Fin n → α) (i : Fin n) : (Vector.ofFn f)[i] = f i := by simp

theorem completedMixer_srcPeak (w : BlockWork) (m : Mixer) (src : Fin 36) :
    (completedMixer w m).srcPeak[src] = peakAfter m.srcPeak[src] (sourceRun w m src).1 := by
  have h : (completedMixer w m).srcPeak
      = mapVec (fun i x => peakAfter x (Vector.ofFn (sourceRun w m))[i].1) m.srcPeak := rfl
  rw [h, mapVec_getElem, ofFn_getElem]

theorem completedMixer_busPeak (w : BlockWork) (m : Mixer) (bus : Fin 8) :
    (completedMixer w m).busPeak[bus] = peakAfter m.busPeak[bus] ((busRun w m bus).map saturate) := by
  have h : (completedMixer w m).busPeak
      = mapVec (fun b x => peakAfter x ((Vector.ofFn (busRun w m))[b].map saturate)) m.busPeak := rfl
  rw [h, mapVec_getElem, ofFn_getElem]

/-- R89: the peak of a bus over the block, said of its samples. -/
theorem busRun_peak (w : BlockWork) (m : Mixer) (bus : Fin 8) (p : Nat) :
    p ≤ peakAfter p ((busRun w m bus).map saturate) ∧
    (∀ i, i < 48 → (saturate (blockOut w m i bus)).natAbs ≤ peakAfter p ((busRun w m bus).map saturate)) ∧
    (peakAfter p ((busRun w m bus).map saturate) = p ∨
      ∃ i, i < 48 ∧ (saturate (blockOut w m i bus)).natAbs = peakAfter p ((busRun w m bus).map saturate)) := by
  obtain ⟨hge, hall, hsome⟩ := peakAfter_max ((busRun w m bus).map saturate) p
  refine ⟨hge, fun i hi => hall _ (List.mem_map_of_mem (List.mem_map_of_mem (List.mem_range.mpr hi))), ?_⟩
  refine hsome.imp_right fun ⟨z, hz, he⟩ => ?_
  obtain ⟨x, hx, rfl⟩ := List.mem_map.mp hz
  obtain ⟨i, hi, rfl⟩ := List.mem_map.mp hx
  exact ⟨i, List.mem_range.mp hi, he⟩

/-! ## The bus packet (R15, R17) -/

theorem buildBusPacket_new {block : Nat} {samples : List Sample} {s : State} (h : s.port.bus = none) :
    buildBusPacket block samples s = s.withPort
      { s.port with bus := some ⟨s.port.busSeq, block, samples⟩, busSeq := s.port.busSeq + 1 } := by
  rw [buildBusPacket, h]

theorem buildBusPacket_replaces {block : Nat} {samples : List Sample} {s : State} {old : BusPacket}
    (h : s.port.bus = some old) : buildBusPacket block samples s
      = (s.withPort { s.port with bus := some ⟨old.seq, block, samples⟩ }).bump ctrBusLost 1 := by
  rw [buildBusPacket, h]

/-- R15: besides the port and the report of a lost packet, the building of the bus packet moves nothing. -/
structure PacketActs (s t : State) : Prop where
  lanes : t.lanes = s.lanes
  store : t.store = s.store
  paths : t.paths = s.paths
  clips : t.clips = s.clips
  labels : t.labels = s.labels
  ref : t.ref = s.ref
  mixer : t.mixer = s.mixer
  asm : t.asm = s.asm
  busClips : t.handler.counters[ctrBusClips] = s.handler.counters[ctrBusClips]
  clipFlags : ∀ k : Nat, (.busClip, k) ∈ s.handler.flags → (.busClip, k) ∈ t.handler.flags

theorem buildBusPacket_acts (block : Nat) (samples : List Sample) (s : State) :
    PacketActs s (buildBusPacket block samples s) := by
  cases h : s.port.bus with
  | none =>
    rw [buildBusPacket_new h]
    exact ⟨rfl, rfl, rfl, rfl, rfl, rfl, rfl, rfl, rfl, fun _ hk => hk⟩
  | some old =>
    rw [buildBusPacket_replaces h]
    exact ⟨rfl, rfl, rfl, rfl, rfl, rfl, rfl, rfl, bump_counter_other _ _ (by decide) (by decide),
      fun _ hk => (mem_flags_bump_iff (by simp)).mpr hk⟩

end Sys2Proof.Machine
end

section
/-! SUPPORT. The block completion, part by part, and the obligation on it. -/

namespace Sys2Proof.Machine

/-! ## Up to the bus packet -/

/-- R80: the completion up to the counting of its clipped samples. -/
def clipsCounted (w : BlockWork) (s : State) : State :=
  countClips (clippedIn (blockOut w s.mixer) (List.range 48)) (s.withMixer (completedMixer w s.mixer))

theorem packetBuilt_eq (w : BlockWork) (s : State) :
    packetBuilt w s = buildBusPacket s.mixer.block (blockFrames w s.mixer).flatten (clipsCounted w s) := rfl

theorem clipsCounted_acts (w : BlockWork) (s : State) : CompletionActs s (clipsCounted w s) :=
  (withMixer_completion s _).trans (countClips_completion _ _)

theorem packetBuilt_acts (w : BlockWork) (s : State) : PacketActs (clipsCounted w s) (packetBuilt w s) :=
  buildBusPacket_acts _ _ _

theorem packetBuilt_mixer (w : BlockWork) (s : State) :
    ∃ counts : Vector Nat 8, (packetBuilt w s).mixer = { completedMixer w s.mixer with clipCount := counts } := by
  obtain ⟨counts, h⟩ := countClips_mixer (clippedIn (blockOut w s.mixer) (List.range 48))
    (s.withMixer (completedMixer w s.mixer))
  exact ⟨counts, (packetBuilt_acts w s).mixer.trans h⟩

theorem packetBuilt_asm (w : BlockWork) (s : State) : (packetBuilt w s).asm = s.asm := by
  rw [(packetBuilt_acts w s).asm, clipsCounted, countClips_asm, State.withMixer_asm]

theorem packetBuilt_ref (w : BlockWork) (s : State) : (packetBuilt w s).ref = s.ref :=
  (packetBuilt_acts w s).ref.trans (clipsCounted_acts w s).ref

theorem packetBuilt_cellSeq (w : BlockWork) (s : State) : (packetBuilt w s).mixer.cellSeq = s.mixer.cellSeq := by
  obtain ⟨counts, h⟩ := packetBuilt_mixer w s
  simp only [h, (completedMixer_completed w s.mixer).cellSeq]

/-- R15, R17: the packet of the block waits; one that still waited gives it its sequence and is counted as lost. -/
theorem packetBuilt_port (w : BlockWork) (s : State) : ∃ seq : Half,
    (packetBuilt w s).port.bus = some ⟨seq, s.mixer.block, (blockFrames w s.mixer).flatten⟩ ∧
    (s.port.bus = none → seq = s.port.busSeq ∧ (packetBuilt w s).port.busSeq = s.port.busSeq + 1 ∧
      ((packetBuilt w s).port.egress.length < 32 →
        (packetBuilt w s).handler.counters[ctrBusLost] = s.handler.counters[ctrBusLost])) ∧
    (∀ old, s.port.bus = some old → seq = old.seq ∧ (packetBuilt w s).port.busSeq = s.port.busSeq ∧
      ((packetBuilt w s).port.egress.length < 32 →
        (packetBuilt w s).handler.counters[ctrBusLost] = s.handler.counters[ctrBusLost] + 1)) := by
  have hacts := clipsCounted_acts w s
  rw [packetBuilt_eq]
  cases hbus : s.port.bus with
  | none =>
    rw [buildBusPacket_new (hacts.bus.trans hbus), hacts.busSeq]
    exact ⟨s.port.busSeq, rfl, fun _ => ⟨rfl, rfl, hacts.lost⟩, fun _ h => (nomatch h)⟩
  | some old =>
    rw [buildBusPacket_replaces (hacts.bus.trans hbus)]
    refine ⟨old.seq, State.bump_port_bus _ _ _, fun h => (nomatch h), fun _ h => ?_⟩
    cases h
    refine ⟨rfl, (State.bump_port_busSeq _ _ _).trans hacts.busSeq, fun hroom => ?_⟩
    have hbefore := (bump_egress_le _ _ _).trans_lt hroom
    rw [bump_counters_room hroom, add_counter_self, State.withPort_handler, hacts.lost hbefore]
    rfl

/-! ## The mixer after the completion -/

theorem completeWork_mixer (w : BlockWork) (s : State) : ∃ (counts : Vector Nat 8) (seqs : Vector Word 8),
    (completeWork w s).mixer = { completedMixer w s.mixer with clipCount := counts, cellSeq := seqs } := by
  obtain ⟨counts, hp⟩ := packetBuilt_mixer w s
  rw [completeWork_eq]
  obtain ⟨seqs, hf⟩ := handFinished_mixer
    (periodBlock s.mixer.live.home (48 * s.mixer.block) (blockFrames w s.mixer) s.mixer.period none).2 (packetBuilt w s)
  exact ⟨counts, seqs, by rw [hf, hp]⟩

theorem completeWork_period (w : BlockWork) (s : State) : (completeWork w s).mixer.period
    = (periodBlock s.mixer.live.home (48 * s.mixer.block) (blockFrames w s.mixer) s.mixer.period none).1 := by
  obtain ⟨counts, seqs, h⟩ := completeWork_mixer w s
  simp only [h, (completedMixer_completed w s.mixer).period]

theorem completeWork_clipCount (w : BlockWork) (s : State) :
    (completeWork w s).mixer.clipCount = (clipsCounted w s).mixer.clipCount := by
  rw [completeWork_eq]
  obtain ⟨seqs, hf⟩ := handFinished_mixer
    (periodBlock s.mixer.live.home (48 * s.mixer.block) (blockFrames w s.mixer) s.mixer.period none).2 (packetBuilt w s)
  rw [hf, (packetBuilt_acts w s).mixer]

/-- R80: the clip count of a bus, and the report where it has clipped. -/
theorem completeWork_clips (w : BlockWork) (s : State) (bus : Fin 8) {n : Nat}
    (hn : n = ((List.range 48).filter (fun i => clips (blockOut w s.mixer i bus))).length) :
    (n = 0 → (completeWork w s).mixer.clipCount[bus] = s.mixer.clipCount[bus]) ∧
    (0 < n → (completeWork w s).mixer.clipCount[bus] = min 4294967295 (s.mixer.clipCount[bus] + n) ∧
      (.busClip, bus.val) ∈ (completeWork w s).handler.flags) := by
  have hcount := clippedIn_count (blockOut w s.mixer) bus (List.range 48)
  have hclip : (completeWork w s).mixer.clipCount[bus]
      = if n = 0 then s.mixer.clipCount[bus] else min 4294967295 (s.mixer.clipCount[bus] + n) := by
    rw [completeWork_clipCount, clipsCounted, countClips_clipCount, hcount, ← hn, State.withMixer_mixer,
      (completedMixer_completed w s.mixer).clipCount]
  refine ⟨fun h0 => hclip.trans (if_pos h0), fun hpos => ⟨hclip.trans (if_neg (by omega)), ?_⟩⟩
  have hmem : bus ∈ clippedIn (blockOut w s.mixer) (List.range 48) :=
    List.count_pos_iff.mp (by rw [hcount, ← hn]; exact hpos)
  rw [completeWork_eq]
  exact (handFinished_completion _ _).clipFlags _ ((packetBuilt_acts w s).clipFlags _ (countClips_flags _ hmem))

/-- R181: the clip counter rises by the clipped samples of all buses. -/
theorem completeWork_busClips (w : BlockWork) (s : State) : (completeWork w s).handler.counters[ctrBusClips]
    = s.handler.counters[ctrBusClips] + BitVec.ofNat 32 ((List.finRange 8).map
        (fun bus => ((List.range 48).filter (fun i => clips (blockOut w s.mixer i bus))).length)).sum := by
  have hsum := length_eq_sum_count (clippedIn (blockOut w s.mixer) (List.range 48))
  simp only [clippedIn_count] at hsum
  rw [completeWork_eq, handFinished_busClips, (packetBuilt_acts w s).busClips, clipsCounted, countClips_counter, hsum]
  rfl

/-! ## The bus packet after the completion -/

theorem completeWork_port (w : BlockWork) (s : State) : ∃ seq : Half,
    (completeWork w s).port.bus = some ⟨seq, s.mixer.block, (blockFrames w s.mixer).flatten⟩ ∧
    (s.port.bus = none → seq = s.port.busSeq ∧ (completeWork w s).port.busSeq = s.port.busSeq + 1 ∧
      ((completeWork w s).port.egress.length < 32 →
        (completeWork w s).handler.counters[ctrBusLost] = s.handler.counters[ctrBusLost])) ∧
    (∀ old, s.port.bus = some old → seq = old.seq ∧ (completeWork w s).port.busSeq = s.port.busSeq ∧
      ((completeWork w s).port.egress.length < 32 →
        (completeWork w s).handler.counters[ctrBusLost] = s.handler.counters[ctrBusLost] + 1)) := by
  obtain ⟨seq, hbus, hnew, hold⟩ := packetBuilt_port w s
  rw [completeWork_eq]
  have hacts := handFinished_completion
    (periodBlock s.mixer.live.home (48 * s.mixer.block) (blockFrames w s.mixer) s.mixer.period none).2 (packetBuilt w s)
  refine ⟨seq, hacts.bus.trans hbus, fun h => ?_, fun old h => ?_⟩
  · obtain ⟨hseq, hnext, hlost⟩ := hnew h
    exact ⟨hseq, hacts.busSeq.trans hnext, fun hr => (hacts.lost hr).trans (hlost (hacts.egress.trans_lt hr))⟩
  · obtain ⟨hseq, hnext, hlost⟩ := hold old h
    exact ⟨hseq, hacts.busSeq.trans hnext, fun hr => (hacts.lost hr).trans (hlost (hacts.egress.trans_lt hr))⟩

/-! ## The cell period after the completion (R87, R88) -/

/-- R87: a block that finishes no period hands no cell. -/
theorem completeWork_noCells {w : BlockWork} {s : State} {p : Option CellPeriod}
    (h : periodBlock s.mixer.live.home (48 * s.mixer.block) (blockFrames w s.mixer) s.mixer.period none = (p, none)) :
    (completeWork w s).asm = s.asm ∧ (completeWork w s).mixer.period = p := by
  refine ⟨?_, by rw [completeWork_period, h]⟩
  rw [completeWork_eq, h]
  exact packetBuilt_asm w s

/-- R88: the AUDIO cells of a period as the obligation writes them. -/
theorem audioCell_eq {recent : List (Word × Nat)} {q : CellPeriod} {tick : Word} {offset : Nat}
    (os : List (List Sample)) (b : Fin 8) (seq : Word) (h : stampOf recent q.start = (tick, offset)) :
    audioCell recent (q.add os) b seq = ⟨.audio, noFlags, b.val, b.val * 4096 + offset, tick, seq,
      (q.samples ++ os).flatMap (fun x => bytesSample (x.getD b.val 0)), 0⟩ := by
  have hstamp : stampOf recent (q.add os).start = (tick, offset) := h
  simp only [audioCell, hstamp]
  rfl

/-- R88, R122: with room, the finished period is handed on as one cell for each of its buses. -/
theorem completeWork_cells {w : BlockWork} {s : State} {q : CellPeriod} {os : List (List Sample)} {tick : Word}
    {offset : Nat}
    (h : (periodBlock s.mixer.live.home (48 * s.mixer.block) (blockFrames w s.mixer) s.mixer.period none).2
      = some (q.add os))
    (hstamp : stampOf s.ref.recent q.start = (tick, offset)) (hbuses : q.buses.Nodup)
    (hroom : s.asm.audio.length + q.buses.length ≤ 48) :
    (completeWork w s).asm = { s.asm with
      audio := s.asm.audio ++ q.buses.map (fun b => (⟨.audio, noFlags, b.val, b.val * 4096 + offset, tick,
        s.mixer.cellSeq[b], (q.samples ++ os).flatMap (fun x => bytesSample (x.getD b.val 0)), 0⟩ : Cell)) } ∧
    ∀ bus : Fin 8, (completeWork w s).mixer.cellSeq[bus]
      = if bus ∈ q.buses then s.mixer.cellSeq[bus] + 1 else s.mixer.cellSeq[bus] := by
  have hrun : completeWork w s = handPeriod (q.add os) q.buses (packetBuilt w s) := by
    rw [completeWork_eq, h]
    rfl
  rw [hrun]
  constructor
  · rw [handPeriod_asm _ _ _ hbuses (by rw [packetBuilt_asm]; exact hroom), packetBuilt_asm, packetBuilt_ref,
      packetBuilt_cellSeq]
    simp only [audioCell_eq os _ _ hstamp]
  · intro bus
    rw [handPeriod_cellSeq _ _ _ _ hbuses, packetBuilt_cellSeq]

end Sys2Proof.Machine
end

section
/-! SUPPORT. The obligation on the block completion, from its parts. -/

namespace Sys2Proof.Machine

theorem blockCompletion_idle {s : State} (h : s.mixer.work = none) : blockCompletion s = s := by
  rw [blockCompletion, h]

theorem blockCompletion_work {s : State} {w : BlockWork} (h : s.mixer.work = some w) :
    blockCompletion s = completeWork w s := by
  rw [blockCompletion, h]

/-- R72, R90: the tables the user loads stay, the block number rises, and no block is in work. -/
theorem completeWork_tables (w : BlockWork) (s : State) :
    (completeWork w s).mixer.work = none ∧ (completeWork w s).mixer.block = s.mixer.block + 1 ∧
    (completeWork w s).mixer.live = s.mixer.live ∧ (completeWork w s).mixer.cued = s.mixer.cued ∧
    (completeWork w s).mixer.law = s.mixer.law ∧ (completeWork w s).mixer.ramp = s.mixer.ramp ∧
    (completeWork w s).mixer.wordLens = s.mixer.wordLens := by
  have h := completedMixer_completed w s.mixer
  obtain ⟨counts, seqs, hm⟩ := completeWork_mixer w s
  simp only [hm, h.work, h.block, h.live, h.cued, h.law, h.ramp, h.wordLens, and_self]

theorem completeWork_peaks (w : BlockWork) (s : State) :
    (completeWork w s).mixer.srcPeak = (completedMixer w s.mixer).srcPeak ∧
    (completeWork w s).mixer.busPeak = (completedMixer w s.mixer).busPeak := by
  obtain ⟨counts, seqs, hm⟩ := completeWork_mixer w s
  simp only [hm, and_self]

theorem completeWork_others (w : BlockWork) (s : State) :
    (completeWork w s).lanes = s.lanes ∧ (completeWork w s).store = s.store ∧ (completeWork w s).paths = s.paths ∧
    (completeWork w s).clips = s.clips ∧ (completeWork w s).labels = s.labels ∧ (completeWork w s).ref = s.ref := by
  have h := clipsCounted_acts w s
  have g := packetBuilt_acts w s
  rw [completeWork_eq]
  have k := handFinished_completion
    (periodBlock s.mixer.live.home (48 * s.mixer.block) (blockFrames w s.mixer) s.mixer.period none).2 (packetBuilt w s)
  exact ⟨k.lanes.trans (g.lanes.trans h.lanes), k.store.trans (g.store.trans h.store),
    k.paths.trans (g.paths.trans h.paths), k.clips.trans (g.clips.trans h.clips),
    k.labels.trans (g.labels.trans h.labels), k.ref.trans (g.ref.trans h.ref)⟩

/-- R87: a block from the start of a period opens it. -/
theorem completeWork_opens {w : BlockWork} {s : State} (h : 48 * s.mixer.block % 80 = 0) :
    (completeWork w s).asm = s.asm ∧
    (completeWork w s).mixer.period = some ⟨s.mixer.live.home, 48 * s.mixer.block, blockFrames w s.mixer⟩ :=
  completeWork_noCells (periodBlock_block_begins _ (blockFrames_length _ _) h)

/-- R87: a block within a period joins it. -/
theorem completeWork_joins {w : BlockWork} {s : State} {q : CellPeriod} (hq : s.mixer.period = some q)
    (h0 : 0 < 48 * s.mixer.block % 80) (h : 48 * s.mixer.block % 80 < 32) :
    (completeWork w s).asm = s.asm ∧
    (completeWork w s).mixer.period = some { q with samples := q.samples ++ blockFrames w s.mixer } := by
  have hrun := periodBlock_block_within (home := s.mixer.live.home) q (blockFrames_length w s.mixer) h0 h
  rw [← hq] at hrun
  exact completeWork_noCells hrun

/-- R87: a block that ends a period leaves the one it begins, if it begins one. -/
theorem completeWork_nextPeriod {w : BlockWork} {s : State} {q : CellPeriod} (hq : s.mixer.period = some q)
    (h : 32 ≤ 48 * s.mixer.block % 80) : (completeWork w s).mixer.period = if 48 * s.mixer.block % 80 = 32 then none
      else some ⟨s.mixer.live.home, 48 * s.mixer.block + (80 - 48 * s.mixer.block % 80),
        (blockFrames w s.mixer).drop (80 - 48 * s.mixer.block % 80)⟩ := by
  rw [completeWork_period, hq]
  exact (periodBlock_block_ends q (blockFrames_length w s.mixer) h).2

/-- Settles O25: the completion is the counting of the clipped samples, the bus packet and the cells of the period that
the block finishes, over the source and bus stages sample by sample. -/
theorem blockCompletionBuildsTheBusPacket : Obligations.BlockCompletionBuildsTheBusPacket := by
  unfold Obligations.BlockCompletionBuildsTheBusPacket
  refine ⟨fun s hpower => ⟨fun hidle => ?_, ?_⟩, ?_, fun s x => ⟨handAudio_room, fun y rest => handAudio_full⟩⟩
  · exact (live_on hpower).trans (congrArg _ (blockCompletion_idle hidle))
  · intro w stage out clipped o hwork hstage hout hclipped ho
    obtain rfl : stage = fun src => (sourceRun w s.mixer src).1 := funext hstage
    obtain rfl : out = blockOut w s.mixer := funext fun i => funext fun bus => hout i bus
    obtain rfl : clipped = fun bus => ((List.range 48).filter (fun i => clips (blockOut w s.mixer i bus))).length :=
      funext hclipped
    subst ho
    obtain ⟨seq, hbus, hnew, hold⟩ := completeWork_port w s
    obtain ⟨hidle, hblock, hlive, hcued, hlaw, hramp, hlens⟩ := completeWork_tables w s
    obtain ⟨hlanes, hstore, hpaths, hclips, hlabels, href⟩ := completeWork_others w s
    obtain ⟨hsrc, hpeak⟩ := completeWork_peaks w s
    refine ⟨completeWork w s, ⟨seq, s.mixer.block, (blockFrames w s.mixer).flatten⟩, blockFrames w s.mixer,
      (live_on hpower).trans (congrArg _ (blockCompletion_work hwork)), hidle, hblock, hbus, rfl, rfl,
      blockFrames_flatten_length _ _, fun x => blockFrames_range, rfl, fun i bus => blockFrames_getD _ _ bus, hnew, hold,
      fun bus => completeWork_clips w s bus rfl, completeWork_busClips w s, fun src => ?_, fun bus => ?_,
      completeWork_opens, fun q hq => ⟨completeWork_joins hq, fun hend => ⟨fun h32 => ?_, fun n hn h32 => ?_, ?_⟩⟩,
      hlive, hcued, hlaw, hramp, hlens, hlanes, hstore, hpaths, hclips, hlabels, href⟩
    · rw [hsrc, completedMixer_srcPeak]
      exact peakAfter_max _ _
    · rw [hpeak, completedMixer_busPeak]
      exact busRun_peak w s.mixer bus _
    · rw [completeWork_nextPeriod hq hend, if_pos h32]
    · rw [completeWork_nextPeriod hq hend, if_neg (Nat.ne_of_gt h32), hn]
    · intro tick offset hstamp hbuses hroom
      have hfin := (periodBlock_block_ends (home := s.mixer.live.home) q (blockFrames_length w s.mixer) hend).1
      rw [← hq] at hfin
      exact completeWork_cells hfin hstamp hbuses hroom
  · rintro recent before behind tick sample n rfl hlater hn
    exact stampOf_last hlater hn

end Sys2Proof.Machine
end

section
/-! SUPPORT. Every well-formed command answers, and none is refused (R28, R175). -/

namespace Sys2Proof.Machine

theorem live_answers (s : State) (f : State → State) : ∃ t, live s f = .next t := by
  cases h : s.power with
  | true => exact ⟨_, live_on h⟩
  | false => exact ⟨_, live_off h⟩

theorem live_not_refused (s : State) (f : State → State) (r : Refusal) : live s f ≠ .refused r := by
  obtain ⟨t, h⟩ := live_answers s f
  rw [h]; nofun

/-- R28: a coded size of 32 bytes or more that the width allows, or an idle engine, is no fault. -/
theorem exec_sliceCoded_live {s : State} {l : Lane} {bytes : List Byte} (hmin : 32 ≤ bytes.length)
    (hmax : bytes.length ≤ codingWidth s.lanes[l] * 48 ∨ s.lanes[l].engine = none) :
    exec (.sliceCoded l bytes) s = live s (sliceCoded l bytes) := by
  simp only [exec, execSliceCoded]
  rw [if_neg]
  generalize s.lanes[l] = c at hmax
  rcases hmax with h | h
  · simp [hmin, h]
  · simp [h]

/-- Outside the range of R28 a busy engine has no such event. -/
theorem exec_sliceCoded_fault {s : State} {l : Lane} {bytes : List Byte} (hp : s.power = true)
    (he : s.lanes[l].engine.isSome = true) (h : bytes.length < 32 ∨ codingWidth s.lanes[l] * 48 < bytes.length) :
    exec (.sliceCoded l bytes) s = .fault .codedSize := by
  simp only [exec, execSliceCoded]
  generalize s.lanes[l] = c at he h
  rw [if_pos (by simpa [hp, he] using h)]

theorem wellFormed_sliceCoded {l : Lane} {bytes : List Byte} (h : (Instr.sliceCoded l bytes).wellFormed = true) :
    32 ≤ bytes.length := by
  by_contra hlt
  simp [Instr.wellFormed, Instr.check, Nat.not_le.1 hlt] at h

theorem wellFormed_unknownDirective {name : Word} {d : Directive}
    (h : (Instr.unknownDirective name d).wellFormed = true) : knownName name = false := by
  by_contra hk
  simp [Instr.wellFormed, Instr.check, Bool.of_not_eq_false hk] at h

theorem exec_answers (c : Instr) (s : State) (hw : c.wellFormed = true)
    (hsize : ∀ l bytes, c = .sliceCoded l bytes →
      bytes.length ≤ codingWidth s.lanes[l] * 48 ∨ s.lanes[l].engine = none) : ∃ t, exec c s = .next t := by
  by_cases hc : standsApart c
  · cases c with
    | powerOn | contactRawChange | carrierPresent | carrierLost => exact ⟨_, rfl⟩
    | sliceCoded l bytes =>
      rw [exec_sliceCoded_live (wellFormed_sliceCoded hw) (hsize l bytes rfl)]
      exact live_answers _ _
    | unknownDirective name d =>
      simp only [exec, execUnknownDirective, wellFormed_unknownDirective hw]
      exact live_answers _ _
    | _ => exact hc.elim
  · obtain ⟨f, hf⟩ := exec_live c hc
    rw [hf]
    exact live_answers s f

theorem exec_not_refused (c : Instr) (s : State) (r : Refusal) : exec c s ≠ .refused r := by
  by_cases hc : standsApart c
  · cases c with
    | powerOn | contactRawChange | carrierPresent | carrierLost => exact fun h => by cases h
    | sliceCoded l bytes =>
      simp only [exec, execSliceCoded]
      split
      · nofun
      · exact live_not_refused _ _ _
    | unknownDirective name d =>
      simp only [exec, execUnknownDirective]
      split
      · nofun
      · exact live_not_refused _ _ _
    | _ => exact hc.elim
  · obtain ⟨f, hf⟩ := exec_live c hc
    rw [hf]
    exact live_not_refused s f r

/-- Settles O3: all but six commands are one act of a machine with power, and of those six only two can fault. -/
theorem wellFormedCommandsAnswer : Obligations.WellFormedCommandsAnswer :=
  ⟨exec_answers, exec_not_refused⟩

end Sys2Proof.Machine
end

section
/-! SUPPORT. The machine that power-on leaves (R183), and the invariants there. -/

namespace Sys2Proof.Machine

theorem resetBlocks_reset : resetBlocks State.reset = State.reset := by
  have hc : mapVec (fun _ (c : Contact) => resetContact c.raw) State.reset.contacts = State.reset.contacts := by decide
  have hp : mapVec (fun _ (c : PathCtl) => resetPath c.carrier) State.reset.paths = State.reset.paths := by decide
  unfold resetBlocks
  rw [hc, hp]
  rfl

theorem reset_records (l : Lane) : State.reset.store.records[l] = [] := by simp [State.reset, resetStore]

theorem reset_lane (l : Lane) : State.reset.lanes[l] = resetLane := by simp [State.reset]

theorem rateInRange_reset : rateInRange State.reset = true := by decide

/-- Settles O9: each value as its block's reset gives it, and the invariants of O56 to O60 at the reset state. -/
theorem powerOnValues : Obligations.PowerOnValues := by
  have hlist : listBounds State.reset = true := by
    rw [listBounds_iff, ← resetBlocks_reset]
    exact fits_resetBlocks _
  have hyoung : recordsYoung State.reset := by
    intro l r hr
    rw [reset_records] at hr
    cases hr
  have hfree : State.reset.store.free.length = 16384 := by
    have h : State.reset.store.free = List.range' 0 16384 := blocksFrom_eq 16384 0
    rw [h, List.length_range']
  refine ⟨rfl, fun l => ?_, hfree, rfl, rfl, fun src => ?_, rfl, rfl, fun p => ?_, rfl, rfl, rfl, rfl, rfl, rfl, rfl, rfl,
    rfl, rfl, rfl, rfl, rfl, fun j => ?_, rfl, rfl, hlist, storeSound_resetStore, hyoung, rateInRange_reset⟩
  · rw [reset_lane]; exact ⟨rfl, rfl, rfl, rfl, rfl⟩
  · simp [State.reset, resetMixer]
  · simp [State.reset, resetPath, resetAsm]
  · simp [State.reset, resetHandler]

end Sys2Proof.Machine
end

section
/-! SUPPORT. What a directive that reaches its owner comes to, said once by the owner's answer (R175 to R177). -/

namespace Sys2Proof.Machine

variable {n : DirName} {d : Directive} {s u : State}

theorem directiveOf_directiveCommand (n : DirName) (d : Directive) : directiveOf (directiveCommand n d) = some (n, d) := by
  cases n <;> rfl

theorem exec_reaches (h : reaches n d s u) : exec (directiveCommand n d) s = .next (settled n
    (answered n d (ownerOf n d.words u).result (ownerOf n d.words u).report (ownerOf n d.words u).state)) := by
  obtain ⟨h, rfl⟩ := h
  rw [exec_directive (directiveOf_directiveCommand n d), live_on (reachesOwner_power h), takeDirective_owner h]
  rfl

theorem exec_refused {r : Result} (h : reaches n d s u) (ho : ownerOf n d.words u = refuse u r) :
    exec (directiveCommand n d) s = .next (refused n d r u) := by
  rw [exec_reaches h, ho]
  rfl

theorem exec_reply {v : State} {report : Report} (h : reaches n d s u) (ho : ownerOf n d.words u = reply v report)
    (hm : mayMark n = false) : exec (directiveCommand n d) s = .next (answered n d .success report v) := by
  rw [exec_reaches h, ho, settled, hm]
  rfl

theorem exec_success {v : State} (h : reaches n d s u) (ho : ownerOf n d.words u = success v)
    (hm : mayMark n = false) : exec (directiveCommand n d) s = .next (answered n d .success .empty v) :=
  exec_reply h ho hm

theorem finOf_val {m x : Nat} {i : Fin m} (h : x = i.val) : finOf m x = some i := by
  rw [h, finOf_of_lt i.isLt]

end Sys2Proof.Machine
end

section
/-! SUPPORT. The reading directives (R36, R70, R90, R112, R130, R150, R163, R174): the owners' answers, which leave the
machine as it is, and the items that they name. -/

namespace Sys2Proof.Machine

variable {d : Directive} {s u : State}

/-! ## The owners' answers -/

theorem actRdln_lane {ws : List Word} {l : Lane} (h : wordAt ws 0 = l.val) :
    actRdln ws u = reply u (.lane (laneReport u l)) := by
  rw [actRdln, finOf_val h]

theorem actRdln_range {ws : List Word} (h : 5 < wordAt ws 0) : actRdln ws u = refuse u .range := by
  rw [actRdln, finOf_of_le h]

theorem actRdpt_path {ws : List Word} {p : PathNo} (h : wordAt ws 0 = p.val) :
    actRdpt ws u = reply u (.path (pathReport u p)) := by
  rw [actRdpt, finOf_val h]

theorem actRdpt_range {ws : List Word} (h : 3 < wordAt ws 0) : actRdpt ws u = refuse u .range := by
  rw [actRdpt, finOf_of_le h]

theorem actRdcl_found {ws : List Word} {c : Clip} (h : findClip u (wordAt ws 0) = some c) :
    actRdcl ws u = reply u (.clip (clipReport u c)) := by
  rw [actRdcl, h]

theorem actRdcl_missing {ws : List Word} (h : findClip u (wordAt ws 0) = none) :
    actRdcl ws u = refuse u .notFound := by
  rw [actRdcl, h]

theorem actRdmx_cued {ws : List Word} (h : wordAt ws 0 = 0) :
    actRdmx ws u = reply u (.cuedBank (bankReport u.mixer.cued u.mixer.wordLens u.mixer.ramp)) := by
  rw [actRdmx, h]
  rfl

theorem actRdmx_live {ws : List Word} {v : LiveView} (h : wordAt ws 0 = 1) (hv : viewNow u.mixer = v) :
    actRdmx ws u = reply u (.liveBank (bankReport v.bank v.wordLens v.ramp) (liveReport v)) := by
  rw [actRdmx, h, hv]
  rfl

theorem actRdmx_law {ws : List Word} (h : wordAt ws 0 = 2) : actRdmx ws u = reply u (.law u.mixer.law.toList) := by
  rw [actRdmx, h]
  rfl

theorem actRdmx_range {ws : List Word} (h : 2 < wordAt ws 0) : actRdmx ws u = refuse u .range := by
  unfold actRdmx
  split
  · next h0 => rw [h0] at h; cases h
  · next h1 => rw [h1] at h; omega
  · next h2 => rw [h2] at h; omega
  · rfl

/-- R90: between blocks the live values are as they stand; in a block, as the last completion left them. -/
theorem viewNow_between {m : Mixer} (h : m.work = none) : viewNow m = liveView m := by simp [viewNow, h]

theorem viewNow_during {m : Mixer} (h : m.work.isSome = true) : viewNow m = m.lastView := if_pos h

/-- R90: a completion keeps the live values as they then stand. -/
theorem completeWork_lastView (w : BlockWork) (s : State) :
    (completeWork w s).mixer.lastView = liveView (completeWork w s).mixer := by
  obtain ⟨counts, seqs, h⟩ := completeWork_mixer w s
  rw [h]
  simp only [completedMixer, keepView, liveView]

/-! ## What the answers hold -/

theorem msLeft_bounds (clock due : Nat) :
    due - clock ≤ 48 * msLeft clock due ∧ 48 * msLeft clock due < due - clock + 48 := by
  unfold msLeft ceilDiv
  omega

theorem pathReport_timer {p : PathNo} {due : Nat} (h : u.paths[p].timer = some due) :
    (pathReport u p).timerMs = msLeft u.ref.clock due := by
  simp only [pathReport, h]

theorem assemblyReport_lane (l : Lane) : (assemblyReport u).lanes[l] =
    ⟨u.asm.cursors[l].map (fun c => (c.tick, c.slice)), u.asm.awaiting[l], u.asm.gen[l], u.asm.effLimit[l]⟩ :=
  ofFn_getElem _ l

theorem assemblyReport_path (p : PathNo) : (assemblyReport u).paths[p] =
    ⟨u.asm.marks[p].high, u.asm.marks[p].low, u.asm.opened[p], u.paths[p].queue.length,
      if isCandidate u false p then some (loadFigure u.paths[p]) else none⟩ :=
  ofFn_getElem _ p

/-- R116: a path is a candidate for a cell that is no picture when it is UP and its queue has room. -/
theorem isCandidate_plain {p : PathNo} :
    isCandidate u false p = true ↔ u.paths[p].state = .up ∧ u.paths[p].queue.length < 128 := by
  simp only [isCandidate, Bool.and_eq_true, decide_eq_true_eq, Bool.not_false, Bool.true_or, and_true]

theorem countRecords_eq (st : CodedStore) (f : FrameRecord → Bool) :
    countRecords st f = (((List.finRange 6).flatMap (fun m => st.records[m])).filter f).length := by
  have hall : (allRecords st).map Prod.snd = (List.finRange 6).flatMap (fun m => st.records[m]) := by
    simp only [allRecords, List.map_flatMap, List.map_map]
    exact congrArg (List.flatMap · _) (funext fun m => List.map_id' _)
  rw [← hall, List.filter_map, List.length_map]
  rfl

theorem recordsInUse_flatMap (st : CodedStore) :
    recordsInUse st = ((List.finRange 6).flatMap (fun m => st.records[m])).length := by
  rw [recordsInUse_eq, List.length_flatMap, ← Fin.sum_univ_def]
  exact Finset.sum_congr rfl fun l _ => by simp

theorem storeReport_lane (st : CodedStore) (l : Lane) : (storeReport st).lanes[l] =
    (st.records[l].length, st.records[l].head?.map FrameRecord.tick, (newestRecord st l).map FrameRecord.tick,
      (st.records[l].filter (fun r => decide (r.kind = .key))).getLast?.map FrameRecord.tick) :=
  ofFn_getElem _ l

theorem sectors_suspendErase (clock : Nat) (es : List EraseEntry) :
    (suspendErase clock es).map EraseEntry.sector = es.map EraseEntry.sector := by
  rw [suspendErase, List.map_map]
  refine List.map_congr_left fun e _ => ?_
  rw [Function.comp_apply]
  split <;> rfl

theorem any_toList {α : Type} {n : Nat} {v : Vector α n} {f : α → Bool} :
    v.toList.any f = true ↔ ∃ i : Fin n, f v[i] = true := by
  have h := forall_mem_toList (v := v) (P := fun x => ¬f x = true)
  rw [List.any_eq_true, ← not_iff_not, not_exists, not_exists]
  exact ⟨fun g => h.1 fun x hx hf => g x ⟨hx, hf⟩, fun g x hx => h.2 g x hx.1 hx.2⟩

/-- R172: the lane is on air. -/
theorem tallyActive_iff {contacts : Vector Contact 8} {l : Lane} : tallyActive contacts l = true ↔
    ∃ j : ContactNo, contacts[j].fn = .tally ∧ contacts[j].param = l.val ∧
      (contacts[j].accepted = true ↔ contacts[j].edge ≠ .falling) := by
  rw [tallyActive, any_toList]
  refine exists_congr fun j => ?_
  rw [Bool.and_eq_true, Bool.and_eq_true, decide_eq_true_eq, decide_eq_true_eq, beq_iff_eq, Bool.eq_iff_iff,
    decide_eq_true_eq, and_assoc]

/-- R164: the governance of the sample clock says the state of the unit. -/
theorem governanceOf_steered {r : RefState} : governanceOf r = .steered ↔ r = .locked := by cases r <;> decide

theorem governanceOf_held {r : RefState} : governanceOf r = .held ↔ r = .holdover := by cases r <;> decide

end Sys2Proof.Machine
end

section
/-! SUPPORT. The settlement of O42. -/

namespace Sys2Proof.Machine

theorem storeReport_holds (st : CodedStore) {all : List FrameRecord}
    (hall : all = (List.finRange 6).flatMap (fun m => st.records[m])) : (storeReport st).inUse = all.length ∧
      (storeReport st).writing = (all.filter (fun x => !x.complete)).length ∧
      (storeReport st).pending = (all.filter (fun x => decide (x.live = .pending))).length ∧
      (storeReport st).gone = (all.filter (fun x => decide (x.live = .abandoned))).length ∧
      (storeReport st).withPins = (all.filter (fun x => decide (1 ≤ x.pins))).length := by
  subst hall
  exact ⟨recordsInUse_flatMap st, countRecords_eq st fun x => !x.complete,
    countRecords_eq st fun x => decide (x.live = .pending), countRecords_eq st fun x => decide (x.live = .abandoned),
    countRecords_eq st fun x => decide (1 ≤ x.pins)⟩

theorem labelReport_holds (u : State) (k : Fin 32) : (labelReport u).sectors[k].1 = u.labels.sectors[k] ∧
    (labelReport u).sectors[k].2 = (u.labels.directory.filter (fun e => decide (e.sector = k.val))).length ∧
    (labelReport u).eraseList.map Prod.fst = u.labels.eraseList.map EraseEntry.sector := by
  have hk : (labelReport u).sectors[k]
      = (u.labels.sectors[k], (u.labels.directory.filter (fun e => decide (e.sector = k.val))).length) := by
    simp only [labelReport, mapVec_getElem]
  refine ⟨by rw [hk], by rw [hk], ?_⟩
  simp only [labelReport, List.map_map]
  exact sectors_suspendErase _ _

theorem referenceReport_contact (u : State) (i : ContactNo) : (referenceReport u).contacts[i] =
    ⟨u.contacts[i].fn, u.contacts[i].param, u.contacts[i].edge, u.contacts[i].filterMs, u.contacts[i].raw,
      u.contacts[i].accepted, u.contacts[i].filter.map (fun f => (msLeft u.ref.clock f.due, f.stamp))⟩ := by
  simp only [referenceReport, mapVec_getElem]

theorem referenceReport_onAir (u : State) (l : Lane) :
    (referenceReport u).onAir[l] = tallyActive u.contacts l := ofFn_getElem _ l

/-- Settles O42: each owner's answer, and the items that it names. -/
theorem readsChangeNothing : Obligations.ReadsChangeNothing := by
  refine ⟨fun d s u => ⟨fun h => ⟨fun l hl => ?_, fun hr => ?_⟩, fun h => ?_, fun h => ?_,
    fun h => ⟨fun h0 => ?_, fun h1 hw => ?_, fun v h1 hw hv => ?_, fun h2 => ?_, fun hr => ?_⟩,
    fun h => ⟨fun p hp => ?_, fun hr => ?_⟩, fun h => ⟨fun c hc => ?_, fun hn => ?_⟩,
    fun h => ⟨fun hs => ?_, fun hr => ?_⟩, fun h => ?_, fun h => ?_, fun t hp ht hw => ?_⟩,
    fun u l p i k q start => ⟨?_, ?_, ?_, ?_, ?_, ?_, ?_, ?_⟩⟩
  · exact exec_reply (n := .rdln) h (actRdln_lane hl) rfl
  · exact exec_refused (n := .rdln) h (actRdln_range hr)
  · exact exec_reply (n := .rdas) h rfl rfl
  · exact exec_reply (n := .rdst) h rfl rfl
  · exact exec_reply (n := .rdmx) h (actRdmx_cued h0) rfl
  · exact exec_reply (n := .rdmx) h (actRdmx_live h1 (viewNow_between hw)) rfl
  · exact exec_reply (n := .rdmx) h (actRdmx_live h1 ((viewNow_during hw).trans hv)) rfl
  · exact exec_reply (n := .rdmx) h (actRdmx_law h2) rfl
  · exact exec_refused (n := .rdmx) h (actRdmx_range hr)
  · exact exec_reply (n := .rdpt) h (actRdpt_path hp) rfl
  · exact exec_refused (n := .rdpt) h (actRdpt_range hr)
  · exact exec_reply (n := .rdcl) h (actRdcl_found hc) rfl
  · exact exec_refused (n := .rdcl) h (actRdcl_missing hn)
  · exact exec_reply (n := .lscl) h (if_neg (Nat.not_lt.2 hs)) rfl
  · exact exec_refused (n := .lscl) h (if_pos hr)
  · exact exec_reply (n := .rdls) h rfl rfl
  · exact exec_reply (n := .rdrf) h rfl rfl
  · obtain ⟨w, hw⟩ := Option.isSome_iff_exists.1 hw
    have he : exec .blockCompletion s = .next (blockCompletion s) := live_on hp
    cases he.symm.trans ht
    rw [blockCompletion_work hw]
    exact completeWork_lastView w s
  · rintro r c rfl rfl
    exact ⟨rfl, rfl, rfl, rfl, rfl, rfl, rfl, rfl, fun b => mapVec_getElem _ _ b, rfl, rfl, rfl, rfl, rfl, rfl, rfl, rfl,
      rfl, rfl, rfl, rfl⟩
  · rintro r rfl
    refine ⟨rfl, rfl, rfl, rfl, rfl, assemblyReport_lane l, rfl, rfl, rfl, ?_, ?_, ?_, ?_, ?_, ?_, rfl, rfl, rfl, rfl⟩
    all_goals rw [assemblyReport_path]
    · exact fun hup => if_neg fun hc => hup (isCandidate_plain.1 hc).1
    · intro rate hup hroom hrate
      rw [if_pos (isCandidate_plain.2 ⟨hup, hroom⟩), loadFigure, hrate]
      rfl
  · rintro r all rfl rfl
    obtain ⟨huse, hwriting, hpending, hgone, hpins⟩ := storeReport_holds u.store rfl
    exact ⟨rfl, rfl, rfl, huse, hwriting, hpending, hgone, hpins, congrArg Prod.fst (storeReport_lane _ l),
      congrArg (fun x => x.2.1) (storeReport_lane _ l)⟩
  · rintro r c rfl rfl
    refine ⟨rfl, rfl, rfl, rfl, rfl, rfl, rfl, rfl, rfl, rfl, rfl, rfl, rfl, rfl, rfl, rfl, rfl, rfl, rfl, rfl, rfl, rfl,
      fun due hdue => ?_⟩
    rw [pathReport_timer hdue]
    exact msLeft_bounds _ _
  · rintro r rfl
    refine ⟨rfl, List.contains_iff_mem, List.contains_iff_mem, fun hq => if_neg (by simpa using hq), ?_, ?_⟩
    · simp only [clipReport, List.map_map]
      rfl
    · intro x hx
      obtain ⟨y, -, rfl⟩ := List.mem_map.1 hx
      rfl
  · rintro r rfl
    refine ⟨rfl, rfl, rfl, rfl, rfl, rfl, rfl, ?_, ?_⟩
    all_goals
      simp only [listReport, List.map_map]
      rfl
  · rintro r rfl
    obtain ⟨hstate, hcount, herase⟩ := labelReport_holds u k
    exact ⟨rfl, rfl, rfl, rfl, rfl, rfl, hstate, hcount, rfl, rfl, herase, rfl, rfl, rfl⟩
  · rintro r rfl
    rw [referenceReport_contact, referenceReport_onAir]
    exact ⟨rfl, rfl, rfl, rfl, rfl, rfl, rfl, rfl, rfl, rfl, rfl, rfl, governanceOf_steered (r := u.ref.state),
      governanceOf_held (r := u.ref.state), rfl, rfl, rfl, rfl, rfl, rfl, Option.map_map .., tallyActive_iff⟩

end Sys2Proof.Machine
end

section
/-! SUPPORT. The directives of the lane coders and of the rate control (R20, R25, R33, R35, R40, R42, R51): each owner's
answer by the state of its lane, or its refusal of a word out of range. -/

namespace Sys2Proof.Machine

variable {ws : List Word} {u : State} {l : Lane}

/-! ## No such lane -/

theorem actLsta_range (h : 5 < wordAt ws 0) : actLsta ws u = refuse u .range := by rw [actLsta, finOf_of_le h]

theorem actLstp_range (h : 5 < wordAt ws 0) : actLstp ws u = refuse u .range := by rw [actLstp, finOf_of_le h]

theorem actLfmt_noLane (h : 5 < wordAt ws 0) : actLfmt ws u = refuse u .range := by rw [actLfmt, finOf_of_le h]

theorem actLkey_range (h : 5 < wordAt ws 0) : actLkey ws u = refuse u .range := by rw [actLkey, finOf_of_le h]

/-! ## LSTA, LSTP and LKEY (R20, R25, R33) -/

theorem actLsta_running (h : wordAt ws 0 = l.val) (hs : u.lanes[l].state ≠ .off) : actLsta ws u = refuse u .state := by
  rw [actLsta, finOf_val h]
  exact if_neg hs

theorem actLsta_off (h : wordAt ws 0 = l.val) (hs : u.lanes[l].state = .off) : actLsta ws u =
    success ((u.setLane l { u.lanes[l] with
      state := .acquire, keyReq := true, delta := 0, lastTick := none, prev := none, fill := none, idle := 0
      rate := rateStart u.lanes[l].rate }).setVideo l emptyVideo) := by
  rw [actLsta, finOf_val h]
  exact if_pos hs

theorem actLstp_off (h : wordAt ws 0 = l.val) (hs : u.lanes[l].state = .off) : actLstp ws u = refuse u .state := by
  rw [actLstp, finOf_val h]
  exact if_pos hs

/-- R33: the lane that LSTP sets to DRAINING. -/
def drainingLane (c : LaneCoder) : LaneCoder := { c with state := .draining, rate := { c.rate with rate := 0 } }

theorem actLstp_running (h : wordAt ws 0 = l.val) (hs : u.lanes[l].state ≠ .off) :
    actLstp ws u = success (maybeOff l (u.setLane l (drainingLane u.lanes[l]))) := by
  rw [actLstp, finOf_val h]
  exact if_neg hs

/-- R33: a frame in progress or a slice on the pass list keeps the lane DRAINING. -/
theorem maybeOff_drainingLane_stays (h : u.lanes[l].frame.isSome = true ∨ u.lanes[l].pass ≠ []) :
    maybeOff l (u.setLane l (drainingLane u.lanes[l])) = u.setLane l (drainingLane u.lanes[l]) := by
  refine maybeOff_stay (.inr ?_)
  rw [setLane_lane]
  exact h

/-- R33, R34: with neither, the lane enters OFF at once. -/
theorem maybeOff_drainingLane_off (hf : u.lanes[l].frame = none) (hp : u.lanes[l].pass = []) :
    maybeOff l (u.setLane l (drainingLane u.lanes[l])) =
      (u.setLane l (coderOff (drainingLane u.lanes[l]))).setVideo l emptyVideo := by
  have hl := setLane_lane u l (drainingLane u.lanes[l])
  rw [maybeOff_off (by rw [hl]; rfl) (by rw [hl]; exact hf) (by rw [hl]; exact hp), hl, setLane_setLane]

theorem actLkey_off (h : wordAt ws 0 = l.val) (hs : u.lanes[l].state = .off) : actLkey ws u = refuse u .state := by
  rw [actLkey, finOf_val h]
  exact if_pos hs

theorem requestKey_running (hs : u.lanes[l].state ≠ .off) :
    u.requestKey l = u.setLane l { u.lanes[l] with keyReq := true } :=
  congrArg (u.setLane l) (if_neg hs)

theorem actLkey_running (h : wordAt ws 0 = l.val) (hs : u.lanes[l].state ≠ .off) :
    actLkey ws u = success (u.setLane l { u.lanes[l] with keyReq := true }) := by
  rw [actLkey, finOf_val h, ← requestKey_running hs]
  exact if_neg hs

/-! ## LFMT (R35) -/

/-- R35: the formats that LFMT may load. -/
def FormatInRange (f : Format) : Prop :=
  64 ≤ f.width ∧ f.width ≤ 1920 ∧ f.width % 16 = 0 ∧ 16 ≤ f.lines ∧ f.lines ≤ 1088 ∧ 1 ≤ f.keyInterval ∧
    f.keyInterval ≤ 255

theorem actLfmt_ok {f : Format} (h : wordAt ws 0 = l.val) (hf : (⟨wordAt ws 1, wordAt ws 2, wordAt ws 3⟩ : Format) = f)
    (hr : FormatInRange f) : actLfmt ws u = success (u.setLane l
      (if u.lanes[l].state = .off then { u.lanes[l] with format := f } else { u.lanes[l] with held := some f })) := by
  obtain ⟨hw, hw', hm, hn, hn', hk, hk'⟩ := hr
  rw [actLfmt, finOf_val h, hf]
  exact if_pos (by simp [*])

theorem actLfmt_range {f : Format} (h : wordAt ws 0 = l.val)
    (hf : (⟨wordAt ws 1, wordAt ws 2, wordAt ws 3⟩ : Format) = f) (hr : ¬FormatInRange f) :
    actLfmt ws u = refuse u .range := by
  rw [actLfmt, finOf_val h, hf]
  exact if_neg (by simpa [FormatInRange, and_assoc] using hr)

/-! ## RSRV, LSHR and LRAT (R40, R42, R51) -/

theorem actRsrv_ok (hl : wordAt ws 0 ≤ 2000) (hc : wordAt ws 1 ≤ 200000) : actRsrv ws u =
    success (u.withAsm { u.asm with labelReserve := wordAt ws 0, clipReserve := wordAt ws 1 }) :=
  if_neg (by simp [hl, hc])

theorem actRsrv_range (h : 2000 < wordAt ws 0 ∨ 200000 < wordAt ws 1) : actRsrv ws u = refuse u .range :=
  if_pos (by simpa using h)

theorem actLshr_ok (h : wordAt ws 0 = l.val) (hon : wordAt ws 1 ≤ 15) (hoff : wordAt ws 2 ≤ 15) : actLshr ws u =
    success (u.setLane l { u.lanes[l] with
      rate := { u.lanes[l].rate with wOn := wordAt ws 1, wOff := wordAt ws 2 } }) := by
  rw [actLshr, finOf_val h]
  exact if_neg (by simp [hon, hoff])

theorem actLshr_range (h : 5 < wordAt ws 0 ∨ 15 < wordAt ws 1 ∨ 15 < wordAt ws 2) : actLshr ws u = refuse u .range := by
  unfold actLshr
  split
  · rfl
  · next l hl =>
    have hlt : wordAt ws 0 < 6 := by
      by_contra hge
      rw [finOf_of_le (Nat.not_lt.1 hge)] at hl
      cases hl
    exact if_pos (by simpa using h.resolve_left (by omega))

theorem settingsInRange_iff (r : RateSettings) : settingsInRange r = true ↔ r.qmin ≤ r.qref ∧ r.qref ≤ r.qmax ∧
    r.qmax ≤ 63 ∧ r.gain ≤ 64 ∧ 4096 ≤ r.cb ∧ r.cb ≤ 4194304 ∧ 2 ≤ r.capF ∧ r.capF ≤ 16 ∧ 1 ≤ r.kw ∧ r.kw ≤ 8 ∧
    1 ≤ r.latency ∧ r.latency ≤ 50 := by
  simp only [settingsInRange, Bool.and_eq_true, decide_eq_true_eq, and_assoc]

/-- The settings that LRAT's words spell. -/
def spelledRates (ws : List Word) : RateSettings :=
  ⟨wordAt ws 1, wordAt ws 2, wordAt ws 3, wordAt ws 4, wordAt ws 5, wordAt ws 6, wordAt ws 7, wordAt ws 8⟩

/-- R51: LRAT loads the settings that its words spell when they are in range. -/
theorem ratesOf_eq (ws : List Word) :
    ratesOf ws = if settingsInRange (spelledRates ws) = true then some (spelledRates ws) else none := by
  unfold ratesOf
  refine if_congr ?_ rfl rfl
  rw [settingsInRange_iff]
  simp only [spelledRates, Bool.and_eq_true, decide_eq_true_eq]
  omega

theorem actLrat_ok {r : RateSettings} (h : wordAt ws 0 = l.val) (hr : r = spelledRates ws)
    (hin : settingsInRange r = true) : actLrat ws u = success (u.setLane l
      (if u.lanes[l].state = .off then
        { u.lanes[l] with
          rate := { u.lanes[l].rate with settings := r, fullness := min r.cb u.lanes[l].rate.fullness } }
      else { u.lanes[l] with rate := { u.lanes[l].rate with held := some r } })) := by
  rw [actLrat, finOf_val h, ratesOf_eq, ← hr, if_pos hin]
  rfl

theorem actLrat_range {r : RateSettings} (hr : r = spelledRates ws)
    (h : 5 < wordAt ws 0 ∨ settingsInRange r = false) : actLrat ws u = refuse u .range := by
  rw [actLrat, ratesOf_eq, ← hr]
  rcases h with h | h
  · rw [finOf_of_le h]
  · rw [h, if_neg Bool.false_ne_true]
    split
    · next hn => cases hn
    · rfl

end Sys2Proof.Machine
end

section
/-! SUPPORT. The settlement of O13. -/

namespace Sys2Proof.Machine

/-- Settles O13: each directive's owner by the state of its lane and the range of its words. -/
theorem laneAndRateDirectivesAct : Obligations.LaneAndRateDirectivesAct := by
  refine ⟨fun d s u l hl => ⟨fun h => ⟨fun hs => ?_, fun hs => ?_⟩, fun h => ⟨fun hs => ?_, fun hs hb => ?_,
      fun hs hf hp => ⟨coderOff (drainingLane u.lanes[l]), ?_⟩⟩, ?_, fun h => ⟨fun hs => ?_, fun hs => ?_⟩⟩,
    fun d s u l => ⟨fun h => ⟨fun hl hc => ?_, fun hr => ?_⟩, fun h => ⟨fun hl hon hoff => ?_, fun hr => ?_⟩, ?_⟩,
    fun d s u hr => ⟨fun h => ?_, fun h => ?_, fun h => ?_, fun h => ?_⟩⟩
  · exact exec_success (n := .lsta) h (actLsta_off hl hs) rfl
  · exact exec_refused (n := .lsta) h (actLsta_running hl hs)
  · exact exec_refused (n := .lstp) h (actLstp_off hl hs)
  · rw [← drainingLane, ← maybeOff_drainingLane_stays hb]
    exact exec_success (n := .lstp) h (actLstp_running hl hs) rfl
  · refine ⟨?_, rfl, rfl, rfl, rfl, rfl, rfl, rfl, rfl, rfl, rfl, rfl⟩
    have hoff := (actLstp_running hl hs).trans (congrArg success (maybeOff_drainingLane_off hf hp))
    exact exec_success (n := .lstp) h hoff rfl
  · rintro h w n k hw hn hk
    have hfmt : (⟨wordAt d.words 1, wordAt d.words 2, wordAt d.words 3⟩ : Format) = ⟨w, n, k⟩ := by rw [hw, hn, hk]
    refine ⟨fun h1 h2 h3 h4 h5 h6 h7 => ?_, fun hr => ?_⟩
    · have hok := actLfmt_ok (u := u) hl hfmt ⟨h1, h2, h3, h4, h5, h6, h7⟩
      refine ⟨fun hs => ?_, fun hs => ?_⟩
      · rw [if_pos hs] at hok
        exact exec_success (n := .lfmt) h hok rfl
      · rw [if_neg hs] at hok
        exact exec_success (n := .lfmt) h hok rfl
    · refine exec_refused (n := .lfmt) h (actLfmt_range hl hfmt ?_)
      rintro ⟨h1, h2, h3, h4, h5, h6, h7⟩
      dsimp only at *
      omega
  · exact exec_refused (n := .lkey) h (actLkey_off hl hs)
  · exact exec_success (n := .lkey) h (actLkey_running hl hs) rfl
  · exact exec_success (n := .rsrv) h (actRsrv_ok hl hc) rfl
  · exact exec_refused (n := .rsrv) h (actRsrv_range hr)
  · exact exec_success (n := .lshr) h (actLshr_ok hl hon hoff) rfl
  · exact exec_refused (n := .lshr) h (actLshr_range hr)
  · rintro h r hr
    refine ⟨fun hl h1 h2 h3 h4 h5 h6 h7 h8 h9 h10 h11 h12 => ?_, fun hout => ?_⟩
    · have hok := actLrat_ok (u := u) hl hr
        ((settingsInRange_iff r).2 ⟨h2, h3, h1, h4, h5, h6, h7, h8, h9, h10, h11, h12⟩)
      refine ⟨fun hs => ?_, fun hs => ?_⟩
      · rw [if_pos hs] at hok
        exact exec_success (n := .lrat) h hok rfl
      · rw [if_neg hs] at hok
        exact exec_success (n := .lrat) h hok rfl
    · refine exec_refused (n := .lrat) h (actLrat_range hr (hout.imp_right fun hout => ?_))
      rw [← Bool.not_eq_true, settingsInRange_iff]
      omega
  · exact exec_refused (n := .lsta) h (actLsta_range hr)
  · exact exec_refused (n := .lstp) h (actLstp_range hr)
  · exact exec_refused (n := .lfmt) h (actLfmt_noLane hr)
  · exact exec_refused (n := .lkey) h (actLkey_range hr)

end Sys2Proof.Machine
end

section
/-! SUPPORT. What the acts of one lane coder leave alone (R26 to R34): every other lane, and every block but the coded store,
the port and the handler, whose flags stay latched and whose counters rise only where they are named. -/

namespace Sys2Proof.Machine

variable {s t u : State} {l : Lane} {moved : List (Fin 40)}

/-- From `s` to `t` the coder of lane `l` has acted, raising at most the counters `moved` and that of the notices lost. -/
structure LaneActs (l : Lane) (moved : List (Fin 40)) (s t : State) : Prop where
  others : ∀ m, m ≠ l → t.lanes[m] = s.lanes[m]
  ref : t.ref = s.ref
  mixer : t.mixer = s.mixer
  paths : t.paths = s.paths
  asm : t.asm = s.asm
  clips : t.clips = s.clips
  engines : t.engines = s.engines
  labels : t.labels = s.labels
  flags : ∀ x ∈ s.handler.flags, x.1 ≠ .counterHalf → x ∈ t.handler.flags
  counters : ∀ j, ctrNoticesLost ≠ j → j ∉ moved → t.handler.counters[j] = s.handler.counters[j]

/-- The counters of passing: frames capped and frames cut short by the store (R60, R61). -/
abbrev passCounters : List (Fin 40) := [ctrFramesCapped]

/-- With the engine's: bucket overflows (R46). -/
abbrev engineCounters : List (Fin 40) := [ctrFramesCapped, ctrBucketOverflows]

/-- With those of the slicing and the stall (R29, R32). -/
abbrev coderCounters : List (Fin 40) := [ctrFramesCapped, ctrBucketOverflows, ctrSliceOverruns, ctrLaneStalls]

namespace LaneActs

theorem refl (l : Lane) (moved : List (Fin 40)) (s : State) : LaneActs l moved s s :=
  ⟨fun _ _ => rfl, rfl, rfl, rfl, rfl, rfl, rfl, rfl, fun _ hx _ => hx, fun _ _ _ => rfl⟩

theorem trans (h : LaneActs l moved s t) (g : LaneActs l moved t u) : LaneActs l moved s u :=
  ⟨fun m hm => (g.others m hm).trans (h.others m hm), g.ref.trans h.ref, g.mixer.trans h.mixer, g.paths.trans h.paths,
   g.asm.trans h.asm, g.clips.trans h.clips, g.engines.trans h.engines, g.labels.trans h.labels,
   fun x hx hk => g.flags x (h.flags x hx hk) hk,
   fun j hl hj => (g.counters j hl hj).trans (h.counters j hl hj)⟩

theorem mono {more : List (Fin 40)} (h : LaneActs l moved s t) (hm : moved ⊆ more) : LaneActs l more s t :=
  { h with counters := fun j hl hj => h.counters j hl fun hin => hj (hm hin) }

theorem setLane (h : LaneActs l moved s t) (k : LaneCoder) : LaneActs l moved s (t.setLane l k) :=
  { h with others := fun m hm => (setLane_other hm t k).trans (h.others m hm) }

theorem modLane (h : LaneActs l moved s t) (f : LaneCoder → LaneCoder) : LaneActs l moved s (t.modLane l f) :=
  h.setLane _

theorem modRate (h : LaneActs l moved s t) (f : RateContext → RateContext) : LaneActs l moved s (t.modRate l f) :=
  h.setLane _

theorem withStore (h : LaneActs l moved s t) (st : CodedStore) : LaneActs l moved s (t.withStore st) := { h with }

theorem setVideo (h : LaneActs l moved s t) (v : VideoIntake) : LaneActs l moved s (t.setVideo l v) := { h with }

theorem bump (h : LaneActs l moved s t) {c : Fin 40} (hc : c ∈ moved) (n : Nat) : LaneActs l moved s (t.bump c n) :=
  { h with
    flags := fun x hx hk => (mem_flags_bump_iff hk).2 (h.flags x hx hk)
    counters := fun j hl hj => (bump_counter_other _ _ hl fun e => hj (e ▸ hc)).trans (h.counters j hl hj) }

theorem count (h : LaneActs l moved s t) {c : Fin 40} (hc : c ∈ moved) (k : EventKind) (n : Nat) :
    LaneActs l moved s (t.count c k n) :=
  { h with
    flags := fun x hx hk => (mem_flags_count_iff hk).2 (.inr (h.flags x hx hk))
    counters := fun j hl hj => (count_counter_other _ _ _ hl fun e => hj (e ▸ hc)).trans (h.counters j hl hj) }

theorem ite {c : Prop} [Decidable c] (ht : LaneActs l moved s t) (hu : LaneActs l moved s u) :
    LaneActs l moved s (if c then t else u) := by
  split
  · exact ht
  · exact hu

end LaneActs

/-! ## Passing slices (R30) -/

theorem laneActs_appendSlice (l : Lane) (k : Word) (x : SliceResult) (s : State) :
    LaneActs l passCounters s (appendSlice l k x s) := by
  have h := LaneActs.refl l passCounters s
  unfold appendSlice
  split
  · exact h
  · exact .ite h (.ite (h.withStore _) (.ite (h.withStore _) (.ite ((h.withStore _).bump (by decide) _)
      (.ite ((h.withStore _).count (by decide) _ _) (h.withStore _)))))

theorem laneActs_passOne (l : Lane) (e : PassEntry) (x : SliceResult) (s : State) :
    LaneActs l passCounters s (passOne l e x s) := by
  have h := laneActs_appendSlice l e.tick x s
  unfold passOne
  dsimp only
  split
  · exact h
  · exact .ite ((h.withStore _).modRate _) h

theorem laneActs_passDone (l : Lane) : ∀ (n : Nat) (s : State), LaneActs l passCounters s (passDone l n s)
  | 0, s => .refl l _ s
  | n + 1, s => by
    unfold passDone
    split
    · exact (((LaneActs.refl l _ s).modLane _).trans (laneActs_passOne l _ _ _)).trans (laneActs_passDone l n _)
    · exact .refl l _ s

theorem laneActs_passReady (l : Lane) (s : State) : LaneActs l passCounters s (passReady l s) := laneActs_passDone l _ s

/-! ## The coding engine (R28, R45 to R47, R50) -/

/-- A slice that is no coded one is not capped. -/
theorem laneActs_sliceEnds (l : Lane) (b : Fin 2) {x : SliceResult} (hx : x.kind ≠ .coded) (s : State) :
    LaneActs l engineCounters s (sliceEnds l b x s) := by
  have h := LaneActs.refl l engineCounters s
  unfold sliceEnds
  split
  · exact h
  · split
    · exact h
    · simp only [hx, decide_false, Bool.false_and, Bool.false_eq_true, if_false]
      refine LaneActs.trans ?_ ((laneActs_passReady l _).mono (by decide))
      exact ((LaneActs.ite (h.count (by decide) _ _) h).modRate _).modLane _

theorem laneActs_beginCoding (l : Lane) (b : Fin 2) (s : State) : LaneActs l engineCounters s (beginCoding l b s) := by
  have h := LaneActs.refl l engineCounters s
  unfold beginCoding
  split
  · exact h
  · split
    · exact h
    · dsimp only
      split
      · split
        · exact (h.modLane _).trans (laneActs_sliceEnds l b (by decide) _)
        · exact ((h.modLane _).modRate _).modLane _
      · exact (h.modLane _).modLane _

theorem laneActs_startEngine (l : Lane) : ∀ (n : Nat) (s : State), LaneActs l engineCounters s (startEngine l n s)
  | 0, s => .refl l _ s
  | n + 1, s => by
    unfold startEngine
    split
    · exact .refl l _ s
    · split
      · exact .refl l _ s
      · exact (laneActs_beginCoding l _ s).trans (laneActs_startEngine l n _)

theorem laneActs_settleCoder (l : Lane) (s : State) : LaneActs l engineCounters s (settleCoder l s) :=
  ((laneActs_passReady l s).mono (by decide)).trans (laneActs_startEngine l 3 _)

/-! ## Slices, the end of a frame and the stall (R26, R29, R31 to R33) -/

theorem laneActs_maybeOff (l : Lane) (s : State) : LaneActs l moved s (maybeOff l s) := by
  have h := LaneActs.refl l moved s
  exact .ite ((h.setLane _).setVideo _) h

theorem laneActs_ensureBegun (l : Lane) (s : State) : LaneActs l coderCounters s (ensureBegun l s) := by
  have h := LaneActs.refl l coderCounters s
  unfold ensureBegun
  split
  · refine .ite h ?_
    unfold beginSlice
    dsimp only
    split
    · exact h.modLane _
    · exact (h.modLane _).count (by decide) _ _
  · exact h

theorem laneActs_makeReady (l : Lane) (s : State) : LaneActs l coderCounters s (makeReady l s) :=
  ((laneActs_ensureBegun l s).modLane _).trans ((laneActs_settleCoder l _).mono (by decide))

theorem laneActs_readyUpTo (l : Lane) (k : Nat) : ∀ (n : Nat) (s : State),
    LaneActs l coderCounters s (readyUpTo l k n s)
  | 0, s => .refl l _ s
  | n + 1, s => by
    unfold readyUpTo
    split
    · exact .ite ((laneActs_makeReady l s).trans (laneActs_readyUpTo l k n _)) (.refl l _ s)
    · exact .refl l _ s

theorem laneActs_endFrame (l : Lane) (s : State) : LaneActs l coderCounters s (endFrame l s) := by
  have h := LaneActs.refl l coderCounters s
  unfold endFrame
  split
  · exact h
  · exact ((LaneActs.ite (laneActs_readyUpTo l _ _ s) h).modLane _).trans (laneActs_maybeOff l _)

theorem laneActs_settleStall (l : Lane) (s : State) : LaneActs l coderCounters s (settleStall l s) := by
  have h := LaneActs.refl l coderCounters s
  refine .ite h ?_
  split
  · exact ((laneActs_endFrame l s).modLane _).count (by decide) _ _
  · exact (h.modLane _).trans (laneActs_endFrame l _)
  all_goals exact h

end Sys2Proof.Machine
end

section
/-! SUPPORT. The frame tick (R32, R84, R164, R169): the timecode and its carries, the idle ticks of the lanes, and the take
that it arms. -/

namespace Sys2Proof.Machine

variable {s t : State} {l : Lane}

/-! ## The timecode (R169) -/

theorem cutFrames_below {fps : Nat} {x : Timecode} (h : x.ff < fps) : cutFrames fps x = x := if_neg (Nat.not_le.2 h)

theorem cutFrames_above {fps : Nat} {x : Timecode} (h : fps ≤ x.ff) : cutFrames fps x = { x with ff := fps - 1 } := if_pos h

theorem nextTimecode_frame {fps : Nat} {x : Timecode} (h : x.ff + 1 < fps) :
    nextTimecode fps x = { x with ff := x.ff + 1 } := if_pos h

theorem nextTimecode_second {fps : Nat} {x : Timecode} (h : x.ff + 1 = fps) (hs : x.ss < 59) :
    nextTimecode fps x = { x with ff := 0, ss := x.ss + 1 } := by
  rw [nextTimecode, if_neg (by omega), if_pos (by omega)]

theorem nextTimecode_minute {fps : Nat} {x : Timecode} (h : x.ff + 1 = fps) (hs : x.ss = 59) (hm : x.mm < 59) :
    nextTimecode fps x = { x with ff := 0, ss := 0, mm := x.mm + 1 } := by
  rw [nextTimecode, if_neg (by omega), if_neg (by omega), if_pos (by omega)]

theorem nextTimecode_hour {fps : Nat} {x : Timecode} (h : x.ff + 1 = fps) (hs : x.ss = 59) (hm : x.mm = 59)
    (hh : x.hh < 23) : nextTimecode fps x = ⟨x.hh + 1, 0, 0, 0⟩ := by
  rw [nextTimecode, if_neg (by omega), if_neg (by omega), if_neg (by omega), if_pos (by omega)]

theorem nextTimecode_day {fps : Nat} {x : Timecode} (h : x.ff + 1 = fps) (hs : x.ss = 59) (hm : x.mm = 59)
    (hh : x.hh = 23) : nextTimecode fps x = ⟨0, 0, 0, 0⟩ := by
  rw [nextTimecode, if_neg (by omega), if_neg (by omega), if_neg (by omega), if_neg (by omega)]

theorem tickUnit_held {r : ReferenceUnit} {x : Timecode} (h : r.heldTimecode = some x) :
    (tickUnit r).timecode = cutFrames (fpsOf r.rate) x := by
  simp only [tickUnit, h]

theorem tickUnit_next {r : ReferenceUnit} (h : r.heldTimecode = none) :
    (tickUnit r).timecode = nextTimecode (fpsOf r.rate) r.timecode := by
  simp only [tickUnit, h]

/-! ## The idle ticks (R32) -/

/-- R32: a lane at a tick, where no stall is due. -/
def tickedLane (c : LaneCoder) : LaneCoder :=
  if c.state = .coding ∨ c.state = .draining then { c with idle := c.idle + 1 } else c

theorem laneActs_idleTick (s : State) (l : Lane) : LaneActs l coderCounters s (idleTick s l) :=
  (laneActs_settleStall l s).modLane _

theorem idleTick_lane (h : s.lanes[l].idle < 2) : (idleTick s l).lanes[l] = tickedLane s.lanes[l] := by
  rw [idleTick, settleStall_early h, modLane_eq, setLane_lane, tickedLane, Nat.min_eq_right (by omega)]

/-- What the lanes' idle ticks leave alone. -/
structure TickActs (s t : State) : Prop where
  ref : t.ref = s.ref
  mixer : t.mixer = s.mixer
  paths : t.paths = s.paths
  labels : t.labels = s.labels
  engines : t.engines = s.engines

theorem tickActs_foldl : ∀ (ms : List Lane) (s : State), TickActs s (ms.foldl idleTick s)
  | [], _ => ⟨rfl, rfl, rfl, rfl, rfl⟩
  | m :: ms, s => by
    have h := laneActs_idleTick s m
    have g := tickActs_foldl ms (idleTick s m)
    exact ⟨g.ref.trans h.ref, g.mixer.trans h.mixer, g.paths.trans h.paths, g.labels.trans h.labels,
      g.engines.trans h.engines⟩

theorem foldl_idleTick_other : ∀ {ms : List Lane} {s : State}, l ∉ ms → (ms.foldl idleTick s).lanes[l] = s.lanes[l]
  | [], _, _ => rfl
  | m :: ms, s, h => by
    rw [List.mem_cons, not_or] at h
    exact (foldl_idleTick_other h.2).trans ((laneActs_idleTick s m).others l h.1)

/-- Each lane ticks once, whatever the lanes before it and behind it do. -/
theorem foldl_idleTick_lane {ms : List Lane} : ∀ {s : State}, ms.Nodup → l ∈ ms → s.lanes[l].idle < 2 →
    (ms.foldl idleTick s).lanes[l] = tickedLane s.lanes[l] := by
  induction ms with
  | nil => exact fun _ hm => absurd hm List.not_mem_nil
  | cons m ms ih =>
    intro s hn hm hi
    rw [List.nodup_cons] at hn
    rw [List.foldl_cons]
    by_cases h : l = m
    · subst h
      rw [foldl_idleTick_other hn.1, idleTick_lane hi]
    · have hl := (laneActs_idleTick s m).others l h
      rw [ih hn.2 ((List.mem_cons.1 hm).resolve_left h) (by rw [hl]; exact hi), hl]

/-! ## The take (R84) -/

theorem armTake_armed {tick : Word} {sample : Nat} {m : Mixer} (h : m.takeArmed.isSome = true) :
    armTake tick sample m = m := by
  rw [armTake, Option.isNone_eq_false_iff.2 h, Bool.and_false]
  rfl

theorem armTake_idle {tick : Word} {sample : Nat} {m : Mixer} (h : m.takePending = false) :
    armTake tick sample m = m := by
  rw [armTake, h]
  rfl

theorem armTake_pending {tick : Word} {sample : Nat} {m : Mixer} (hp : m.takePending = true) (ha : m.takeArmed = none) :
    armTake tick sample m = { m with takePending := false, takeArmed := some (takeImage m tick sample) } :=
  if_pos (by rw [hp, ha]; rfl)

theorem getD_toList {α : Type} {n : Nat} (v : Vector α n) (q : Fin n) (d : α) : v.toList.getD q.val d = v[q] := by
  simp

/-- R84: each position of the cued bank looks its coefficient up in the fader law. -/
theorem takeImage_xpCoef {m : Mixer} {tick : Word} {sample : Nat} {i : Fin 288} {q : Fin 256} (h : m.cued.xp[i] = q.val) :
    (takeImage m tick sample).xpCoef[i] = m.law[q] := by
  rw [takeImage, mapVec_getElem, h]
  exact getD_toList m.law q 0

theorem takeImage_msCoef {m : Mixer} {tick : Word} {sample : Nat} {b : Fin 8} {q : Fin 256}
    (h : m.cued.masters[b] = q.val) : (takeImage m tick sample).msCoef[b] = m.law[q] := by
  rw [takeImage, mapVec_getElem, h]
  exact getD_toList m.law q 0

/-! ## The tick as a whole (R164) -/

/-- The machine once the reference unit and the lanes have ticked. -/
def idled (s : State) : State := (List.finRange 6).foldl idleTick (s.withRef (tickUnit s.ref))

theorem tickActs_idled (s : State) : TickActs (s.withRef (tickUnit s.ref)) (idled s) := tickActs_foldl _ _

theorem frameTick_eq (s : State) :
    frameTick s = (idled s).withMixer (armTake (s.ref.tick + 1) s.ref.nextTick s.mixer) := by
  have h := tickActs_idled s
  rw [frameTick, ← idled, h.ref, h.mixer]
  rfl

theorem frameTick_ref (s : State) : (frameTick s).ref = tickUnit s.ref := by
  rw [frameTick_eq, State.withMixer_ref, (tickActs_idled s).ref, State.withRef_ref]

theorem frameTick_mixer (s : State) : (frameTick s).mixer = armTake (s.ref.tick + 1) s.ref.nextTick s.mixer := by
  rw [frameTick_eq, State.withMixer_mixer]

theorem frameTick_lane (h : s.lanes[l].idle < 2) : (frameTick s).lanes[l] = tickedLane s.lanes[l] := by
  rw [frameTick_eq, State.withMixer_lanes, idled]
  exact foldl_idleTick_lane (List.nodup_finRange 6) (List.mem_finRange l) h

theorem frameTick_blocks (s : State) :
    (frameTick s).paths = s.paths ∧ (frameTick s).labels = s.labels ∧ (frameTick s).engines = s.engines := by
  have h := tickActs_idled s
  rw [frameTick_eq, State.withMixer_paths, State.withMixer_labels, State.withMixer_engines, h.paths, h.labels, h.engines]
  exact ⟨rfl, rfl, rfl⟩

/-- Settles O51: the reference unit's tick, the take it arms, and each lane's idle tick. -/
theorem frameTickCounts : Obligations.FrameTickCounts := by
  intro s hp
  refine ⟨frameTick s, live_on hp, ?_⟩
  rw [frameTick_ref, frameTick_mixer]
  refine ⟨rfl, rfl, rfl, rfl, rfl, rfl, rfl, fun x hx hff => (tickUnit_held hx).trans (cutFrames_below hff),
    fun hn hff => (tickUnit_next hn).trans (nextTimecode_frame hff), fun hn htc => ?_, ?_, rfl,
    fun htake hnone => ?_, armTake_armed, armTake_idle, fun l hl => frameTick_lane hl, frameTick_blocks s⟩
  · rw [tickUnit_next hn, htc]
    refine nextTimecode_day ?_ rfl rfl rfl
    cases s.ref.rate <;> rfl
  · intro fps hfps
    obtain rfl : fps = fpsOf s.ref.rate := hfps
    refine ⟨fun x hx hff => ?_, fun hn hff => ?_⟩
    · rw [tickUnit_held hx, cutFrames_above hff]
    · rw [tickUnit_next hn]
      exact ⟨nextTimecode_second hff, nextTimecode_minute hff, nextTimecode_hour hff⟩
  · rw [armTake_pending htake hnone]
    exact ⟨rfl, takeImage s.mixer _ _, rfl, rfl, rfl, rfl, fun i q h => takeImage_xpCoef h,
      fun b q h => takeImage_msCoef h, rfl⟩

end Sys2Proof.Machine
end

section
/-! SUPPORT. Passing slices and the engine act on the lanes and the coded store alone (R28, R30): machines that are alike in
these two are alike behind them, whatever has been counted and reported. -/

namespace Sys2Proof.Machine

variable {s t u : State} {l : Lane} {c k : LaneCoder}

/-- Two machines with the same lane coders and the same coded store. -/
structure Alike (s t : State) : Prop where
  lanes : s.lanes = t.lanes
  store : s.store = t.store

theorem Alike.refl (s : State) : Alike s s := ⟨rfl, rfl⟩

theorem Alike.trans (h : Alike s t) (g : Alike t u) : Alike s u := ⟨h.lanes.trans g.lanes, h.store.trans g.store⟩

theorem Alike.setLane (h : Alike s t) (l : Lane) (k : LaneCoder) : Alike (s.setLane l k) (t.setLane l k) :=
  ⟨congrArg (·.set l k) h.lanes, h.store⟩

theorem Alike.withStore (h : Alike s t) (st : CodedStore) : Alike (s.withStore st) (t.withStore st) := ⟨h.lanes, rfl⟩

theorem Alike.lane (h : Alike s t) (l : Lane) : s.lanes[l] = t.lanes[l] := by rw [h.lanes]

/-! ## Passing slices (R30) -/

/-- R60, R61: what a slice's appending makes of the store depends on the store alone. -/
theorem appendSlice_store_congr (h : s.store = t.store) (l : Lane) (k : Word) (x : SliceResult) :
    (appendSlice l k x s).store = (appendSlice l k x t).store := by
  unfold appendSlice
  rw [h]
  split
  · exact h
  · dsimp only
    split_ifs
    · exact h
    all_goals rfl

theorem Alike.appendSlice (h : Alike s t) (l : Lane) (k : Word) (x : SliceResult) :
    Alike (appendSlice l k x s) (appendSlice l k x t) :=
  ⟨by rw [appendSlice_lanes, appendSlice_lanes, h.lanes], appendSlice_store_congr h.store l k x⟩

/-- The rate context after the pass of a slice: its frame's last one adds the key debt and removes the allotment. -/
def passedRate (e : PassEntry) (r : RateContext) : RateContext :=
  match findAllotment r e.tick with
  | none => r
  | some a => if e.index + 1 = a.n then dropAllotment e.tick (addDebt a r) else r

/-- The coded store after the pass of a slice: its frame's last one completes the record. -/
def passedStore (l : Lane) (e : PassEntry) (r : RateContext) (st : CodedStore) : CodedStore :=
  match findAllotment r e.tick with
  | none => st
  | some a => if e.index + 1 = a.n then completeRecord st l e.tick else st

/-- R30: the pass of one slice. -/
theorem passOne_eq (e : PassEntry) (x : SliceResult) (hl : s.lanes[l] = c) : passOne l e x s =
    ((appendSlice l e.tick x s).withStore (passedStore l e c.rate (appendSlice l e.tick x s).store)).setLane l
      { c with rate := passedRate e c.rate } := by
  have happ : (appendSlice l e.tick x s).lanes[l] = c := by rw [appendSlice_lanes, hl]
  have hself : (appendSlice l e.tick x s).setLane l c = appendSlice l e.tick x s := setLane_of_eq happ
  cases ha : findAllotment c.rate e.tick with
  | none => simp only [passOne, passedStore, passedRate, happ, ha, State.withStore_self, hself]
  | some a =>
    by_cases hlast : e.index + 1 = a.n
    · simp only [passOne, passedStore, passedRate, happ, ha, if_pos hlast, State.modRate, modLane_eq,
        State.withStore_lanes]
    · simp only [passOne, passedStore, passedRate, happ, ha, if_neg hlast, State.withStore_self, hself]

theorem passedRate_eq {e : PassEntry} {r : RateContext} {a : Allotment} (ha : findAllotment r e.tick = some a) :
    passedRate e r = if e.index + 1 = a.n then dropAllotment e.tick (addDebt a r) else r := by
  rw [passedRate, ha]

theorem passedStore_eq {e : PassEntry} {r : RateContext} {a : Allotment} (ha : findAllotment r e.tick = some a)
    (st : CodedStore) : passedStore l e r st = if e.index + 1 = a.n then completeRecord st l e.tick else st := by
  rw [passedStore, ha]

/-- R30: a slice that is not the last of its frame is appended, and no more. -/
theorem passOne_more {e : PassEntry} (x : SliceResult) (hl : s.lanes[l] = c)
    (h : ∀ a, findAllotment c.rate e.tick = some a → e.index + 1 ≠ a.n) :
    passOne l e x s = appendSlice l e.tick x s := by
  have happ : (appendSlice l e.tick x s).lanes[l] = c := by rw [appendSlice_lanes, hl]
  unfold passOne
  dsimp only
  rw [happ]
  split
  · rfl
  · next a ha => exact if_neg (h a ha)

/-- R30, R48, R62: the last slice of a frame completes its record, adds the key debt and removes the allotment. -/
theorem passOne_last {e : PassEntry} {a : Allotment} (x : SliceResult) (hl : s.lanes[l] = c)
    (ha : findAllotment c.rate e.tick = some a) (hlast : e.index + 1 = a.n) : passOne l e x s =
    ((appendSlice l e.tick x s).withStore (completeRecord (appendSlice l e.tick x s).store l e.tick)).setLane l
      { c with rate := dropAllotment e.tick (addDebt a c.rate) } := by
  rw [passOne_eq e x hl, passedStore_eq ha, passedRate_eq ha, if_pos hlast, if_pos hlast]

theorem Alike.passOne (h : Alike s t) (l : Lane) (e : PassEntry) (x : SliceResult) :
    Alike (passOne l e x s) (passOne l e x t) := by
  rw [passOne_eq e x (h.lane l), passOne_eq e x rfl, (h.appendSlice l e.tick x).store]
  exact ((h.appendSlice l e.tick x).withStore _).setLane _ _

theorem passDone_done {n : Nat} {e : PassEntry} {rest : List PassEntry} {x : SliceResult} (hl : s.lanes[l] = c)
    (hp : c.pass = e :: rest) (hd : e.done = some x) :
    passDone l (n + 1) s = passDone l n (passOne l e x (s.setLane l { c with pass := rest })) := by
  obtain ⟨k, i, b, d⟩ := e
  obtain rfl : d = some x := hd
  rw [passDone]
  simp only [hl, hp, modLane_eq]

/-- R30: the front of the pass list waits, or is done and passed. -/
theorem pass_cases (l : Lane) (s : State) :
    (∀ e, s.lanes[l].pass.head? = some e → e.done = none) ∨
    ∃ e rest x, s.lanes[l].pass = e :: rest ∧ e.done = some x := by
  cases hp : s.lanes[l].pass with
  | nil => exact .inl (by nofun)
  | cons e rest =>
    cases hd : e.done with
    | none => exact .inl fun z hz => Option.some.inj hz ▸ hd
    | some x => exact .inr ⟨e, rest, x, rfl, hd⟩

theorem Alike.passDone (l : Lane) : ∀ (n : Nat) {s t : State}, Alike s t → Alike (passDone l n s) (passDone l n t)
  | 0, _, _, h => h
  | n + 1, s, t, h => by
    rcases pass_cases l t with hw | ⟨e, rest, x, hp, hd⟩
    · rw [passDone_waiting _ hw, passDone_waiting _ (by rw [h.lane]; exact hw)]
      exact h
    · rw [passDone_done rfl hp hd, passDone_done (h.lane l) hp hd]
      exact Alike.passDone l n ((h.setLane l _).passOne l e x)

theorem Alike.passReady (h : Alike s t) (l : Lane) : Alike (passReady l s) (passReady l t) := by
  unfold Machine.passReady
  rw [h.lane l]
  exact Alike.passDone l _ h

/-- R30: the done slice at the front is passed, then those behind it. -/
theorem passReady_done {e : PassEntry} {rest : List PassEntry} {x : SliceResult} (hl : s.lanes[l] = c)
    (hp : c.pass = e :: rest) (hd : e.done = some x) :
    passReady l s = passReady l (passOne l e x (s.setLane l { c with pass := rest })) := by
  have hlen : (passOne l e x (s.setLane l { c with pass := rest })).lanes[l].pass = rest := by
    rw [passOne_eq e x (setLane_lane s l _), setLane_lane]
  rw [passReady, hl, hp, List.length_cons, passDone_done hl hp hd, passReady, hlen]

/-- R30: a pass list of one done slice that is not the last of its frame. -/
theorem passReady_single {e : PassEntry} {x : SliceResult} (hl : s.lanes[l] = c) (hp : c.pass = [e])
    (hd : e.done = some x) (hmore : ∀ a, findAllotment c.rate e.tick = some a → e.index + 1 ≠ a.n) :
    passReady l s = appendSlice l e.tick x (s.setLane l { c with pass := [] }) := by
  rw [passReady_done hl hp hd, passOne_more (c := { c with pass := [] }) x (setLane_lane s l _) hmore]
  refine passReady_waiting ?_
  rw [appendSlice_lanes, setLane_lane]
  nofun

/-- R30: passing removes allotments and adds key debts; a force stays clear. -/
theorem passedRate_force (e : PassEntry) (r : RateContext) : (passedRate e r).force = r.force := by
  unfold passedRate
  split
  · rfl
  · split
    · unfold addDebt dropAllotment
      split <;> rfl
    · rfl

theorem passDone_force (l : Lane) : ∀ (n : Nat) (s : State),
    (passDone l n s).lanes[l].rate.force = s.lanes[l].rate.force
  | 0, _ => rfl
  | n + 1, s => by
    rcases pass_cases l s with hw | ⟨e, rest, x, hp, hd⟩
    · rw [passDone_waiting _ hw]
    · rw [passDone_done rfl hp hd, passDone_force l n, passOne_eq e x (setLane_lane s l _), setLane_lane,
        passedRate_force]

theorem passReady_force (l : Lane) (s : State) : (passReady l s).lanes[l].rate.force = s.lanes[l].rate.force :=
  passDone_force l _ s

/-! ## The slice-coded event (R28, R45, R46, R50) -/

variable {b : Fin 2} {e : PassEntry} {a : Allotment} {x : SliceResult}

/-- R45: the cap applies to the slice. -/
def capApplies (a : Allotment) (i : Nat) (x : SliceResult) : Bool := decide (x.kind = .coded) && capped a i x.size

/-- R45: the result of a slice behind the cap. -/
def cappedResult (a : Allotment) (i : Nat) (x : SliceResult) : SliceResult :=
  if capApplies a i x then ⟨.repeated, none, 16, []⟩ else x

/-- R46: the bucket overflows at a slice of a size. -/
def sliceOverflows (a : Allotment) (i size : Nat) (r : RateContext) : Bool :=
  overflows r.settings.cb r.fullness size (sliceAllotment a i)

/-- R45, R46: the cap and the overflow are counted and reported. -/
def sliceCounts (l : Lane) (cap full : Bool) (s : State) : State :=
  let s1 := if cap then s.count ctrSlicesCapped .sliceCapped l.val else s
  if full then s1.count ctrBucketOverflows .bucketOverflow l.val else s1

theorem alike_sliceCounts (l : Lane) (cap full : Bool) (s : State) : Alike (sliceCounts l cap full s) s := by
  have hif : ∀ (p : Bool) (u : State) (n : Fin 40) (k : EventKind), Alike (if p then u.count n k l.val else u) u :=
    fun p u n k => by
      split
      · exact ⟨rfl, rfl⟩
      · exact .refl u
  exact (hif full _ _ _).trans (hif cap s _ _)

theorem sliceEnds_none (he : entryIn s.lanes[l] b = none) : sliceEnds l b x s = s := by
  unfold sliceEnds
  rw [he]

theorem sliceEnds_noAllotment (he : entryIn s.lanes[l] b = some e) (ha : findAllotment s.lanes[l].rate e.tick = none) :
    sliceEnds l b x s = s := by
  unfold sliceEnds
  rw [he]
  dsimp only
  rw [ha]

theorem sliceEnds_eq {y : SliceResult} (hl : s.lanes[l] = c) (he : entryIn c b = some e)
    (ha : findAllotment c.rate e.tick = some a) (hy : cappedResult a e.index x = y) : sliceEnds l b x s =
    passReady l ((sliceCounts l (capApplies a e.index x) (sliceOverflows a e.index y.size c.rate) s).setLane l
      (markDone b y { c with rate := rateAfterSlice y.size (sliceAllotment a e.index) c.rate })) := by
  subst hl hy
  unfold sliceEnds
  rw [he]
  dsimp only
  rw [ha]
  dsimp only
  rw [← capApplies, ← cappedResult]
  have hcap : (if capApplies a e.index x then s.count ctrSlicesCapped .sliceCapped l.val else s).lanes = s.lanes := by
    split <;> rfl
  have hcounts := (alike_sliceCounts l (capApplies a e.index x)
    (sliceOverflows a e.index (cappedResult a e.index x).size s.lanes[l].rate) s).lanes
  rw [hcap, ← sliceOverflows, ← sliceCounts, State.modRate, modLane_modLane, hcounts]

theorem Alike.sliceEnds (h : Alike s t) (l : Lane) (b : Fin 2) (x : SliceResult) :
    Alike (sliceEnds l b x s) (sliceEnds l b x t) := by
  cases he : entryIn t.lanes[l] b with
  | none =>
    rw [sliceEnds_none he, sliceEnds_none (by rw [h.lane]; exact he)]
    exact h
  | some e =>
    cases ha : findAllotment t.lanes[l].rate e.tick with
    | none =>
      rw [sliceEnds_noAllotment he ha, sliceEnds_noAllotment (by rw [h.lane]; exact he) (by rw [h.lane]; exact ha)]
      exact h
    | some a =>
      rw [sliceEnds_eq rfl he ha rfl, sliceEnds_eq (h.lane l) he ha rfl]
      have hcounts := fun cap full => ((alike_sliceCounts l cap full s).trans h).trans
        ⟨(alike_sliceCounts l cap full t).lanes.symm, (alike_sliceCounts l cap full t).store.symm⟩
      exact ((hcounts _ _).setLane l _).passReady l

/-! ## The engine begins a slice (R28, R47) -/

/-- R28: the lane whose engine codes the slice in a buffer at an index. -/
def codingLane (b : Fin 2) (q : Nat) (c : LaneCoder) : LaneCoder :=
  { c with engine := some ⟨b, q⟩, buffers := c.buffers.set b { c.buffers[b] with state := .coding } }

theorem beginCoding_none (he : entryIn s.lanes[l] b = none) : beginCoding l b s = s := by
  unfold beginCoding
  rw [he]

theorem beginCoding_noAllotment (he : entryIn s.lanes[l] b = some e)
    (ha : findAllotment s.lanes[l].rate e.tick = none) : beginCoding l b s = s := by
  unfold beginCoding
  rw [he]
  dsimp only
  rw [ha]

theorem beginCoding_unforced (hl : s.lanes[l] = c) (he : entryIn c b = some e)
    (ha : findAllotment c.rate e.tick = some a) (hforce : c.rate.force = false) :
    beginCoding l b s = s.setLane l (codingLane b (clampNat a.qmin a.qmax c.rate.q) c) := by
  subst hl
  unfold beginCoding
  rw [he]
  dsimp only
  rw [ha]
  dsimp only
  rw [if_neg (by rw [hforce]; nofun), modLane_modLane, rate_unforced hforce]
  rfl

theorem beginCoding_key (hl : s.lanes[l] = c) (he : entryIn c b = some e)
    (ha : findAllotment c.rate e.tick = some a) (hforce : c.rate.force = true) (hk : a.kind = .key) :
    beginCoding l b s = s.setLane l { codingLane b a.qmax c with rate := { c.rate with force := false, q := a.qmax } } := by
  subst hl
  unfold beginCoding
  rw [he]
  dsimp only
  rw [ha]
  dsimp only
  rw [if_pos hforce, hk]
  dsimp only
  simp only [State.modRate, modLane_eq, setLane_lane, setLane_setLane]
  rfl

/-- The lane whose slice in a buffer is in coding, its engine not yet busy. -/
def begunLane (b : Fin 2) (c : LaneCoder) : LaneCoder :=
  { c with buffers := c.buffers.set b { c.buffers[b] with state := .coding }, rate := { c.rate with force := false } }

theorem beginCoding_delta (hl : s.lanes[l] = c) (he : entryIn c b = some e)
    (ha : findAllotment c.rate e.tick = some a) (hforce : c.rate.force = true) (hk : a.kind = .delta) :
    beginCoding l b s = sliceEnds l b ⟨.repeated, none, 16, []⟩ (s.setLane l (begunLane b c)) := by
  subst hl
  unfold beginCoding
  rw [he]
  dsimp only
  rw [ha]
  dsimp only
  rw [if_pos hforce, hk]
  rfl

theorem Alike.beginCoding (h : Alike s t) (l : Lane) (b : Fin 2) : Alike (beginCoding l b s) (beginCoding l b t) := by
  cases he : entryIn t.lanes[l] b with
  | none =>
    rw [beginCoding_none he, beginCoding_none (by rw [h.lane]; exact he)]
    exact h
  | some e =>
    cases ha : findAllotment t.lanes[l].rate e.tick with
    | none =>
      rw [beginCoding_noAllotment he ha, beginCoding_noAllotment (by rw [h.lane]; exact he) (by rw [h.lane]; exact ha)]
      exact h
    | some a =>
      cases hforce : t.lanes[l].rate.force with
      | false =>
        rw [beginCoding_unforced rfl he ha hforce, beginCoding_unforced (h.lane l) he ha hforce]
        exact h.setLane l _
      | true =>
        cases hk : a.kind with
        | key =>
          rw [beginCoding_key rfl he ha hforce hk, beginCoding_key (h.lane l) he ha hforce hk]
          exact h.setLane l _
        | delta =>
          rw [beginCoding_delta rfl he ha hforce hk, beginCoding_delta (h.lane l) he ha hforce hk]
          exact (h.setLane l _).sliceEnds l b _

/-! ## The engine's start (R28) -/

theorem startEngine_none (n : Nat) (h : firstReady s.lanes[l] = none) : startEngine l n s = s := by
  cases n with
  | zero => rfl
  | succ n =>
    unfold startEngine
    rw [h]
    exact ite_self s

theorem startEngine_next {n : Nat} (he : s.lanes[l].engine = none) (hf : firstReady s.lanes[l] = some b) :
    startEngine l (n + 1) s = startEngine l n (beginCoding l b s) := by
  rw [startEngine, if_neg (by rw [he]; nofun), hf]

theorem Alike.startEngine (l : Lane) : ∀ (n : Nat) {s t : State}, Alike s t →
    Alike (startEngine l n s) (startEngine l n t)
  | 0, _, _, h => h
  | n + 1, s, t, h => by
    cases he : t.lanes[l].engine with
    | some j =>
      rw [startEngine_busy _ (by rw [h.lane, he]; rfl), startEngine_busy _ (by rw [he]; rfl)]
      exact h
    | none =>
      cases hf : firstReady t.lanes[l] with
      | none =>
        rw [startEngine_none _ hf, startEngine_none _ (by rw [h.lane]; exact hf)]
        exact h
      | some b =>
        rw [startEngine_next he hf, startEngine_next (by rw [h.lane]; exact he) (by rw [h.lane]; exact hf)]
        exact Alike.startEngine l n (h.beginCoding l b)

/-- R28: an idle engine that begins a slice under no force is busy with it, and begins no other. -/
theorem startEngine_unforced {n : Nat} (hl : s.lanes[l] = c) (heng : c.engine = none) (hf : firstReady c = some b)
    (he : entryIn c b = some e) (ha : findAllotment c.rate e.tick = some a) (hforce : c.rate.force = false) :
    startEngine l (n + 1) s = s.setLane l (codingLane b (clampNat a.qmin a.qmax c.rate.q) c) := by
  rw [startEngine_next (by rw [hl]; exact heng) (by rw [hl]; exact hf), beginCoding_unforced hl he ha hforce]
  exact startEngine_busy n (by rw [setLane_lane]; rfl)

/-! ## The slice that became ready first (R28) -/

theorem entryIn_some (h : entryIn c b = some e) : e.buffer = some b ∧ e.done = none := by
  have hp := List.find?_some h
  simpa using hp

/-- The entry waits in a READY buffer. -/
def waitsReady (c : LaneCoder) (e : PassEntry) : Bool :=
  e.done.isNone && (match e.buffer with | some b => decide (c.buffers[b].state = .ready) | none => false)

theorem waitsReady_some (hb : e.buffer = some b) :
    waitsReady c e = true ↔ e.done = none ∧ c.buffers[b].state = .ready := by
  rw [waitsReady, hb, Bool.and_eq_true, Option.isNone_iff_eq_none, decide_eq_true_eq]

theorem waitsReady_buffer (h : waitsReady c e = true) :
    ∃ b, e.buffer = some b ∧ e.done = none ∧ c.buffers[b].state = .ready := by
  cases hb : e.buffer with
  | none =>
    rw [waitsReady, hb, Bool.and_false] at h
    cases h
  | some b => exact ⟨b, rfl, (waitsReady_some hb).1 h⟩

theorem firstReady_eq (c : LaneCoder) : firstReady c = (c.pass.find? (waitsReady c)).bind PassEntry.buffer := by
  have h : firstReady c = match c.pass.find? (waitsReady c) with | some e => e.buffer | none => none := rfl
  rw [h]
  cases c.pass.find? (waitsReady c) <;> rfl

theorem firstReady_some (h : firstReady c = some b) : ∃ before e behind, c.pass = before ++ e :: behind ∧
    e.done = none ∧ e.buffer = some b ∧ c.buffers[b].state = .ready ∧
    ∀ z ∈ before, z.done = none → ∀ k, z.buffer = some k → c.buffers[k].state ≠ .ready := by
  rw [firstReady_eq, Option.bind_eq_some_iff] at h
  obtain ⟨e, hfind, hb⟩ := h
  obtain ⟨hwaits, before, behind, hpass, hbefore⟩ := List.find?_eq_some_iff_append.1 hfind
  obtain ⟨hdone, hready⟩ := (waitsReady_some hb).1 hwaits
  refine ⟨before, e, behind, hpass, hdone, hb, hready, fun z hz hd k hk hr => ?_⟩
  have hnot := hbefore z hz
  rw [(waitsReady_some hk).2 ⟨hd, hr⟩] at hnot
  cases hnot

theorem firstReady_none (h : firstReady c = none) :
    ∀ z ∈ c.pass, z.done = none → ∀ k, z.buffer = some k → c.buffers[k].state ≠ .ready := by
  rw [firstReady_eq, Option.bind_eq_none_iff] at h
  intro z hz hd k hk hr
  cases hfind : c.pass.find? (waitsReady c) with
  | none => exact List.find?_eq_none.1 hfind z hz ((waitsReady_some hk).2 ⟨hd, hr⟩)
  | some e =>
    obtain ⟨b, hb, -⟩ := waitsReady_buffer (List.find?_some hfind)
    exact Option.some_ne_none b (hb.symm.trans (h e hfind))

end Sys2Proof.Machine
end

section
/-! SUPPORT. The slice at the front of the pass list is coded (R28, R30, R45 to R50). -/

namespace Sys2Proof.Machine

variable {s t u : State} {l : Lane} {c : LaneCoder} {b : Fin 2} {e : PassEntry} {rest : List PassEntry}
  {a : Allotment} {j : CodingJob} {x y : SliceResult}

/-! ## The counts of a coded slice -/

theorem laneActs_sliceCounts (l : Lane) (cap full : Bool) (s : State) :
    LaneActs l [ctrSlicesCapped, ctrBucketOverflows] s (sliceCounts l cap full s) := by
  have h := LaneActs.refl l [ctrSlicesCapped, ctrBucketOverflows] s
  have hcap := LaneActs.ite (c := cap = true) (h.count (c := ctrSlicesCapped) (by decide) .sliceCapped l.val) h
  exact .ite (hcap.count (by decide) _ _) hcap

theorem sliceCounts_capped (l : Lane) (full : Bool) (s : State) :
    (.sliceCapped, l.val) ∈ (sliceCounts l true full s).handler.flags ∧
    (sliceCounts l true full s).handler.counters[ctrSlicesCapped] = s.handler.counters[ctrSlicesCapped] + 1 := by
  have hflag := mem_flags_count s ctrSlicesCapped .sliceCapped l.val
  have hcount := count_counter_self s (c := ctrSlicesCapped) .sliceCapped l.val (by decide)
  cases full with
  | false => exact ⟨hflag, hcount⟩
  | true => exact ⟨(mem_flags_count_iff (by simp)).2 (.inr hflag),
      (count_counter_other _ _ _ (by decide) (by decide)).trans hcount⟩

theorem sliceCounts_full (l : Lane) (cap : Bool) (s : State) :
    (.bucketOverflow, l.val) ∈ (sliceCounts l cap true s).handler.flags ∧
    (sliceCounts l cap true s).handler.counters[ctrBucketOverflows]
      = s.handler.counters[ctrBucketOverflows] + 1 := by
  refine ⟨mem_flags_count _ _ _ _, (count_counter_self _ _ _ (by decide)).trans ?_⟩
  cases cap with
  | false => rfl
  | true => exact congrArg (· + 1) (count_counter_other s .sliceCapped l.val (by decide) (by decide))

/-! ## The front slice -/

theorem entryIn_front (hp : c.pass = e :: rest) (hb : e.buffer = some b) (hd : e.done = none) :
    entryIn c b = some e := by
  rw [entryIn, hp]
  exact List.find?_cons_of_pos (by rw [hb, hd]; simp)

theorem markDone_front (hp : c.pass = e :: rest) (hb : e.buffer = some b) (hd : e.done = none)
    (hrest : ∀ z ∈ rest, z.done = none → z.buffer ≠ some b) (y : SliceResult) : markDone b y c =
    { c with pass := { e with done := some y } :: rest, buffers := c.buffers.set b freeBuffer, engine := none } := by
  have hmap : rest.map (fun z => if z.buffer = some b && z.done.isNone then { z with done := some y } else z) = rest := by
    refine (List.map_congr_left fun z hz => if_neg ?_).trans (List.map_id' rest)
    simp only [Bool.and_eq_true, decide_eq_true_eq, Option.isNone_iff_eq_none]
    exact fun h => hrest z hz h.2 h.1
  unfold markDone
  rw [hp, List.map_cons, hmap, if_pos (by rw [hb, hd]; simp)]

/-- The lane once its front slice is coded and passed. -/
def frontPassed (b : Fin 2) (e : PassEntry) (rest : List PassEntry) (r : RateContext) (c : LaneCoder) : LaneCoder :=
  { c with engine := none, buffers := c.buffers.set b freeBuffer, pass := rest, rate := passedRate e r }

/-- R28, R30: the front slice goes to the store, and the done slices behind it are passed. -/
theorem alike_sliceEnds_front {r : RateContext} (hl : s.lanes[l] = c) (hp : c.pass = e :: rest)
    (hb : e.buffer = some b) (hd : e.done = none) (hrest : ∀ z ∈ rest, z.done = none → z.buffer ≠ some b)
    (ha : findAllotment c.rate e.tick = some a) (hy : cappedResult a e.index x = y)
    (hr : rateAfterSlice y.size (sliceAllotment a e.index) c.rate = r) : Alike (sliceEnds l b x s)
      (passReady l ((s.withStore (passedStore l e r (appendSlice l e.tick y s).store)).setLane l
        (frontPassed b e rest r c))) := by
  rw [sliceEnds_eq hl (entryIn_front hp hb hd) ha hy, hr,
    markDone_front (c := { c with rate := r }) hp hb hd hrest y]
  have hcounts := alike_sliceCounts l (capApplies a e.index x) (sliceOverflows a e.index y.size c.rate) s
  generalize sliceCounts l _ _ s = v at hcounts
  rw [passReady_done (setLane_lane v l _) rfl rfl, setLane_setLane, passOne_eq _ y (setLane_lane v l _)]
  have happ := appendSlice_store_congr (s := v.setLane l
    { c with pass := rest, buffers := c.buffers.set b freeBuffer, engine := none, rate := r }) hcounts.store l e.tick y
  refine Alike.passReady ⟨?_, ?_⟩ l
  · simp only [State.setLane, State.withLanes_lanes, State.withStore_lanes, appendSlice_lanes, hcounts.lanes,
      Vector.set_set]
    rfl
  · exact congrArg (passedStore l e r) happ

/-! ## The event (R28) -/

theorem exec_sliceCoded {bytes : List Byte} (hp : s.power = true) (hl : s.lanes[l] = c) (he : c.engine = some j)
    (hmin : 32 ≤ bytes.length) (hmax : bytes.length ≤ codingWidth c * 48) : exec (.sliceCoded l bytes) s =
    .next (maybeOff l (startEngine l 3 (sliceEnds l j.buffer ⟨.coded, some j.q, bytes.length, bytes⟩ s))) := by
  rw [exec_sliceCoded_live hmin (.inl (hl ▸ hmax)), live_on hp, sliceCoded, hl, he]

/-- R45: a coded slice of a DELTA frame above its allotment times the cap factor is replaced. -/
theorem cappedResult_coded (a : Allotment) (i q : Nat) (bytes : List Byte) :
    cappedResult a i ⟨.coded, some q, bytes.length, bytes⟩ =
      if a.kind = .delta ∧ sliceAllotment a i * a.capF < bytes.length then ⟨.repeated, none, 16, []⟩
      else ⟨.coded, some q, bytes.length, bytes⟩ := by
  refine if_congr ?_ rfl rfl
  simp only [capApplies, capped, decide_true, Bool.true_and, Bool.and_eq_true, decide_eq_true_eq]

theorem capApplies_of_repeated {i : Nat} (hx : x.kind = .coded) (h : (cappedResult a i x).kind = .repeated) :
    capApplies a i x = true := by
  by_contra hc
  rw [cappedResult, if_neg hc, hx] at h
  cases h

/-- R28: the machine behind a coded slice, beside which only the flags and the counters of the lane coder have moved. -/
theorem laneActs_coded (cap full : Bool) (k : LaneCoder) (n : Nat) (s : State) :
    LaneActs l (ctrSlicesCapped :: engineCounters) s
      (startEngine l n (passReady l ((sliceCounts l cap full s).setLane l k))) :=
  (((laneActs_sliceCounts l cap full s).mono (by decide)).setLane k).trans
    (((laneActs_passReady l _).mono (by decide)).trans ((laneActs_startEngine l n _).mono (by decide)))

/-- R45: the cap is counted once, and stays reported. -/
theorem capped_counted (full : Bool) (k : LaneCoder) (n : Nat) (s : State) :
    (.sliceCapped, l.val) ∈
      (startEngine l n (passReady l ((sliceCounts l true full s).setLane l k))).handler.flags ∧
    (startEngine l n (passReady l ((sliceCounts l true full s).setLane l k))).handler.counters[ctrSlicesCapped] =
      s.handler.counters[ctrSlicesCapped] + 1 := by
  obtain ⟨hflag, hcount⟩ := sliceCounts_capped l full s
  have hacts := (((LaneActs.refl l _ (sliceCounts l true full s)).setLane k).trans
    ((laneActs_passReady l _).mono (by decide))).trans (laneActs_startEngine l n _)
  exact ⟨hacts.flags _ hflag (by simp), (hacts.counters _ (by decide) (by decide)).trans hcount⟩

/-- R46: the overflow stays reported, and is counted once where the engine begins no slice. -/
theorem overflow_counted (cap : Bool) (k : LaneCoder) (n : Nat) (s : State) :
    (.bucketOverflow, l.val) ∈
      (startEngine l n (passReady l ((sliceCounts l cap true s).setLane l k))).handler.flags ∧
    (passReady l ((sliceCounts l cap true s).setLane l k)).handler.counters[ctrBucketOverflows] =
      s.handler.counters[ctrBucketOverflows] + 1 := by
  obtain ⟨hflag, hcount⟩ := sliceCounts_full l cap s
  have hpass := ((LaneActs.refl l _ (sliceCounts l cap true s)).setLane k).trans (laneActs_passReady l _)
  have hacts := (hpass.mono (by decide)).trans (laneActs_startEngine l n _)
  exact ⟨hacts.flags _ hflag (by simp), (hpass.counters _ (by decide) (by decide)).trans hcount⟩

/-- The lane behind the passing keeps all but its pass list and its rates; the engine is idle and a clear force clear. -/
theorem frontPassed_facts {r : RateContext} (hu : passReady l (t.setLane l (frontPassed b e rest r c)) = u) :
    u.lanes[l].engine = none ∧ u.lanes[l].state = c.state ∧ u.lanes[l].frame = c.frame ∧ u.lanes[l].held = c.held ∧
      u.lanes[l].format = c.format ∧ u.lanes[l].rate.force = r.force := by
  subst hu
  have hpassed := passed_passReady l (t.setLane l (frontPassed b e rest r c))
  have hforce := passReady_force l (t.setLane l (frontPassed b e rest r c))
  rw [setLane_lane] at hforce
  unfold Passed at hpassed
  rw [setLane_lane] at hpassed
  refine ⟨?_, ?_, ?_, ?_, ?_, hforce.trans (passedRate_force e r)⟩
  all_goals
    rw [hpassed]
    rfl

theorem passReady_frontPassed {r : RateContext} (h : ∀ z, rest.head? = some z → z.done = none) :
    passReady l (t.setLane l (frontPassed b e rest r c)) = t.setLane l (frontPassed b e rest r c) :=
  passReady_waiting (by rw [setLane_lane]; exact h)

end Sys2Proof.Machine
end

section
/-! SUPPORT. The settlement of O17. -/

namespace Sys2Proof.Machine

variable {s : State} {l : Lane} {c : LaneCoder} {e : PassEntry} {a : Allotment} {b : Fin 2}

theorem sliceCounts_setLane (l : Lane) (cap full : Bool) (k : LaneCoder) (s : State) :
    sliceCounts l cap full (s.setLane l k) = (sliceCounts l cap full s).setLane l k := by
  have hif : ∀ (p : Bool) (v : State) (n : Fin 40) (d : EventKind),
      (if p then (v.setLane l k).count n d l.val else v.setLane l k) =
        (if p then v.count n d l.val else v).setLane l k := fun p v n d => by
    split
    · exact count_setLane ..
    · rfl
  unfold sliceCounts
  dsimp only
  rw [hif, hif]

/-- R47: the lane whose forced slice has been replaced by REPEAT of size 16. -/
def replacedLane (b : Fin 2) (e : PassEntry) (a : Allotment) (c : LaneCoder) : LaneCoder :=
  { c with
    engine := none, buffers := c.buffers.set b freeBuffer
    pass := c.pass.map (fun z =>
      if z.buffer = some b ∧ z.done = none then { z with done := some ⟨.repeated, none, 16, []⟩ } else z)
    rate := rateAfterSlice 16 (sliceAllotment a e.index) { c.rate with force := false } }

theorem markDone_begunLane (b : Fin 2) (e : PassEntry) (a : Allotment) (c : LaneCoder) :
    markDone b ⟨.repeated, none, 16, []⟩ { begunLane b c with
      rate := rateAfterSlice 16 (sliceAllotment a e.index) (begunLane b c).rate } = replacedLane b e a c := by
  simp only [markDone, begunLane, replacedLane, Vector.set_set, Bool.and_eq_true, decide_eq_true_eq,
    Option.isNone_iff_eq_none]

/-- R47: a forced slice of a DELTA frame is done at its beginning, as REPEAT of size 16. -/
theorem beginCoding_replaced (hl : s.lanes[l] = c) (he : entryIn c b = some e)
    (ha : findAllotment c.rate e.tick = some a) (hforce : c.rate.force = true) (hk : a.kind = .delta) :
    beginCoding l b s = passReady l ((sliceCounts l false (sliceOverflows a e.index 16 c.rate) s).setLane l
      (replacedLane b e a c)) := by
  rw [beginCoding_delta hl he ha hforce hk,
    sliceEnds_eq (c := begunLane b c) (y := ⟨.repeated, none, 16, []⟩) (setLane_lane s l _) he ha rfl,
    markDone_begunLane, sliceCounts_setLane, setLane_setLane]
  rfl

/-- The only slice of the pass list, replaced, goes to the store at once. -/
theorem passReady_replacedLane {t : State} (hp : c.pass = [e]) (he : entryIn c b = some e)
    (ha : findAllotment c.rate e.tick = some a) (hmore : e.index + 1 < a.n) :
    (passReady l (t.setLane l (replacedLane b e a c))).lanes[l] = { replacedLane b e a c with pass := [] } ∧
      (passReady l (t.setLane l (replacedLane b e a c))).store
        = (appendSlice l e.tick ⟨.repeated, none, 16, []⟩ t).store := by
  obtain ⟨hb, hd⟩ := entryIn_some he
  have hpass : (replacedLane b e a c).pass = [{ e with done := some ⟨.repeated, none, 16, []⟩ }] := by
    simp only [replacedLane, hp, List.map_cons, List.map_nil, hb, hd, and_self, if_true]
  have hmore' : ∀ z, findAllotment (replacedLane b e a c).rate e.tick = some z → e.index + 1 ≠ z.n := fun z hz =>
    Option.some.inj (ha.symm.trans hz) ▸ hmore.ne
  rw [passReady_single (setLane_lane t l _) hpass rfl hmore', setLane_setLane, appendSlice_lanes, setLane_lane]
  exact ⟨rfl, appendSlice_store_congr (s := t.setLane l _) (t := t) rfl l e.tick _⟩

/-- R47: the beginning of a slice's coding under a force, and under none. -/
theorem beginCoding_spec {s : State} {l : Lane} {b : Fin 2} {c : LaneCoder} {e : PassEntry} {a : Allotment}
    (hl : s.lanes[l] = c) (he : entryIn c b = some e) (ha : findAllotment c.rate e.tick = some a) {v : State}
    (hforce : c.rate.force = true) (hk : a.kind = .delta) (hv : passReady l (s.setLane l (replacedLane b e a c)) = v) :
    Alike (beginCoding l b s) v ∧
      (c.pass = [e] → e.index + 1 < a.n →
        (beginCoding l b s).lanes[l] = { replacedLane b e a c with pass := [] } ∧
        (beginCoding l b s).store = (appendSlice l e.tick ⟨.repeated, none, 16, []⟩ s).store) ∧
      (c.rate.settings.cb < c.rate.fullness + 16 - sliceAllotment a e.index →
        (.bucketOverflow, l.val) ∈ (beginCoding l b s).handler.flags) := by
  have hcounts := alike_sliceCounts l false (sliceOverflows a e.index 16 c.rate) s
  rw [beginCoding_replaced hl he ha hforce hk]
  refine ⟨hv ▸ (hcounts.setLane l _).passReady l, fun hp hmore => ?_, fun hover => ?_⟩
  · rw [← appendSlice_store_congr hcounts.store]
    exact passReady_replacedLane hp he ha hmore
  · have hfull : sliceOverflows a e.index 16 c.rate = true := decide_eq_true hover
    rw [hfull]
    exact (overflow_counted false _ 0 s).1

/-- R28, R30: the coded slice at the front of the pass list, the done slices behind it, and the engine's next slice. -/
theorem sliceCoded_front {s u w : State} {l : Lane} {bytes : List Byte} {c : LaneCoder} {j : CodingJob} {e : PassEntry}
    {rest : List PassEntry} {a : Allotment} {y : SliceResult} {r : RateContext} {st : CodedStore} (hl : s.lanes[l] = c)
    (hp : c.pass = e :: rest) (hb : e.buffer = some j.buffer) (hd : e.done = none)
    (hrest : ∀ z ∈ rest, z.done = none → z.buffer ≠ some j.buffer) (ha : findAllotment c.rate e.tick = some a)
    (hy : cappedResult a e.index ⟨.coded, some j.q, bytes.length, bytes⟩ = y)
    (hr : rateAfterSlice y.size (sliceAllotment a e.index) c.rate = r)
    (hst : passedStore l e r (appendSlice l e.tick y s).store = st)
    (hu : passReady l ((s.withStore st).setLane l (frontPassed j.buffer e rest r c)) = u)
    (hw : startEngine l 3 u = w) : ∃ t : State,
      startEngine l 3 (sliceEnds l j.buffer ⟨.coded, some j.q, bytes.length, bytes⟩ s) = t ∧ Alike t w ∧
      LaneActs l (ctrSlicesCapped :: engineCounters) s t ∧
      (y.kind = .repeated → (.sliceCapped, l.val) ∈ t.handler.flags ∧
        t.handler.counters[ctrSlicesCapped] = s.handler.counters[ctrSlicesCapped] + 1) ∧
      (c.rate.settings.cb < c.rate.fullness + y.size - sliceAllotment a e.index →
        (.bucketOverflow, l.val) ∈ t.handler.flags ∧ (firstReady u.lanes[l] = none →
          t.handler.counters[ctrBucketOverflows] = s.handler.counters[ctrBucketOverflows] + 1)) := by
  have halike : Alike (sliceEnds l j.buffer ⟨.coded, some j.q, bytes.length, bytes⟩ s) u := by
    rw [← hu, ← hst]
    exact alike_sliceEnds_front hl hp hb hd hrest ha hy hr
  have hends := sliceEnds_eq (x := ⟨.coded, some j.q, bytes.length, bytes⟩) hl (entryIn_front hp hb hd) ha hy
  refine ⟨_, rfl, hw ▸ Alike.startEngine l 3 halike, ?_, fun hk => ?_, fun hover => ⟨?_, fun hnone => ?_⟩⟩
  · rw [hends]
    exact laneActs_coded _ _ _ _ s
  · rw [hends, capApplies_of_repeated rfl (hy ▸ hk)]
    exact capped_counted _ _ _ s
  · rw [hends, show sliceOverflows a e.index y.size c.rate = true from decide_eq_true hover]
    exact (overflow_counted _ _ 3 s).1
  · rw [startEngine_none 3 (by rw [halike.lane]; exact hnone), hends,
      show sliceOverflows a e.index y.size c.rate = true from decide_eq_true hover]
    exact (overflow_counted _ _ 3 s).2

/-- Settles O17: the coded front slice by `sliceEnds`, the beginning of the next by `beginCoding`, and the passing and the
engine's choice by the equations of `passReady`, `firstReady` and `startEngine`. -/
theorem codedSlicesArePassed : Obligations.CodedSlicesArePassed := by
  refine ⟨?_, ?_, ?_⟩
  · intro s l bytes c c1 j e rest a y r1 r2 st u w hpow hl heng
    refine ⟨fun hsize => exec_sliceCoded_fault hpow (by rw [hl, heng]; rfl) (by rw [hl]; exact hsize), ?_⟩
    intro hmin hmax hp hb hd hrest ha hy hr1 hr2 hst hc1 hu hw
    have ha1 : findAllotment r1 e.tick = some a := hr1 ▸ ha
    have hc1' : c1 = frontPassed j.buffer e rest r1 c := by rw [hc1, hr2, frontPassed, passedRate_eq ha1]
    have hst' : passedStore l e r1 (appendSlice l e.tick y s).store = st := by rw [hst, passedStore_eq ha1]
    obtain ⟨hidle, hstate, hframe, hheld, hformat, hforce⟩ := frontPassed_facts (hc1' ▸ hu.symm)
    obtain ⟨t, ht, halike, hacts, hcapped, hover⟩ := sliceCoded_front hl hp hb hd hrest ha
      ((cappedResult_coded a e.index j.q bytes).trans hy.symm) hr1.symm hst' (hc1' ▸ hu.symm) hw.symm
    have hexec := exec_sliceCoded hpow hl heng hmin hmax
    rw [ht] at hexec
    have hcoded : Coded l u w := hw ▸ coded_startEngine l 3 u
    have htl := halike.lane l
    refine ⟨fun hstay => ⟨t, ?_, htl, halike.store, fun hwait => ?_, fun hnone => ?_, fun b f z hfree hfirst hin hz => ?_,
      hacts.others, hcapped, hover, hacts.mixer, hacts.paths, hacts.asm, hacts.clips, hacts.labels, hacts.ref⟩,
      fun hdrain hnoframe hempty => ⟨maybeOff l t, hexec, ?_⟩⟩
    · rw [hexec, maybeOff_stay (by rw [htl, hcoded.state, hcoded.frame, hstate, hframe]; exact hstay)]
    · rw [hu, hc1', passReady_frontPassed hwait, setLane_lane]
      exact ⟨rfl, rfl⟩
    · rw [htl, halike.store, hw, startEngine_none 3 hnone]
      exact ⟨rfl, rfl⟩
    · rw [htl, halike.store, hw, startEngine_unforced rfl hidle hfirst hin hz (hforce.trans hfree), setLane_lane]
      exact ⟨rfl, rfl⟩
    · have hlane : t.lanes[l].state = .draining ∧ t.lanes[l].frame = none ∧ t.lanes[l].pass = [] := by
        rw [htl, hcoded.state, hcoded.frame, hstate, hframe]
        exact ⟨hdrain, hnoframe, hempty⟩
      have hkept : t.lanes[l].held = c.held ∧ t.lanes[l].format = c.format := by
        rw [htl, hcoded]
        exact ⟨hheld, hformat⟩
      rw [maybeOff_off hlane.1 hlane.2.1 hlane.2.2, setVideo_video, setVideo_lane, setLane_lane]
      refine ⟨rfl, rfl, rfl, rfl, ?_, rfl, rfl, rfl, halike.store⟩
      rw [← hkept.1, ← hkept.2]
      rfl
  · intro s l b c e a hl he ha
    refine ⟨fun hf => beginCoding_unforced hl he ha hf, fun hf hk => beginCoding_key hl he ha hf hk,
      fun v hf hk hv => ?_⟩
    obtain ⟨halike, honly, hover⟩ := beginCoding_spec hl he ha hf hk hv
    exact ⟨_, rfl, halike.lanes, halike.store, honly, hover, (laneActs_beginCoding l b s).others⟩
  · intro s l c hl
    refine ⟨fun hp => passReady_waiting (by rw [hl, hp]; nofun), fun e rest hp => ⟨fun hd => ?_, fun x s1 hd hs1 => ?_⟩,
      fun b => firstReady_some, firstReady_none, fun n => ⟨fun h => ?_, fun b heng hf => ?_⟩⟩
    · refine passReady_waiting fun z hz => ?_
      rw [hl, hp] at hz
      exact Option.some.inj hz ▸ hd
    · have hlane := setLane_lane s l { c with pass := rest }
      subst hs1
      rw [passReady_done hl hp hd]
      refine ⟨fun hmore => by rw [passOne_more x hlane hmore], fun a ha hlast => ?_⟩
      rw [passOne_last x hlane ha hlast]
    · rcases h with h | h
      · exact startEngine_busy n (by rw [hl]; exact h)
      · exact startEngine_none n (by rw [hl]; exact h)
    · exact startEngine_next (by rw [hl]; exact heng) (by rw [hl]; exact hf)

end Sys2Proof.Machine
end

section
/-! SUPPORT. What the store, the clip log and the cursors leave of the lane coders (R58, R63 to R65, R125, R127, R128, R138):
a reclaim of unsent records and a live skip request a KEY frame; nothing else of a lane moves. -/

namespace Sys2Proof.Machine

variable {s t u : State}

/-! ## The clip log and the transfer engines -/

@[simp] theorem lanes_markStale (id) (s : State) : (markStale id s).lanes = s.lanes := by
  rcases markStale_cases id s with ⟨-, e⟩ | ⟨-, -, e⟩ | ⟨-, -, e⟩ <;> rw [e] <;> rfl

@[simp] theorem lanes_mark (id) (s : State) : (mark id s).lanes = s.lanes := by simp [mark]

@[simp] theorem lanes_modClip (s : State) (id f) : (s.modClip id f).lanes = s.lanes := rfl

@[simp] theorem lanes_enterQueued (id) (s : State) : (enterQueued id s).lanes = s.lanes := by
  unfold enterQueued; split <;> simp

@[simp] theorem lanes_releasePins (id sel) (s : State) : (releasePins id sel s).lanes = s.lanes := by
  unfold releasePins; split <;> simp

@[simp] theorem lanes_transferDone (e id) (s : State) : (transferDone e id s).lanes = s.lanes := by
  unfold transferDone; dsimp only; split <;> split <;> simp

@[simp] theorem lanes_engineTake (e id) (s : State) : (engineTake e id s).lanes = s.lanes := by
  unfold engineTake; dsimp only; split <;> [skip; split] <;> simp

@[simp] theorem lanes_runEngines : ∀ (n : Nat) (s : State), (runEngines n s).lanes = s.lanes
  | 0, _ => rfl
  | n + 1, s => by
    unfold runEngines
    split
    · rfl
    · split <;> [skip; split] <;> simp [lanes_runEngines n]

@[simp] theorem lanes_serveEngines (s : State) : (serveEngines s).lanes = s.lanes := lanes_runEngines _ s

@[simp] theorem lanes_closeClip (id out c) (s : State) : (closeClip id out c s).lanes = s.lanes := by
  unfold closeClip; split <;> [skip; split] <;> simp

@[simp] theorem lanes_weighRecord (l r id) (s : State) : (weighRecord l r id s).lanes = s.lanes := by
  unfold weighRecord
  split
  · rfl
  · dsimp only
    split <;> [split; skip] <;> simp

@[simp] theorem lanes_newRecord (l k) (s : State) : (newRecord l k s).lanes = s.lanes := by
  unfold newRecord
  split
  · rfl
  · exact List.foldlRecOn (motive := fun u => u.lanes = s.lanes) _ _ rfl fun u hu id _ =>
      (lanes_weighRecord _ _ id u).trans hu

/-! ## The cursors -/

@[simp] theorem lanes_seek (l) : ∀ (rs : List FrameRecord) (s : State), (seek l rs s).lanes = s.lanes
  | [], _ => rfl
  | r :: rs, s => by
    unfold seek
    split
    · exact lanes_seek l rs s
    · split
      · rw [lanes_seek l rs]; split <;> rfl
      · dsimp only
        split <;> rfl

@[simp] theorem lanes_weighNew (l k) (s : State) : (weighNew l k s).lanes = s.lanes := by
  unfold weighNew; split <;> simp

@[simp] theorem lanes_dropStale : ∀ (n : Nat) (s : State), (dropStale n s).lanes = s.lanes
  | 0, _ => rfl
  | n + 1, s => by
    unfold dropStale
    split
    · split
      · rw [lanes_dropStale n]; simp
      · rfl
    · rfl

@[simp] theorem lanes_leaveAbandoned (l) (s : State) : (leaveAbandoned l s).lanes = s.lanes := by
  unfold leaveAbandoned seekOnward; split <;> [skip; split] <;> [skip; split; skip] <;> simp

@[simp] theorem lanes_enterAwaiting (l) (s : State) : (enterAwaiting l s).lanes = s.lanes := by
  simp [enterAwaiting, settleRedispatch]

@[simp] theorem lanes_awaitingOrders : ∀ (ls : List Lane) (s : State), (awaitingOrders ls s).lanes = s.lanes
  | [], _ => rfl
  | _ :: ls, s => (lanes_awaitingOrders ls _).trans (lanes_enterAwaiting _ s)

/-! ## Key requests -/

/-- From `s` to `t` nothing of the lane coders but their key requests has moved. -/
def Requested (s t : State) : Prop := ∀ m : Lane, t.lanes[m] = { s.lanes[m] with keyReq := t.lanes[m].keyReq }

namespace Requested

theorem of_lanes (h : t.lanes = s.lanes) : Requested s t := fun m => by rw [h]

theorem trans (h : Requested s t) (g : Requested t u) : Requested s u := fun m => by rw [g m, h m]

theorem requestKey (s : State) (l : Lane) : Requested s (s.requestKey l) := fun m => by
  rw [State.requestKey, modLane_eq]
  by_cases hm : m = l
  · subst hm
    rw [setLane_lane]
    split
    · rfl
    · rfl
  · rw [setLane_other hm]

end Requested

theorem requested_reclaim : ∀ (n : Nat) (orders : List Lane) (s : State), Requested s (reclaim n orders s).1
  | 0, _, _ => .of_lanes rfl
  | n + 1, orders, s => by
    unfold reclaim
    split
    · exact .of_lanes rfl
    · split
      · exact .of_lanes rfl
      · dsimp only
        split
        · refine Requested.trans ?_ (requested_reclaim n _ _)
          refine Requested.trans (Requested.of_lanes ?_) (Requested.requestKey _ _)
          rfl
        · exact (Requested.of_lanes rfl).trans (requested_reclaim n _ _)

theorem requested_makeReserve (s : State) : Requested s (makeReserve s) := by
  unfold makeReserve
  split
  · exact .of_lanes rfl
  · exact (requested_reclaim _ _ s).trans (.of_lanes (lanes_awaitingOrders _ _))

/-- R58: the offer of a frame. -/
theorem requested_offerFrame (l : Lane) (k : Word) (tc : Timecode) (kind : FrameKind) (n : Nat) (s : State) :
    Requested s (offerFrame l k tc kind n s).1 := by
  unfold offerFrame
  split
  · exact .of_lanes rfl
  · dsimp only
    split
    · exact (requested_makeReserve s).trans (.of_lanes rfl)
    · exact (requested_makeReserve s).trans (.of_lanes rfl)

theorem requested_liveSkip (l : Lane) (limit : Nat) (s : State) : Requested s (liveSkip l limit s) := by
  unfold liveSkip
  split
  · exact .of_lanes rfl
  · split
    · exact .of_lanes rfl
    · refine Requested.trans ?_ (.of_lanes (lanes_enterAwaiting _ _))
      exact Requested.requestKey (s.withStore _) l

end Sys2Proof.Machine
end

section
/-! SUPPORT. What the coding of a lane's slices leaves of the lane and of its rates (R26 to R31, R37, R46 to R50): its state,
its formats, its key request and the lane rate stand, with a frame in progress and behind its end. -/

namespace Sys2Proof.Machine

variable {s t u : State} {l : Lane} {f : FrameInProgress} {x : Line}

/-- From `s` to `t` slices of lane `l` have been filled, made ready, coded or passed: nothing else of the lane has moved. -/
def Sliced (l : Lane) (s t : State) : Prop :=
  t.lanes[l] = { s.lanes[l] with
    fill := t.lanes[l].fill, frame := t.lanes[l].frame, buffers := t.lanes[l].buffers, engine := t.lanes[l].engine
    pass := t.lanes[l].pass, placing := t.lanes[l].placing
    rate := { s.lanes[l].rate with
      fullness := t.lanes[l].rate.fullness, q := t.lanes[l].rate.q, force := t.lanes[l].rate.force
      allots := t.lanes[l].rate.allots } }

namespace Sliced

theorem of_lane (h : t.lanes[l] = s.lanes[l]) : Sliced l s t := by
  unfold Sliced
  rw [h]

theorem refl (l : Lane) (s : State) : Sliced l s s := rfl

theorem trans (h : Sliced l s t) (g : Sliced l t u) : Sliced l s u := by
  unfold Sliced at *
  rw [g, h]

theorem ite {c : Prop} [Decidable c] (ht : Sliced l s t) (hu : Sliced l s u) : Sliced l s (if c then t else u) := by
  split
  · exact ht
  · exact hu

theorem modLane (h : Sliced l s t) {g : LaneCoder → LaneCoder}
    (hg : ∀ c, g c = { c with
      fill := (g c).fill, frame := (g c).frame, buffers := (g c).buffers, engine := (g c).engine, pass := (g c).pass
      placing := (g c).placing
      rate := { c.rate with
        fullness := (g c).rate.fullness, q := (g c).rate.q, force := (g c).rate.force
        allots := (g c).rate.allots } }) : Sliced l s (t.modLane l g) := by
  refine h.trans ?_
  unfold Sliced
  rw [modLane_eq, setLane_lane]
  exact hg _

theorem modRate (h : Sliced l s t) {g : RateContext → RateContext}
    (hg : ∀ r, g r = { r with
      fullness := (g r).fullness, q := (g r).q, force := (g r).force, allots := (g r).allots }) :
    Sliced l s (t.modRate l g) :=
  h.modLane fun c => congrArg (fun r => { c with rate := r }) (hg c.rate)

theorem withStore (h : Sliced l s t) (st : CodedStore) : Sliced l s (t.withStore st) := h

theorem count (h : Sliced l s t) (c : Fin 40) (k : EventKind) (n : Nat) : Sliced l s (t.count c k n) := h

theorem state (h : Sliced l s t) : t.lanes[l].state = s.lanes[l].state := by rw [h]

end Sliced

/-! ## Passing and coding (R30, R28, R45 to R50) -/

theorem sliced_passOne (l : Lane) (e : PassEntry) (y : SliceResult) (s : State) : Sliced l s (passOne l e y s) := by
  have happ : Sliced l s (appendSlice l e.tick y s) := .of_lane (by rw [appendSlice_lanes])
  unfold passOne
  dsimp only
  split
  · exact happ
  · next a _ =>
    refine .ite ((happ.withStore _).modRate fun r => ?_) happ
    obtain ⟨k, -⟩ := a
    unfold addDebt dropAllotment
    split <;> rfl

theorem sliced_passDone (l : Lane) : ∀ (n : Nat) (s : State), Sliced l s (passDone l n s)
  | 0, s => .refl l s
  | n + 1, s => by
    unfold passDone
    split
    · refine Sliced.trans ?_ ((sliced_passOne l _ _ _).trans (sliced_passDone l n _))
      exact (Sliced.refl l s).modLane fun _ => rfl
    · exact .refl l s

theorem sliced_passReady (l : Lane) (s : State) : Sliced l s (passReady l s) := sliced_passDone l _ s

theorem sliced_sliceEnds (l : Lane) (b : Fin 2) (y : SliceResult) (s : State) : Sliced l s (sliceEnds l b y s) := by
  unfold sliceEnds
  split
  · exact .refl l s
  · split
    · exact .refl l s
    · have hcap : ∀ p : Bool, Sliced l s (if p then s.count ctrSlicesCapped .sliceCapped l.val else s) := fun p =>
        .ite (.refl l s) (.refl l s)
      refine Sliced.trans ?_ (sliced_passReady l _)
      exact ((Sliced.ite ((hcap _).count _ _ _) (hcap _)).modRate fun _ => rfl).modLane fun _ => rfl

theorem sliced_beginCoding (l : Lane) (b : Fin 2) (s : State) : Sliced l s (beginCoding l b s) := by
  unfold beginCoding
  split
  · exact .refl l s
  · split
    · exact .refl l s
    · have hbegin : Sliced l s (s.modLane l (fun c => { c with
          buffers := c.buffers.set b { c.buffers[b] with state := .coding }
          rate := { c.rate with force := false } })) := (Sliced.refl l s).modLane fun _ => rfl
      dsimp only
      split
      · split
        · exact hbegin.trans (sliced_sliceEnds l b _ _)
        · exact (hbegin.modRate fun _ => rfl).modLane fun _ => rfl
      · exact hbegin.modLane fun _ => rfl

theorem sliced_startEngine (l : Lane) : ∀ (n : Nat) (s : State), Sliced l s (startEngine l n s)
  | 0, s => .refl l s
  | n + 1, s => by
    unfold startEngine
    split
    · exact .refl l s
    · split
      · exact .refl l s
      · exact (sliced_beginCoding l _ s).trans (sliced_startEngine l n _)

/-! ## Slices and the end of a frame (R26, R29, R31) -/

theorem sliced_ensureBegun (l : Lane) (s : State) : Sliced l s (ensureBegun l s) := by
  unfold ensureBegun
  split
  · refine .ite (.refl l s) ?_
    unfold beginSlice
    dsimp only
    split
    · exact (Sliced.refl l s).modLane fun _ => rfl
    · refine Sliced.count ?_ _ _ _
      exact (Sliced.refl l s).modLane fun _ => rfl
  · exact .refl l s

theorem sliced_makeReady (l : Lane) (s : State) : Sliced l s (makeReady l s) := by
  refine Sliced.trans ?_ ((sliced_passReady l _).trans (sliced_startEngine l 3 _))
  refine (sliced_ensureBegun l s).modLane fun c => ?_
  unfold finishSlice
  split
  · rfl
  · split
    · rfl
    · dsimp only
      split <;> rfl

theorem sliced_readyUpTo (l : Lane) (k : Nat) : ∀ (n : Nat) (s : State), Sliced l s (readyUpTo l k n s)
  | 0, s => .refl l s
  | n + 1, s => by
    unfold readyUpTo
    split
    · exact .ite ((sliced_makeReady l s).trans (sliced_readyUpTo l k n _)) (.refl l s)
    · exact .refl l s

theorem sliced_readyAfter (l : Lane) (n : Nat) (s : State) : Sliced l s (readyAfter l n s) := by
  unfold readyAfter
  split
  · exact .ite (sliced_makeReady l s) (.refl l s)
  · exact .refl l s

/-- R26, R27, R29: a line of a STORED frame. -/
theorem sliced_placeLine (l : Lane) (f : FrameInProgress) (x : Line) (s : State) : Sliced l s (placeLine l f x s) := by
  have hput : ∀ {u : State}, Sliced l s u → Sliced l s (u.modLane l (putLine x)) := fun h => h.modLane fun c => by
    unfold putLine
    split
    · rfl
    · split <;> rfl
  have hfill := (Sliced.refl l s).modLane
    (g := fun c => { c with fill := match c.fill with | some p => some p | none => some x.pixels }) fun _ => rfl
  have hbegun := hput ((hfill.trans (sliced_readyUpTo l (x.number / 16) (sliceCount f.format) _)).trans
    (sliced_ensureBegun l _))
  exact .ite hfill (.ite (hbegun.trans (sliced_readyAfter l x.number _)) hbegun)

/-- R31: the frame in progress of a lane that is not DRAINING ends. -/
theorem sliced_endFrame (h : s.lanes[l].state ≠ .draining) : Sliced l s (endFrame l s) := by
  unfold endFrame
  split
  · exact .refl l s
  · next f _ =>
    have hend := (Sliced.ite (c := f.disposition = .stored)
      (sliced_readyUpTo l (sliceCount f.format) (sliceCount f.format) s) (.refl l s)).modLane
        (g := fun c => { c with frame := none, fill := none }) fun _ => rfl
    dsimp only
    rw [maybeOff_stay (.inl (by rw [hend.state]; exact h))]
    exact hend

/-- R31: no frame is in progress then. -/
theorem endFrame_frame (h : s.lanes[l].state ≠ .draining) : (endFrame l s).lanes[l].frame = none := by
  unfold endFrame
  split
  · next hf => exact hf
  · next f _ =>
    have hready := Sliced.ite (c := f.disposition = .stored)
      (sliced_readyUpTo l (sliceCount f.format) (sliceCount f.format) s) (.refl l s)
    dsimp only
    rw [maybeOff_stay (.inl (by rw [modLane_eq, setLane_lane]; exact hready.state.trans_ne h)), modLane_eq, setLane_lane]

/-! ## The other lanes and the other blocks -/

theorem laneActs_placeLine (l : Lane) (f : FrameInProgress) (x : Line) (s : State) :
    LaneActs l coderCounters s (placeLine l f x s) := by
  have hfill := (LaneActs.refl l coderCounters s).modLane
    (fun c => { c with fill := match c.fill with | some p => some p | none => some x.pixels })
  have hbegun := ((hfill.trans (laneActs_readyUpTo l (x.number / 16) (sliceCount f.format) _)).trans
    (laneActs_ensureBegun l _)).modLane (putLine x)
  refine .ite hfill (.ite (hbegun.trans ?_) hbegun)
  unfold readyAfter
  split
  · exact .ite (laneActs_makeReady l _) (.refl l _ _)
  · exact .refl l _ _

end Sys2Proof.Machine
end

section
/-! SUPPORT. A lane frame start (R22, R24, R39 to R43, R58, R128) in its steps: the settings and the shares, the offer, the
coder's answer to it, the clip log and the cursor, and the lag. -/

namespace Sys2Proof.Machine

variable {s t u : State} {l m : Lane} {c a b : LaneCoder} {on : Bool} {x : Line}

/-! ## The shares (R39 to R41) -/

theorem workShares_lane (l : Lane) (on : Bool) (s : State) : (workShares l on s).lanes[l] = { s.lanes[l] with
    rate := { s.lanes[l].rate with
      tallyOn := on, rate := (workShares l on s).lanes[l].rate.rate
      capacity := (workShares l on s).lanes[l].rate.capacity } } := by
  simp only [workShares, State.modRate, modLane_eq, setLane_lane, State.withLanes_lanes, mapVec_getElem]

theorem workShares_other (h : m ≠ l) (on : Bool) (s : State) : (workShares l on s).lanes[m] = { s.lanes[m] with
    rate := { s.lanes[m].rate with rate := (workShares l on s).lanes[m].rate.rate } } := by
  simp only [workShares, State.modRate, modLane_eq, setLane_lane, setLane_other h, State.withLanes_lanes, mapVec_getElem]

/-- The lane with the tally of the frame that starts. -/
def tallied (on : Bool) (c : LaneCoder) : LaneCoder := { c with rate := { c.rate with tallyOn := on } }

theorem weightSum_set (v : Vector LaneCoder 6) (l : Lane) (h : laneWeight a = laneWeight b) :
    weightSum (v.set l a) = weightSum (v.set l b) := by
  simp only [weightSum, Vector.toList_set, List.map_set, h]

/-- R41: the shares depend on the lane that starts by its weight alone. -/
theorem workShares_congr (s : State) (h : laneWeight (tallied on a) = laneWeight (tallied on b)) :
    (∀ m : Lane, (workShares l on (s.setLane l a)).lanes[m].rate.rate =
      (workShares l on (s.setLane l b)).lanes[m].rate.rate) ∧
    (workShares l on (s.setLane l a)).lanes[l].rate.capacity =
      (workShares l on (s.setLane l b)).lanes[l].rate.capacity := by
  have hlane : ∀ k : LaneCoder, (s.setLane l k).modRate l (fun r => { r with tallyOn := on }) =
      s.setLane l (tallied on k) := fun k => modLane_setLane s l k _
  have hw : weightSum (s.setLane l (tallied on a)).lanes = weightSum (s.setLane l (tallied on b)).lanes :=
    weightSum_set s.lanes l h
  refine ⟨fun m => ?_, ?_⟩
  · by_cases hm : m = l
    · subst hm
      simp only [workShares, hlane, hw]
      simp only [State.modRate, modLane_eq, setLane_lane, State.withLanes_lanes, mapVec_getElem, laneShare, h]
      rfl
    · simp only [workShares, hlane, hw]
      simp only [State.modRate, modLane_eq, setLane_other hm, State.withLanes_lanes, mapVec_getElem]
      rfl
  · simp only [workShares, hlane, hw]
    simp only [State.modRate, modLane_eq, setLane_lane]
    rfl

/-! ## The steps of a frame start (R22) -/

/-- R22 step 4, R52: the lane's held rate settings take effect. -/
def rated (l : Lane) (s : State) : State :=
  s.modLane l (fun c => { c with lastTick := some s.ref.tick, rate := applyHeldRates c.rate })

/-- R119: the effective limit under the settings now in force. -/
def startLimit (l : Lane) (s : State) : Nat := effectiveLimit (rated l s) l

/-- R41, R43: the shares are worked and the frame's allotment is made. -/
def allotted (l : Lane) (s : State) : State :=
  ((workShares l (tallyActive s.contacts l) (rated l s)).withAsm
    { s.asm with effLimit := s.asm.effLimit.set l (startLimit l s) }).modRate l (fun r =>
      { r with allots := r.allots ++ [makeAllotment s.ref.tick (frameKind s.lanes[l]) (sliceCount s.lanes[l].format)
        (fpsOf s.ref.rate) r] })

/-- R58: the offer of the frame to the store. -/
def offered (l : Lane) (s : State) : State × Bool :=
  offerFrame l s.ref.tick s.ref.timecode (frameKind s.lanes[l]) (sliceCount s.lanes[l].format) (allotted l s)

/-- The frame in progress that starts. -/
def newFrame (l : Lane) (s : State) : FrameInProgress :=
  ⟨s.lanes[l].format, s.ref.tick, s.ref.timecode, if (offered l s).2 then .stored else .dropped,
    some (frameKind s.lanes[l]), some (tallyActive s.contacts l), 0, none⟩

/-- R22 step 6: the coder takes the store's answer. -/
def framed (l : Lane) (s : State) : State :=
  (offered l s).1.modLane l (fun c =>
    { afterOffer (frameKind s.lanes[l]) (offered l s).2 s.ref.tick c with frame := some (newFrame l s) })

/-- R125, R138: the clip log and the cursor weigh the record of a STORED frame. -/
def weighed (l : Lane) (s : State) : State :=
  if (offered l s).2 then weighNew l s.ref.tick (newRecord l s.ref.tick (framed l s)) else framed l s

/-- R128: the lag is tested last. -/
theorem laneFrameStart_eq (l : Lane) (s : State) :
    laneFrameStart l s = liveSkip l (startLimit l s) (weighed l s) := rfl

theorem lanes_weighed (l : Lane) (s : State) : (weighed l s).lanes = (framed l s).lanes := by
  unfold weighed
  split
  · rw [lanes_weighNew, lanes_newRecord]
  · rfl

/-- R22 step 6: the store's answer moves the key request, the delta count and the allotments. -/
theorem afterOffer_eq (kind : FrameKind) (stored : Bool) (k : Word) (c : LaneCoder) : afterOffer kind stored k c =
    { c with
      keyReq := (afterOffer kind stored k c).keyReq, delta := (afterOffer kind stored k c).delta
      rate := { c.rate with allots := (afterOffer kind stored k c).rate.allots } } := by
  cases stored with
  | false => rfl
  | true => cases kind <;> rfl

theorem framed_lane (l : Lane) (s : State) : (framed l s).lanes[l] =
    { afterOffer (frameKind s.lanes[l]) (offered l s).2 s.ref.tick (offered l s).1.lanes[l] with
      frame := some (newFrame l s) } := by
  rw [framed, modLane_eq, setLane_lane]

theorem framed_other (h : m ≠ l) (s : State) : (framed l s).lanes[m] = (offered l s).1.lanes[m] := by
  rw [framed, modLane_eq, setLane_other h]

theorem requested_offered (l : Lane) (s : State) : Requested (allotted l s) (offered l s).1 :=
  requested_offerFrame l _ _ _ _ _

theorem requested_start (l : Lane) (s : State) : Requested (framed l s) (laneFrameStart l s) :=
  (Requested.of_lanes (lanes_weighed l s)).trans (requested_liveSkip l _ _)

theorem laneFrameStart_frame (l : Lane) (s : State) : (laneFrameStart l s).lanes[l].frame = some (newFrame l s) := by
  rw [requested_start l s l, framed_lane]

/-! ## The lane that starts -/

theorem rated_lane (l : Lane) (s : State) : (rated l s).lanes[l] =
    { s.lanes[l] with lastTick := some s.ref.tick, rate := applyHeldRates s.lanes[l].rate } := by
  rw [rated, modLane_eq, setLane_lane]

theorem rated_other (h : m ≠ l) (s : State) : (rated l s).lanes[m] = s.lanes[m] := by
  rw [rated, modLane_eq, setLane_other h]

theorem applyHeldRates_settings (r : RateContext) : (applyHeldRates r).settings = r.held.getD r.settings := by
  unfold applyHeldRates
  split
  · next h => rw [h]; rfl
  · next h => rw [h]; rfl

theorem applyHeldRates_held (r : RateContext) : (applyHeldRates r).held = none := by
  unfold applyHeldRates
  split
  · next h => exact h
  · rfl

theorem applyHeldRates_none {r : RateContext} (h : r.held = none) : applyHeldRates r = r := by
  unfold applyHeldRates
  rw [h]

theorem applyHeldRates_eq (r : RateContext) : applyHeldRates r = { r with
    settings := r.held.getD r.settings, held := none, fullness := (applyHeldRates r).fullness
    q := (applyHeldRates r).q } := by
  unfold applyHeldRates
  split
  · next h => rw [h]; cases r; cases h; rfl
  · next h => rw [h]; rfl

theorem allotted_lane (l : Lane) (s : State) : (allotted l s).lanes[l] = { s.lanes[l] with
    lastTick := some s.ref.tick
    rate := { applyHeldRates s.lanes[l].rate with
      tallyOn := tallyActive s.contacts l
      rate := (workShares l (tallyActive s.contacts l) (rated l s)).lanes[l].rate.rate
      capacity := (workShares l (tallyActive s.contacts l) (rated l s)).lanes[l].rate.capacity
      allots := (applyHeldRates s.lanes[l].rate).allots ++ [makeAllotment s.ref.tick (frameKind s.lanes[l])
        (sliceCount s.lanes[l].format) (fpsOf s.ref.rate)
        (workShares l (tallyActive s.contacts l) (rated l s)).lanes[l].rate] } } := by
  have hw := workShares_lane l (tallyActive s.contacts l) (rated l s)
  rw [rated_lane] at hw
  rw [allotted, State.modRate, modLane_eq, setLane_lane, State.withAsm_lanes]
  generalize (workShares l (tallyActive s.contacts l) (rated l s)).lanes[l] = k at hw ⊢
  rw [hw]

theorem allotted_other (h : m ≠ l) (s : State) : (allotted l s).lanes[m] = { s.lanes[m] with
    rate := { s.lanes[m].rate with
      rate := (workShares l (tallyActive s.contacts l) (rated l s)).lanes[m].rate.rate } } := by
  have hw := workShares_other h (tallyActive s.contacts l) (rated l s)
  rw [rated_other h] at hw
  rw [allotted, State.modRate, modLane_eq, setLane_other h, State.withAsm_lanes]
  exact hw

/-- What the offer, the coder's answer to it and the first line leave of a lane: the lane rates are worked before. -/
structure Stands (s t : State) (m : Lane) : Prop where
  state : t.lanes[m].state = s.lanes[m].state
  format : t.lanes[m].format = s.lanes[m].format
  held : t.lanes[m].held = s.lanes[m].held
  lastTick : t.lanes[m].lastTick = s.lanes[m].lastTick
  idle : t.lanes[m].idle = s.lanes[m].idle
  tallyOn : t.lanes[m].rate.tallyOn = s.lanes[m].rate.tallyOn
  settings : t.lanes[m].rate.settings = s.lanes[m].rate.settings
  heldRates : t.lanes[m].rate.held = s.lanes[m].rate.held
  rate : t.lanes[m].rate.rate = s.lanes[m].rate.rate
  capacity : t.lanes[m].rate.capacity = s.lanes[m].rate.capacity

namespace Stands

theorem of_lane (h : t.lanes[m] = s.lanes[m]) : Stands s t m := by constructor <;> rw [h]

theorem trans (h : Stands s t m) (g : Stands t u m) : Stands s u m :=
  ⟨g.state.trans h.state, g.format.trans h.format, g.held.trans h.held, g.lastTick.trans h.lastTick,
   g.idle.trans h.idle, g.tallyOn.trans h.tallyOn, g.settings.trans h.settings, g.heldRates.trans h.heldRates,
   g.rate.trans h.rate, g.capacity.trans h.capacity⟩

theorem of_requested (h : Requested s t) (m : Lane) : Stands s t m := by constructor <;> rw [h m]

theorem of_sliced (h : Sliced l s t) : Stands s t l := by constructor <;> rw [h]

end Stands

theorem stands_framed (l : Lane) (s : State) (m : Lane) : Stands (offered l s).1 (framed l s) m := by
  by_cases h : m = l
  · subst h
    have hk := framed_lane m s
    rw [afterOffer_eq] at hk
    constructor <;> rw [hk]
  · exact .of_lane (framed_other h s)

theorem stands_start (l : Lane) (s : State) (m : Lane) : Stands (allotted l s) (laneFrameStart l s) m :=
  ((Stands.of_requested (requested_offered l s) m).trans (stands_framed l s m)).trans
    (.of_requested (requested_start l s) m)

/-! ## The first line of a frame (R21, R22) -/

/-- R22: the frame starts, and its first line is placed where the frame is STORED. -/
def placed (l : Lane) (x : Line) (s : State) : State :=
  if (offered l s).2 then placeLine l (newFrame l s) x (laneFrameStart l s) else laneFrameStart l s

theorem stands_placed (l : Lane) (x : Line) (s : State) (m : Lane) : Stands (allotted l s) (placed l x s) m := by
  refine (stands_start l s m).trans ?_
  unfold placed
  split
  · by_cases h : m = l
    · subst h
      exact .of_sliced (sliced_placeLine m _ x _)
    · exact .of_lane ((laneActs_placeLine l _ x _).others m h)
  · exact .of_lane rfl

theorem frameStart_eq (hf : s.lanes[l].frame = none) (ht : s.lanes[l].lastTick ≠ some s.ref.tick) :
    frameStart l x s = placed l x (s.setLane l (applyHeldFormat s.lanes[l])) := by
  unfold frameStart
  dsimp only
  rw [endFrame_none hf, modLane_eq, if_neg (by rw [setLane_lane]; exact ht), laneFrameStart_frame]
  unfold placed newFrame
  cases (offered l (s.setLane l (applyHeldFormat s.lanes[l]))).2 <;> rfl

/-- The lane coder at the start of a frame. -/
def starting (c : LaneCoder) : LaneCoder :=
  { c with idle := 0, state := .coding, format := c.held.getD c.format, held := none }

/-- A lane that takes the first line of a frame, with none in progress. -/
theorem takeLine_begins (hl : s.lanes[l] = c) (hs : c.state = .acquire ∨ c.state = .coding) (hi : c.idle < 2)
    (hb : beginsFrame c.prev x = true) (hlen : x.pixels.length = 2 * (c.held.getD c.format).width)
    (hf : c.frame = none) (ht : c.lastTick ≠ some s.ref.tick) (hu : placed l x (s.setLane l (starting c)) = u) :
    takeLine l x s = u.setLane l { u.lanes[l] with prev := some x.number } := by
  have hstate : u.lanes[l].state = .coding := by
    rw [← hu, (stands_placed l x (s.setLane l (starting c)) l).state, allotted_lane, setLane_lane]
    rfl
  have hnot : ∀ k, k ≠ LaneState.coding → u.lanes[l].state ≠ k := fun k hk e => hk (e.symm.trans hstate)
  rw [takeLine_eq hl hi, actOnLine_first (by rw [setLane_lane]; exact hs) (by rw [setLane_lane]; exact hb),
    firstLine_fits (by rw [setLane_lane]; exact hlen), setLane_lane, setLane_setLane,
    frameStart_eq (by rw [setLane_lane]; exact hf) (by rw [setLane_lane]; exact ht), setLane_lane, setLane_setLane]
  change maybeOff l (setPrev l x (placed l x (s.setLane l (starting c)))) = _
  rw [hu, setPrev_eq (hnot _ nofun), maybeOff_stay (.inl (by rw [setLane_lane]; exact hnot _ nofun))]

end Sys2Proof.Machine
end

section
/-! SUPPORT. The first line of a frame with none in progress (R21, R22, R24, R26, R39 to R43, R52, R58, R119, R128). -/

namespace Sys2Proof.Machine

variable {s t u : State} {l m : Lane} {c k : LaneCoder} {f : FrameInProgress} {x : Line} {kind : FrameKind}

/-- A lane in ACQUIRE or CODING without a frame in progress takes the first line of a frame, of the right length and in
another tick than that of its previous frame start. -/
structure Begins (s : State) (l : Lane) (x : Line) (c : LaneCoder) : Prop where
  lane : s.lanes[l] = c
  state : c.state = .acquire ∨ c.state = .coding
  idle : c.idle < 2
  first : beginsFrame c.prev x = true
  length : x.pixels.length = 2 * (c.held.getD c.format).width
  frame : c.frame = none
  tick : c.lastTick ≠ some s.ref.tick

/-- The machine at the frame start. -/
def startState (s : State) (l : Lane) (c : LaneCoder) : State := s.setLane l (starting c)

theorem startState_lane (s : State) (l : Lane) (c : LaneCoder) : (startState s l c).lanes[l] = starting c :=
  setLane_lane s l _

theorem startState_other (h : m ≠ l) (s : State) (c : LaneCoder) : (startState s l c).lanes[m] = s.lanes[m] :=
  setLane_other h s _

theorem Begins.taken (h : Begins s l x c) (hu : placed l x (startState s l c) = u) :
    takeLine l x s = u.setLane l { u.lanes[l] with prev := some x.number } :=
  takeLine_begins h.lane h.state h.idle h.first h.length h.frame h.tick hu

/-- The lane rates and the settings, once worked, stand. -/
theorem Begins.stands (h : Begins s l x c) (m : Lane) : Stands (allotted l (startState s l c)) (takeLine l x s) m := by
  refine (stands_placed l x (startState s l c) m).trans ?_
  rw [h.taken rfl]
  by_cases hm : m = l
  · subst hm
    constructor <;> rw [setLane_lane]
  · exact .of_lane (setLane_other hm _ _)

/-! ## The lane and the shares (R22, R39 to R41, R52) -/

theorem Begins.lane_taken (h : Begins s l x c) (ht : takeLine l x s = t) :
    t.lanes[l].state = .coding ∧ t.lanes[l].format = c.held.getD c.format ∧ t.lanes[l].held = none ∧
    t.lanes[l].prev = some x.number ∧ t.lanes[l].lastTick = some s.ref.tick ∧ t.lanes[l].idle = 0 ∧
    t.lanes[l].rate.tallyOn = tallyActive s.contacts l ∧
    t.lanes[l].rate.settings = c.rate.held.getD c.rate.settings ∧ t.lanes[l].rate.held = none := by
  have hstand := h.stands l
  have hprev := congrArg (fun v => v.lanes[l].prev) (h.taken rfl)
  simp only [setLane_lane] at hprev
  rw [ht] at hstand hprev
  have hk := allotted_lane l (startState s l c)
  rw [startState_lane] at hk
  rw [hstand.state, hstand.format, hstand.held, hstand.lastTick, hstand.idle, hstand.tallyOn, hstand.settings,
    hstand.heldRates, hk]
  exact ⟨rfl, rfl, rfl, hprev, rfl, rfl, rfl, applyHeldRates_settings _, applyHeldRates_held _⟩

theorem rated_startState (s : State) (l : Lane) (c : LaneCoder) : rated l (startState s l c) = s.setLane l
    { starting c with lastTick := some s.ref.tick, rate := applyHeldRates c.rate } := modLane_setLane s l _ _

/-- R41: the weight of the lane that starts, with its held settings in effect or not. -/
theorem laneWeight_starting (on : Bool) (v : Option Word) (c : LaneCoder) :
    laneWeight (tallied on { starting c with lastTick := v, rate := applyHeldRates c.rate }) =
      laneWeight (tallied on { c with state := .coding }) := by
  rw [applyHeldRates_eq]
  rfl

theorem Begins.shares (h : Begins s l x c) (ht : takeLine l x s = t) (m : Lane)
    (hu : workShares l (tallyActive s.contacts l) (s.setLane l { c with state := .coding }) = u) :
    t.lanes[m].rate.rate = u.lanes[m].rate.rate ∧ t.lanes[m].rate.capacity = u.lanes[m].rate.capacity := by
  have hstand := h.stands m
  rw [ht] at hstand
  obtain ⟨hrate, hcap⟩ := workShares_congr (l := l) s
    (laneWeight_starting (tallyActive s.contacts l) (some s.ref.tick) c)
  rw [← rated_startState, hu] at hrate hcap
  rw [hstand.rate, hstand.capacity]
  by_cases hm : m = l
  · subst hm
    rw [allotted_lane]
    exact ⟨hrate m, hcap⟩
  · have hother := workShares_other hm (tallyActive s.contacts l) (s.setLane l { c with state := .coding })
    rw [hu, setLane_other hm] at hother
    rw [allotted_other hm, startState_other hm]
    exact ⟨hrate m, (congrArg (fun k => k.rate.capacity) hother).symm⟩

/-! ## The kind of the frame (R24) -/

theorem frameKind_starting (h : kind = .key ↔ c.keyReq = true ∨ (c.held.getD c.format).keyInterval ≤ c.delta + 1) :
    frameKind (starting c) = kind := by
  have hkey : (c.keyReq || decide ((c.held.getD c.format).keyInterval - 1 ≤ c.delta)) = true ↔ kind = .key := by
    rw [h, Bool.or_eq_true, decide_eq_true_eq, Nat.sub_le_iff_le_add]
  unfold frameKind
  change (if (c.keyReq || decide ((c.held.getD c.format).keyInterval - 1 ≤ c.delta)) = true then _ else _) = _
  split
  · next hk => exact (hkey.1 hk).symm
  · next hk =>
    cases kind with
    | key => exact absurd (hkey.2 rfl) hk
    | delta => rfl

/-! ## The effective limit (R119) -/

theorem effectiveLimit_congr (hp : t.paths = s.paths) (hr : t.lanes[l].rate.settings = s.lanes[l].rate.settings) :
    effectiveLimit t l = effectiveLimit s l := by
  unfold effectiveLimit
  rw [hp, hr]

theorem startLimit_startState (s : State) (l : Lane) (c : LaneCoder) : startLimit l (startState s l c) =
    effectiveLimit (s.setLane l { c with rate := { c.rate with settings := c.rate.held.getD c.rate.settings } }) l := by
  refine effectiveLimit_congr rfl ?_
  rw [rated_lane, startState_lane, setLane_lane]
  exact applyHeldRates_settings c.rate

/-! ## The answer to the offer (R22, R58) -/

theorem newFrame_startState (s : State) (l : Lane) (c : LaneCoder) : newFrame l (startState s l c) =
    ⟨c.held.getD c.format, s.ref.tick, s.ref.timecode,
      if (offered l (startState s l c)).2 then .stored else .dropped, some (frameKind (starting c)),
      some (tallyActive s.contacts l), 0, none⟩ := by
  unfold newFrame
  rw [startState_lane]
  rfl

theorem offered_startState (s : State) (l : Lane) (c : LaneCoder) : offered l (startState s l c) =
    offerFrame l s.ref.tick s.ref.timecode (frameKind (starting c)) (sliceCount (c.held.getD c.format))
      (allotted l (startState s l c)) := by
  unfold offered
  rw [startState_lane]
  rfl

theorem afterOffer_keyReq (kind : FrameKind) (stored : Bool) (v : Word) (k : LaneCoder) :
    (afterOffer kind stored v k).keyReq = true ↔ stored = false ∨ (kind = .delta ∧ k.keyReq = true) := by
  cases stored with
  | false => simp [afterOffer]
  | true => cases kind <;> simp [afterOffer]

theorem framed_keyReq (l : Lane) (s : State) : (framed l s).lanes[l].keyReq = true ↔
    (offered l s).2 = false ∨ (frameKind s.lanes[l] = .delta ∧ (offered l s).1.lanes[l].keyReq = true) := by
  rw [framed_lane]
  exact afterOffer_keyReq _ _ _ _

theorem framed_state (s : State) (l : Lane) (c : LaneCoder) : (framed l (startState s l c)).lanes[l].state = .coding := by
  rw [(stands_framed l (startState s l c) l).state, requested_offered l (startState s l c) l, allotted_lane,
    startState_lane]
  rfl

theorem workShares_withLanes (l : Lane) (on : Bool) (s : State) : ∃ v, workShares l on s = s.withLanes v := ⟨_, rfl⟩

theorem modRate_withLanes (l : Lane) (s : State) (g : RateContext → RateContext) : ∃ v, s.modRate l g = s.withLanes v :=
  ⟨_, rfl⟩

/-- The state in which the frame is offered: the lanes and the effective limit have moved. -/
theorem allotted_offers (s : State) (l : Lane) (c : LaneCoder) : ∃ v, allotted l (startState s l c) =
    (s.withLanes v).withAsm
      { s.asm with effLimit := s.asm.effLimit.set l (startLimit l (startState s l c)) } := by
  unfold allotted
  generalize startLimit l (startState s l c) = n
  obtain ⟨v, hw⟩ := workShares_withLanes l (tallyActive s.contacts l) (rated l (startState s l c))
  rw [show (startState s l c).contacts = s.contacts from rfl, hw]
  obtain ⟨w, hm⟩ := modRate_withLanes l (((rated l (startState s l c)).withLanes v).withAsm
    { s.asm with effLimit := s.asm.effLimit.set l n }) (fun r =>
      { r with allots := r.allots ++ [makeAllotment s.ref.tick (frameKind (startState s l c).lanes[l])
        (sliceCount (startState s l c).lanes[l].format) (fpsOf s.ref.rate) r] })
  exact ⟨w, hm⟩

theorem allotted_startState (s : State) (l : Lane) (c : LaneCoder) : allotted l (startState s l c) =
    { s with
      lanes := (allotted l (startState s l c)).lanes
      asm := { s.asm with effLimit := s.asm.effLimit.set l (startLimit l (startState s l c)) } } := by
  obtain ⟨v, e⟩ := allotted_offers s l c
  rw [e]
  rfl

theorem allotted_store (s : State) (l : Lane) (c : LaneCoder) : (allotted l (startState s l c)).store = s.store := by
  obtain ⟨v, e⟩ := allotted_offers s l c
  rw [e]
  rfl

theorem allotted_clips (s : State) (l : Lane) (c : LaneCoder) : (allotted l (startState s l c)).clips = s.clips := by
  obtain ⟨v, e⟩ := allotted_offers s l c
  rw [e]
  rfl

theorem allotted_cursors (s : State) (l : Lane) (c : LaneCoder) :
    (allotted l (startState s l c)).asm.cursors = s.asm.cursors := by
  obtain ⟨v, e⟩ := allotted_offers s l c
  rw [e]
  rfl

theorem allotted_awaiting (s : State) (l : Lane) (c : LaneCoder) :
    (allotted l (startState s l c)).asm.awaiting = s.asm.awaiting := by
  obtain ⟨v, e⟩ := allotted_offers s l c
  rw [e]
  rfl

/-- R43, R52: the rates in force at the frame start, and the frame's allotment. -/
theorem allotted_rates (s : State) (l : Lane) (c : LaneCoder) : ∃ rc : RateContext,
    rc.settings = c.rate.held.getD c.rate.settings ∧ rc.fullness = (applyHeldRates c.rate).fullness ∧
    (allotted l (startState s l c)).lanes[l] = { starting c with
      lastTick := some s.ref.tick
      rate := { rc with
        allots := c.rate.allots ++ [makeAllotment s.ref.tick (frameKind (starting c))
          (sliceCount (c.held.getD c.format)) (fpsOf s.ref.rate) rc] } } := by
  have hk := allotted_lane l (startState s l c)
  have hw := workShares_lane l (tallyActive (startState s l c).contacts l) (rated l (startState s l c))
  rw [rated_lane] at hw
  rw [startState_lane] at hk hw
  refine ⟨(workShares l (tallyActive (startState s l c).contacts l) (rated l (startState s l c))).lanes[l].rate,
    ?_, ?_, ?_⟩
  · rw [hw]
    exact applyHeldRates_settings c.rate
  · rw [hw]
    rfl
  · rw [hk]
    generalize (workShares l (tallyActive (startState s l c).contacts l) (rated l (startState s l c))).lanes[l] = w at hw ⊢
    rw [hw, applyHeldRates_eq]
    rfl

theorem allotted_startState_lane (s : State) (l : Lane) (c : LaneCoder) :
    (allotted l (startState s l c)).lanes[l].state = .coding ∧
    (allotted l (startState s l c)).lanes[l].keyReq = c.keyReq := by
  rw [allotted_lane, startState_lane]
  exact ⟨rfl, rfl⟩

theorem allotted_startState_other (h : m ≠ l) (s : State) (c : LaneCoder) :
    (allotted l (startState s l c)).lanes[m] =
      { s.lanes[m] with rate := (allotted l (startState s l c)).lanes[m].rate } := by
  rw [allotted_other h, startState_other h]

/-! ## The first line of a STORED frame (R26, R29) -/

theorem lastLineOf_zero {fmt : Format} (h : 16 ≤ fmt.lines) : lastLineOf fmt 0 = 15 := by
  unfold lastLineOf
  omega

theorem laneFrameStart_state (s : State) (l : Lane) (c : LaneCoder) :
    (laneFrameStart l (startState s l c)).lanes[l].state = .coding :=
  (stands_start l (startState s l c) l).state.trans (allotted_startState_lane s l c).1

theorem Begins.taken_placed (h : Begins s l x c) (ho : (offered l (startState s l c)).2 = true) :
    takeLine l x s = maybeOff l (setPrev l x (placeLine l (newFrame l (startState s l c)) x
      (laneFrameStart l (startState s l c)))) := by
  have hu : placed l x (startState s l c) =
      placeLine l (newFrame l (startState s l c)) x (laneFrameStart l (startState s l c)) := if_pos ho
  have hstate := (stands_placed l x (startState s l c) l).state.trans (allotted_startState_lane s l c).1
  rw [h.taken hu]
  rw [hu] at hstate
  have hnot : ∀ k, k ≠ LaneState.coding → _ ≠ k := fun k hk e => hk (e.symm.trans hstate)
  rw [setPrev_eq (hnot _ nofun), maybeOff_stay (.inl (by rw [setLane_lane]; exact hnot _ nofun))]

/-- The first line of a STORED frame, if it is not the last of slice 0, takes a FREE buffer or none. -/
theorem Begins.placed_first (h : Begins s l x c) (ho : (offered l (startState s l c)).2 = true) (hx : x.number < 15)
    (hlines : 16 ≤ (c.held.getD c.format).lines) : ∃ k, k.frame.map FrameInProgress.disposition = some .stored ∧
      k.keyReq = (laneFrameStart l (startState s l c)).lanes[l].keyReq ∧
      (takeLine l x s = (laneFrameStart l (startState s l c)).setLane l k ∨
        takeLine l x s = ((laneFrameStart l (startState s l c)).setLane l k).count ctrSliceOverruns .laneOverrun
          l.val) := by
  have hf := newFrame_startState s l c
  rw [if_pos ho] at hf
  have hplaced := place_begins (s := laneFrameStart l (startState s l c)) (l := l) (x := x)
    (.inl (laneFrameStart_state s l c)) (laneFrameStart_frame l _) (by rw [hf]; dsimp only; omega)
    (by rw [hf]; dsimp only; omega) (by rw [hf])
  rw [setLane_self, ← h.taken_placed ho, hf] at hplaced
  rcases hplaced with ⟨b, -, e⟩ | ⟨-, e⟩
  · exact ⟨_, by rfl, by rfl, .inl e⟩
  · refine ⟨_, by rfl, by rfl, .inr (e ?_)⟩
    dsimp only
    rw [lastLineOf_zero hlines]
    omega

end Sys2Proof.Machine
end

section
/-! SUPPORT. The frame that starts, STORED or DROPPED (R22, R43, R58, R125, R128, R138). -/

namespace Sys2Proof.Machine

variable {s t u : State} {l m : Lane} {c k : LaneCoder} {x : Line} {kind : FrameKind} {r : FrameRecord}

/-! ## The machine behind a frame start -/

/-- R58: behind a DROPPED frame's first line the machine is that of the frame start, but for the lane's previous line. -/
theorem Begins.taken_dropped (h : Begins s l x c) (ho : (offered l (startState s l c)).2 = false) :
    takeLine l x s = (laneFrameStart l (startState s l c)).setLane l
      { (laneFrameStart l (startState s l c)).lanes[l] with prev := some x.number } := by
  refine h.taken ?_
  unfold placed
  rw [ho]
  exact if_neg nofun

/-- R22, R58, R119: what the first line leaves of the machine of the frame start. -/
theorem Begins.behind_start (h : Begins s l x c) (ht : takeLine l x s = t)
    (hv : laneFrameStart l (startState s l c) = u) (hlines : 16 ≤ (c.held.getD c.format).lines)
    (hx : (offered l (startState s l c)).2 = false ∨ x.number < 15) :
    t.lanes[l].frame.map FrameInProgress.disposition =
      some (if (offered l (startState s l c)).2 = true then .stored else .dropped) ∧
    t.store = u.store ∧ t.asm = u.asm ∧ t.clips = u.clips ∧ t.paths = u.paths ∧ t.engines = u.engines ∧
    t.labels = u.labels ∧ t.mixer = u.mixer ∧ t.contacts = u.contacts ∧
    ∀ m : Lane, t.lanes[m].keyReq = u.lanes[m].keyReq := by
  have hkey : ∀ k : LaneCoder, k.keyReq = u.lanes[l].keyReq → ∀ m : Lane,
      (u.setLane l k).lanes[m].keyReq = u.lanes[m].keyReq := fun k hk m => by
    by_cases hm : m = l
    · subst hm
      rw [setLane_lane]
      exact hk
    · rw [setLane_other hm]
  cases ho : (offered l (startState s l c)).2 with
  | false =>
    have hframe := laneFrameStart_frame l (startState s l c)
    rw [newFrame_startState, ho, hv] at hframe
    have hdrop := h.taken_dropped ho
    rw [hv, ht] at hdrop
    subst hdrop
    refine ⟨?_, rfl, rfl, rfl, rfl, rfl, rfl, rfl, rfl, hkey _ rfl⟩
    rw [setLane_lane, hframe]
    rfl
  | true =>
    obtain ⟨k, hframe, hreq, hcase⟩ := h.placed_first ho (hx.resolve_left (by rw [ho]; nofun)) hlines
    rw [hv] at hreq hcase
    rw [ht] at hcase
    rw [if_pos rfl]
    rcases hcase with rfl | rfl
    · exact ⟨by rw [setLane_lane]; exact hframe, rfl, rfl, rfl, rfl, rfl, rfl, rfl, rfl, hkey k hreq⟩
    · exact ⟨by rw [State.count_lanes, setLane_lane]; exact hframe, rfl, rfl, rfl, rfl, rfl, rfl, rfl, rfl, hkey k hreq⟩

theorem Begins.offer (h : Begins s l x c) (ht : takeLine l x s = t) (hk : frameKind (starting c) = kind)
    {limit : Nat} (hlimit : limit = effectiveLimit
      (s.setLane l { c with rate := { c.rate with settings := c.rate.held.getD c.rate.settings } }) l)
    (hlines : 16 ≤ (c.held.getD c.format).lines) : ∃ (s3 s4 t5 : State) (o : State × Bool),
    s3 = { s with lanes := s3.lanes, asm := { s.asm with effLimit := s.asm.effLimit.set l limit } } ∧
    s3.lanes[l].state = .coding ∧ s3.lanes[l].keyReq = c.keyReq ∧
    (∀ m : Lane, m ≠ l → s3.lanes[m] = { s.lanes[m] with rate := s3.lanes[m].rate }) ∧
    o = offerFrame l s.ref.tick s.ref.timecode kind (sliceCount (c.held.getD c.format)) s3 ∧
    s4 = { o.1 with lanes := s4.lanes } ∧
    (∀ m : Lane, m ≠ l → s4.lanes[m] = o.1.lanes[m]) ∧ s4.lanes[l].state = .coding ∧
    (s4.lanes[l].keyReq = true ↔ o.2 = false ∨ (kind = .delta ∧ o.1.lanes[l].keyReq = true)) ∧
    t5 = liveSkip l limit (if o.2 = true then weighNew l s.ref.tick (newRecord l s.ref.tick s4) else s4) ∧
    (o.2 = false ∨ x.number < 15 →
      t.lanes[l].frame.map FrameInProgress.disposition = some (if o.2 = true then .stored else .dropped) ∧
      t.store = t5.store ∧ t.asm = t5.asm ∧ t.clips = t5.clips ∧ t.paths = t5.paths ∧
      t.engines = t5.engines ∧ t.labels = t5.labels ∧ t.mixer = t5.mixer ∧ t.contacts = t5.contacts ∧
      ∀ m : Lane, t.lanes[m].keyReq = t5.lanes[m].keyReq) ∧
    (o.2 = false → t = { t5 with lanes := t.lanes }) := by
  have hs3 := allotted_startState s l c
  obtain ⟨hstate, hkeyReq⟩ := allotted_startState_lane s l c
  have hreq := framed_keyReq l (startState s l c)
  rw [startState_lane, hk] at hreq
  have ho := offered_startState s l c
  rw [hk] at ho
  have hstart := laneFrameStart_eq l (startState s l c)
  rw [startLimit_startState, ← hlimit] at hs3 hstart
  refine ⟨allotted l (startState s l c), framed l (startState s l c), laneFrameStart l (startState s l c),
    offered l (startState s l c), hs3, hstate, hkeyReq, fun m hm => allotted_startState_other hm s c, ho, ?_,
    fun m hm => framed_other hm _, framed_state s l c, hreq, hstart, h.behind_start ht rfl hlines, fun hdrop => ?_⟩
  · rfl
  · rw [← ht, h.taken_dropped hdrop]
    rfl

end Sys2Proof.Machine
end

section
/-! SUPPORT. A frame that the store drops, and a frame that it stores with room to spare (R26, R43, R58, R125, R138). -/

namespace Sys2Proof.Machine

variable {s t u : State} {l m : Lane} {c k : LaneCoder} {x : Line} {kind : FrameKind} {r : FrameRecord}
  {st : CodedStore} {now : Word} {tc : Timecode} {n : Nat}

/-! ## The lag (R128) -/

theorem liveSkip_within {limit : Nat} (h : liveLag s l ≤ limit) : liveSkip l limit s = s := if_pos h

theorem liveLag_none (h : s.asm.cursors[l] = none) : liveLag s l = 0 := by
  unfold liveLag
  rw [h]

/-- A cursor at the lane's newest record does not lag. -/
theorem liveLag_newest {p : Cursor} (h : s.asm.cursors[l] = some p) (hr : newestRecord s.store l = some r)
    (hp : p.tick = r.tick) : liveLag s l = 0 := by
  unfold liveLag
  rw [h, hr]
  simp [hp]

/-! ## A DROPPED frame (R58 step 1) -/

theorem offered_late (h : tickTest s.store l s.ref.tick = false) : offered l (startState s l c) =
    ((allotted l (startState s l c)).count ctrFramesDropped .frameDropped l.val, false) := by
  rw [offered_startState, offerFrame, allotted_store, h]
  rfl

theorem laneFrameStart_late (h : tickTest s.store l s.ref.tick = false) (hc : s.asm.cursors[l] = none) :
    laneFrameStart l (startState s l c) = framed l (startState s l c) := by
  have hframed : weighed l (startState s l c) = framed l (startState s l c) := by
    unfold weighed
    rw [offered_late h]
    exact if_neg nofun
  have hcur : (framed l (startState s l c)).asm.cursors = s.asm.cursors := by
    rw [framed, offered_late h, ← allotted_cursors s l c]
    rfl
  rw [laneFrameStart_eq, hframed, liveSkip_within]
  rw [liveLag_none (by rw [hcur]; exact hc)]
  exact Nat.zero_le _

theorem modLane_store (s : State) (l : Lane) (g : LaneCoder → LaneCoder) : (s.modLane l g).store = s.store := rfl

theorem modLane_handler (s : State) (l : Lane) (g : LaneCoder → LaneCoder) : (s.modLane l g).handler = s.handler := rfl

theorem startState_ref (s : State) (l : Lane) (c : LaneCoder) : (startState s l c).ref = s.ref := rfl

/-- R43: the allotment of a frame that the store drops goes; those of other frames stay. -/
theorem dropAllotment_last (as : List Allotment) {a : Allotment} (rc : RateContext) (h : a.tick = now) :
    dropAllotment now { rc with allots := as ++ [a] } =
      { rc with allots := as.filter (fun a => decide (a.tick ≠ now)) } := by
  rw [dropAllotment, List.filter_append, List.filter_singleton, h]
  simp

theorem makeAllotment_tick (fps : Nat) (rc : RateContext) : (makeAllotment now kind n fps rc).tick = now := rfl

theorem afterOffer_dropped (kind : FrameKind) (now : Word) (k : LaneCoder) :
    afterOffer kind false now k = { k with keyReq := true, rate := dropAllotment now k.rate } := rfl

theorem Begins.dropped (h : Begins s l x c) (ht : takeLine l x s = t) (hk : frameKind (starting c) = kind)
    (htest : tickTest s.store l s.ref.tick = false) (hc : s.asm.cursors[l] = none) :
    t.lanes[l].frame = some ⟨c.held.getD c.format, s.ref.tick, s.ref.timecode, .dropped, some kind,
      some (tallyActive s.contacts l), 0, none⟩ ∧
    t.lanes[l].keyReq = true ∧ t.lanes[l].delta = c.delta ∧ t.store = s.store ∧
    t.lanes[l].rate.allots = c.rate.allots.filter (fun a => decide (a.tick ≠ s.ref.tick)) ∧
    (c.rate.held = none → t.lanes[l].rate.fullness = c.rate.fullness) ∧ (.frameDropped, l.val) ∈ t.handler.flags := by
  have ho : (offered l (startState s l c)).2 = false := by rw [offered_late htest]
  have htake := h.taken_dropped ho
  rw [laneFrameStart_late htest hc, ht] at htake
  have hf := newFrame_startState s l c
  rw [ho, hk] at hf
  obtain ⟨rc, -, hfull, hrc⟩ := allotted_rates s l c
  have hlane := framed_lane l (startState s l c)
  rw [hf, ho, offered_late htest, State.count_lanes, hrc, afterOffer_dropped, startState_ref,
    dropAllotment_last _ _ (makeAllotment_tick _ _)] at hlane
  subst htake
  have hframed : ∃ g, framed l (startState s l c) =
      ((allotted l (startState s l c)).count ctrFramesDropped .frameDropped l.val).modLane l g := by
    rw [framed, offered_late htest]
    exact ⟨_, rfl⟩
  obtain ⟨g, hframed⟩ := hframed
  refine ⟨?_, ?_, ?_, ?_, ?_, fun hr => ?_, ?_⟩
  · rw [setLane_lane, hlane]
    rfl
  · rw [setLane_lane, hlane]
  · rw [setLane_lane, hlane]
    rfl
  · rw [setLane_store, hframed, modLane_store, State.count_store, allotted_store]
  · rw [setLane_lane, hlane]
  · rw [setLane_lane, hlane]
    exact hfull.trans (congrArg RateContext.fullness (applyHeldRates_none hr))
  · rw [setLane_handler, hframed, modLane_handler]
    exact mem_flags_count _ _ _ _

/-! ## A STORED frame's record (R58 step 5) -/

/-- R1, R55: no record of the lane has the tick that passes the store's test. -/
theorem tick_fresh (hs : storeSound st) (ht : tickTest st l now = true) : ∀ y ∈ st.records[l], y.tick ≠ now := by
  intro y hy e
  obtain ⟨init, last, hl⟩ : ∃ init last, st.records[l] = init ++ [last] :=
    ⟨_, _, (List.dropLast_append_getLast (List.ne_nil_of_mem hy)).symm⟩
  have hlast : earlier last.tick now = true := by simpa [tickTest, newestRecord, hl, later] using ht
  rw [hl, List.mem_append, List.mem_singleton] at hy
  rcases hy with hy | rfl
  · have hrise := (storeSound_iff.1 hs).1.rising l
    rw [hl, List.map_append, List.pairwise_append] at hrise
    have hold := hrise.2.2 y.tick (List.mem_map_of_mem hy) last.tick (by simp)
    rw [e] at hold
    simp only [earlier, Bool.and_eq_true, decide_eq_true_eq] at hold hlast
    bv_omega
  · rw [e, not_earlier_self] at hlast
    cases hlast

/-- The record of the frame that starts, with the block at the head of the free list. -/
def freshRecord (now : Word) (tc : Timecode) (kind : FrameKind) (n b : Nat) : FrameRecord :=
  ⟨now, tc, kind, false, n, [b], 0, [], 0, .pending, false, false⟩

theorem createRecord_fresh {b : Nat} {rest : List Nat} (hb : st.free = b :: rest) :
    createRecord l now tc kind n st = { st with
      free := rest, records := st.records.set l (st.records[l] ++ [freshRecord now tc kind n b]) } := by
  rw [createRecord, hb]
  rfl

theorem recordsInUse_of_reserve (h : reserveMet st = true) : recordsInUse st + 8 ≤ 4096 := by
  simp only [reserveMet, Bool.and_eq_true, decide_eq_true_eq] at h
  exact h.2

/-- R58: the store takes a frame that it has the room for. -/
theorem offerFrame_stored (ht : tickTest s.store l now = true) (hr : reserveMet s.store = true) (hf : s.store.free ≠ []) :
    offerFrame l now tc kind n s = (s.withStore (createRecord l now tc kind n s.store), true) := by
  have huse := recordsInUse_of_reserve hr
  have hroom : makeReserve s = s := if_pos hr
  unfold offerFrame
  dsimp only
  rw [ht, hroom, if_neg nofun, if_neg]
  rw [Bool.or_eq_true, decide_eq_true_eq, List.isEmpty_iff, not_or]
  exact ⟨by omega, hf⟩

/-! ## The clip log and the cursor (R125, R138) -/

theorem newRecord_noClips (h : s.clips.clips = []) : newRecord l now s = s := by
  unfold newRecord
  split
  · rfl
  · rw [h]
    rfl

theorem findRecord_newest {old : List FrameRecord} (h : st.records[l] = old ++ [r]) (ho : ∀ y ∈ old, y.tick ≠ r.tick) :
    findRecord st l r.tick = some r := by
  have hnone : old.find? (fun y => decide (y.tick = r.tick)) = none := by simpa using ho
  rw [findRecord, h, List.find?_append, hnone]
  simp

theorem newestRecord_newest {old : List FrameRecord} (h : st.records[l] = old ++ [r]) : newestRecord st l = some r := by
  rw [newestRecord, h, List.getLast?_concat]

theorem setLive_newest {old : List FrameRecord} {v : LiveState} (h : st.records[l] = old ++ [r])
    (ho : ∀ y ∈ old, y.tick ≠ r.tick) :
    setLive st l r.tick v = { st with records := st.records.set l (old ++ [{ r with live := v }]) } := by
  have hkeep : old.map (fun y => if y.tick = r.tick then { y with live := v } else y) = old :=
    (List.map_congr_left fun y hy => if_neg (ho y hy)).trans (List.map_id' old)
  rw [setLive, updRecord, h, List.map_append, hkeep]
  simp

/-- What a cursor that names no record makes of the lane's new record (R125). -/
structure WeighedNew (l : Lane) (old : List FrameRecord) (r : FrameRecord) (s t : State) : Prop where
  lanes : t.lanes = s.lanes
  free : t.store.free = s.store.free
  pinned : t.store.pinned = s.store.pinned
  dram : t.store.dram = s.store.dram
  others : ∀ m, m ≠ l → t.store.records[m] = s.store.records[m]
  lag : liveLag t l = 0
  record : ∃ v, t.store.records[l] = old ++ [{ r with live := v }] ∧
    (s.asm.awaiting[l] = true → r.kind = .delta → v = .abandoned ∧ t.asm.cursors[l] = none) ∧
    (s.asm.awaiting[l] = false ∨ r.kind = .key → v = .pending ∧ t.asm.cursors[l] = some ⟨r.tick, 0, 0⟩ ∧
      t.asm.awaiting[l] = false)

/-- R125: a lane that awaits a key passes over a DELTA frame's record. -/
theorem seek_passes (hlive : r.live = .pending) (ha : s.asm.awaiting[l] = true) (hk : r.kind = .delta) :
    seek l [r] s = (s.withStore (setLive s.store l r.tick .abandoned)).setCursor l none := by
  unfold seek
  rw [if_neg (by rw [hlive]; nofun), if_pos (by rw [ha, hk]; rfl), if_pos hlive]
  rfl

/-- R125: the cursor takes any other record; that of a KEY frame ends the wait for a key. -/
theorem seek_takes (hlive : r.live = .pending) (h : s.asm.awaiting[l] = false ∨ r.kind = .key) :
    seek l [r] s = if r.kind = .key then (s.setCursor l (some ⟨r.tick, 0, 0⟩)).setAwaiting l false
      else s.setCursor l (some ⟨r.tick, 0, 0⟩) := by
  unfold seek
  rw [if_neg (by rw [hlive]; nofun), if_neg]
  rintro hboth
  rw [Bool.and_eq_true, decide_eq_true_eq] at hboth
  rcases h with h | h
  · exact absurd hboth.1 (by rw [h]; nofun)
  · exact absurd hboth.2 (by rw [h]; nofun)

theorem setCursor_lane (s : State) (l : Lane) (p : Option Cursor) : (s.setCursor l p).asm.cursors[l] = p := by
  simp [State.setCursor]

theorem setAwaiting_lane (s : State) (l : Lane) (b : Bool) : (s.setAwaiting l b).asm.awaiting[l] = b := by
  simp [State.setAwaiting]

theorem weighNew_newest {old : List FrameRecord} (hc : s.asm.cursors[l] = none) (hr : s.store.records[l] = old ++ [r])
    (ho : ∀ y ∈ old, y.tick ≠ r.tick) (hlive : r.live = .pending) :
    WeighedNew l old r s (weighNew l r.tick s) := by
  have hseek : weighNew l r.tick s = seek l [r] s := by
    unfold weighNew
    rw [hc, findRecord_newest hr ho]
  rw [hseek]
  have hsame : { r with live := .pending } = r := by rw [← hlive]
  by_cases h : s.asm.awaiting[l] = true ∧ r.kind = .delta
  · obtain ⟨ha, hk⟩ := h
    rw [seek_passes hlive ha hk, setLive_newest hr ho]
    refine ⟨rfl, rfl, rfl, rfl, fun m hm => (lane_set _ _ _ _).trans (if_neg hm.symm),
      liveLag_none (setCursor_lane _ l _), .abandoned, (lane_set _ _ _ _).trans (if_pos rfl), fun _ _ => ⟨rfl, setCursor_lane _ l _⟩, ?_⟩
    rintro (h | h)
    · rw [h] at ha
      cases ha
    · rw [h] at hk
      cases hk
  · have hor : s.asm.awaiting[l] = false ∨ r.kind = .key := by
      cases hk : r.kind with
      | key => exact .inr rfl
      | delta => exact .inl (Bool.eq_false_iff.2 fun ha => h ⟨ha, hk⟩)
    have hnot : s.asm.awaiting[l] = true → r.kind = .delta →
        LiveState.pending = .abandoned ∧ (seek l [r] s).asm.cursors[l] = none := fun ha hk => absurd ⟨ha, hk⟩ h
    rw [seek_takes hlive hor] at hnot ⊢
    cases hk : r.kind with
    | key =>
      rw [hk, if_pos rfl] at hnot
      rw [if_pos rfl]
      exact ⟨rfl, rfl, rfl, rfl, fun _ _ => rfl,
        liveLag_newest (setCursor_lane s l _) (newestRecord_newest hr) rfl, .pending, hsame.symm ▸ hr, hk ▸ hnot, fun _ => ⟨rfl, setCursor_lane s l _, setAwaiting_lane _ l false⟩⟩
    | delta =>
      rw [hk, if_neg nofun] at hnot
      rw [if_neg nofun]
      exact ⟨rfl, rfl, rfl, rfl, fun _ _ => rfl,
        liveLag_newest (setCursor_lane s l _) (newestRecord_newest hr) rfl, .pending, hsame.symm ▸ hr, hk ▸ hnot, fun h => ⟨rfl, setCursor_lane s l _, h.resolve_right (by rw [hk]; nofun)⟩⟩

end Sys2Proof.Machine
end

section
/-! SUPPORT. A frame that the store takes with room to spare, its first line in a FREE buffer (R22, R26, R43, R58). -/

namespace Sys2Proof.Machine

variable {s t u : State} {l m : Lane} {c k : LaneCoder} {f : FrameInProgress} {x : Line} {kind : FrameKind}
  {now : Word} {n : Nat}

/-! ## The allotment (R43) -/

theorem frameBudget_eq {v fps : Nat} (h : n * 64 ≤ 1048576) :
    frameBudget v fps n = max (n * 64) (min 1048576 (v * 125 / fps)) := by
  unfold frameBudget clampNat
  split_ifs <;> omega

theorem makeAllotment_eq {fps bf : Nat} {rc : RateContext} (h : bf = frameBudget rc.rate fps n) :
    makeAllotment now kind n fps rc = ⟨now, kind, n, bf, if kind = .key then bf * rc.settings.kw else bf,
      rc.settings.kw, rc.settings.capF, rc.settings.qmin, rc.settings.qmax⟩ := by
  subst h
  cases kind <;> rfl

theorem sliceCount_le {fmt : Format} (h : fmt.lines ≤ 1088) : sliceCount fmt * 64 ≤ 1048576 := by
  unfold sliceCount ceilDiv
  omega

/-! ## The buffer of the first line (R26) -/

theorem ensureBegun_free (hl : s.lanes[l] = k) (hf : k.frame = some f) (hb : f.begun = none)
    (h0 : k.buffers[(0 : Fin 2)].state = .free) : ensureBegun l s = s.setLane l (claimed f 0 k) := by
  have hfind : (List.finRange 2).find? (fun b => decide (s.lanes[l].buffers[b].state = .free)) = some 0 := by
    rw [hl]
    exact List.find?_cons_of_pos (decide_eq_true h0)
  unfold ensureBegun beginSlice
  rw [hl, hf]
  dsimp only
  rw [hb, if_neg nofun, ← hl, hfind]
  dsimp only
  rw [modLane_eq, hl]
  rfl

/-- R26: the first line of a slice goes into the first FREE buffer. -/
theorem place_claims (hs : k.state = .coding ∨ k.state = .draining) (hf : k.frame = some f)
    (h : x.number < f.format.lines) (hn : x.number / 16 = f.next) (hb : f.begun = none)
    (h0 : k.buffers[(0 : Fin 2)].state = .free) :
    maybeOff l (setPrev l x (placeLine l f x (s.setLane l k))) = s.setLane l { k with
      prev := some x.number, fill := some x.pixels, placing := some ⟨f.tick, x.number⟩
      frame := some { f with begun := some ⟨f.next, some 0⟩ }
      buffers := k.buffers.set 0 ⟨.filling, f.tick, f.next, [(x.number, x.pixels)], some (k.fill.getD x.pixels)⟩ } := by
  have hfill : (withFill x k).frame = some f := hf
  rw [placeLine_next (setLane_lane _ _ _) hf h hn, setLane_setLane,
    ensureBegun_free (setLane_lane s l (withFill x k)) hfill hb h0, setLane_setLane, putReady_claimed,
    maybeOff_setPrev_frame]
  · rfl
  · exact hs
  · rfl

/-! ## The frame STORED (R22, R58, R125) -/

theorem afterOffer_stored (h : kind = .delta → k.keyReq = false) : afterOffer kind true now k =
    { k with keyReq := false, delta := if kind = .key then 0 else k.delta + 1 } := by
  cases kind with
  | key => rfl
  | delta => rw [← h rfl]; rfl

section
variable (hk : frameKind (starting c) = kind) (ht : tickTest s.store l s.ref.tick = true)
  (hr : reserveMet s.store = true) {b : Nat} {rest : List Nat} (hfree : s.store.free = b :: rest)
include hk ht hr hfree

theorem offered_room : offered l (startState s l c) =
    ((allotted l (startState s l c)).withStore { s.store with
      free := rest
      records := s.store.records.set l (s.store.records[l] ++
        [freshRecord s.ref.tick s.ref.timecode kind (sliceCount (c.held.getD c.format)) b]) }, true) := by
  rw [offered_startState, hk, offerFrame_stored, allotted_store, createRecord_fresh hfree]
  · rw [allotted_store]; exact ht
  · rw [allotted_store]; exact hr
  · rw [allotted_store, hfree]; nofun

/-- The record that a cursor without a record weighs, with no clip in the log. -/
theorem laneFrameStart_room (hs : storeSound s.store) (hc : s.asm.cursors[l] = none) (hclips : s.clips.clips = []) :
    WeighedNew l s.store.records[l]
      (freshRecord s.ref.tick s.ref.timecode kind (sliceCount (c.held.getD c.format)) b) (framed l (startState s l c))
      (laneFrameStart l (startState s l c)) := by
  have hoff := offered_room (c := c) hk ht hr hfree
  obtain ⟨g, hframed⟩ : ∃ g, framed l (startState s l c) = (offered l (startState s l c)).1.modLane l g := ⟨_, rfl⟩
  rw [hoff] at hframed
  have hstore := congrArg State.store hframed
  have hcur : (framed l (startState s l c)).asm.cursors[l] = none := by
    rw [hframed]
    change (allotted l (startState s l c)).asm.cursors[l] = none
    rw [allotted_cursors]
    exact hc
  have hlog : (framed l (startState s l c)).clips.clips = [] := by
    rw [hframed]
    change (allotted l (startState s l c)).clips.clips = []
    rw [allotted_clips]
    exact hclips
  have hw := weighNew_newest (s := framed l (startState s l c)) (l := l)
    (r := freshRecord s.ref.tick s.ref.timecode kind (sliceCount (c.held.getD c.format)) b) hcur
    (by rw [hstore]; exact (lane_set _ _ _ _).trans (if_pos rfl)) (tick_fresh hs ht) rfl
  have hweighed : weighed l (startState s l c) = weighNew l s.ref.tick (framed l (startState s l c)) := by
    unfold weighed
    rw [startState_ref, newRecord_noClips hlog, hoff]
    exact if_pos rfl
  rw [laneFrameStart_eq, hweighed, liveSkip_within]
  · exact hw
  · exact hw.lag.le.trans (Nat.zero_le _)

end

end Sys2Proof.Machine
end

section
/-! SUPPORT. The frame start that O15 states (R22, R24, R31, R39 to R43, R58, R119, R125, R128, R138). -/

namespace Sys2Proof.Machine

variable {s t u : State} {l m : Lane} {c k : LaneCoder} {f : FrameInProgress} {x : Line} {kind : FrameKind}
  {now : Word} {n : Nat}

theorem buffer_claimed (v : Vector SliceBuffer 2) (y : SliceBuffer) : (v.set 0 y)[(0 : Fin 2)] = y :=
  (buffer_set v 0 0 y).trans (if_pos rfl)

section
variable (hkind : kind = .key ↔ c.keyReq = true ∨ (c.held.getD c.format).keyInterval ≤ c.delta + 1)
  (htest : tickTest s.store l s.ref.tick = true) (hr : reserveMet s.store = true) {b : Nat} {rest : List Nat}
  (hfree : s.store.free = b :: rest) (hs : storeSound s.store) (hc : s.asm.cursors[l] = none)
  (hclips : s.clips.clips = [])
include hkind htest hr hfree hs hc hclips

/-- The lane at the start of a STORED frame, before its first line. -/
theorem lane_stored : ∃ rc : RateContext,
    rc.settings = c.rate.held.getD c.rate.settings ∧
    (laneFrameStart l (startState s l c)).lanes[l] = { starting c with
      lastTick := some s.ref.tick, keyReq := false, delta := if kind = .key then 0 else c.delta + 1
      frame := some ⟨c.held.getD c.format, s.ref.tick, s.ref.timecode, .stored, some kind,
        some (tallyActive s.contacts l), 0, none⟩
      rate := { rc with
        allots := c.rate.allots ++ [makeAllotment s.ref.tick kind (sliceCount (c.held.getD c.format))
          (fpsOf s.ref.rate) rc] } } := by
  have hk := frameKind_starting hkind
  have hoff := offered_room (c := c) hk htest hr hfree
  obtain ⟨rc, hset, -, hrc⟩ := allotted_rates s l c
  rw [hk] at hrc
  have hf := newFrame_startState s l c
  have ho : (offered l (startState s l c)).2 = true := by rw [hoff]
  rw [ho, hk] at hf
  have hdelta : kind = .delta → c.keyReq = false := fun hd => by
    cases hq : c.keyReq with
    | false => rfl
    | true => exact absurd (hkind.2 (.inl hq)) (by rw [hd]; nofun)
  have hlane := framed_lane l (startState s l c)
  rw [hf, ho, startState_lane, hk, hoff, State.withStore_lanes, hrc, afterOffer_stored] at hlane
  · refine ⟨rc, hset, ?_⟩
    rw [(laneFrameStart_room hk htest hr hfree hs hc hclips).lanes, hlane]
    rfl
  · exact hdelta

variable (h : Begins s l x c)
include h

/-- R22, R26: the first line of a STORED frame in a FREE buffer. -/
theorem Begins.taken_stored (hx : x.number < 15) (hlines : 16 ≤ (c.held.getD c.format).lines)
    (hbuf : c.buffers[(0 : Fin 2)].state = .free) : ∃ rc : RateContext,
    rc.settings = c.rate.held.getD c.rate.settings ∧
    takeLine l x s = (laneFrameStart l (startState s l c)).setLane l { starting c with
      lastTick := some s.ref.tick, keyReq := false, delta := if kind = .key then 0 else c.delta + 1
      prev := some x.number, fill := some x.pixels, placing := some ⟨s.ref.tick, x.number⟩
      frame := some ⟨c.held.getD c.format, s.ref.tick, s.ref.timecode, .stored, some kind,
        some (tallyActive s.contacts l), 0, some ⟨0, some 0⟩⟩
      buffers := c.buffers.set 0 ⟨.filling, s.ref.tick, 0, [(x.number, x.pixels)], some (c.fill.getD x.pixels)⟩
      rate := { rc with
        allots := c.rate.allots ++ [makeAllotment s.ref.tick kind (sliceCount (c.held.getD c.format))
          (fpsOf s.ref.rate) rc] } } := by
  have hoff := offered_room (c := c) (frameKind_starting hkind) htest hr hfree
  obtain ⟨rc, hset, hlane⟩ := lane_stored hkind htest hr hfree hs hc hclips
  have hf := laneFrameStart_frame l (startState s l c)
  have hframe := Option.some.inj ((congrArg LaneCoder.frame hlane).symm.trans hf)
  have htake := h.taken_placed (by rw [hoff])
  rw [← hframe] at htake
  have hclaim := place_claims (s := laneFrameStart l (startState s l c)) (l := l) (x := x)
    (.inl (congrArg LaneCoder.state hlane)) (congrArg LaneCoder.frame hlane) (by dsimp only; omega)
    (by dsimp only; omega) rfl (by rw [hlane]; exact hbuf)
  rw [setLane_self, ← htake, hlane] at hclaim
  exact ⟨rc, hset, hclaim⟩

theorem Begins.stored (ht : takeLine l x s = t) (hx : x.number < 15) (hlines : 16 ≤ (c.held.getD c.format).lines)
    (hmost : (c.held.getD c.format).lines ≤ 1088) (hbuf : c.buffers[(0 : Fin 2)].state = .free)
    {r : RateSettings} (hset : r = c.rate.held.getD c.rate.settings) {bf : Nat}
    (hbf : bf = max (sliceCount (c.held.getD c.format) * 64)
      (min 1048576 (t.lanes[l].rate.rate * 125 / fpsOf s.ref.rate))) :
    t.lanes[l].frame = some ⟨c.held.getD c.format, s.ref.tick, s.ref.timecode, .stored, some kind,
      some (tallyActive s.contacts l), 0, some ⟨0, some 0⟩⟩ ∧
    t.lanes[l].keyReq = false ∧ t.lanes[l].delta = (if kind = .key then 0 else c.delta + 1) ∧
    t.lanes[l].placing = some ⟨s.ref.tick, x.number⟩ ∧ t.lanes[l].fill = some x.pixels ∧
    t.lanes[l].buffers[(0 : Fin 2)].state = .filling ∧
    t.lanes[l].buffers[(0 : Fin 2)].lines = [(x.number, x.pixels)] ∧
    t.lanes[l].rate.allots = c.rate.allots ++ [⟨s.ref.tick, kind, sliceCount (c.held.getD c.format), bf,
      if kind = .key then bf * r.kw else bf, r.kw, r.capF, r.qmin, r.qmax⟩] ∧
    t.store.free = rest ∧ t.store.pinned = s.store.pinned ∧ t.store.dram = s.store.dram ∧
    (∃ r : FrameRecord, t.store.records[l] = s.store.records[l] ++ [r] ∧ r.tick = s.ref.tick ∧
      r.timecode = s.ref.timecode ∧ r.kind = kind ∧ r.complete = false ∧
      r.n = sliceCount (c.held.getD c.format) ∧ r.blocks = [b] ∧
      r.bytes = 0 ∧ r.slices = [] ∧ r.pins = 0 ∧
      (s.asm.awaiting[l] = true → kind = .delta → r.live = .abandoned ∧ t.asm.cursors[l] = none) ∧
      ((s.asm.awaiting[l] = false ∨ kind = .key) → r.live = .pending ∧
        t.asm.cursors[l] = some ⟨s.ref.tick, 0, 0⟩ ∧ t.asm.awaiting[l] = false)) ∧
    (∀ m, m ≠ l → t.store.records[m] = s.store.records[m]) := by
  have hk := frameKind_starting hkind
  obtain ⟨rc, hrc, htake⟩ := h.taken_stored hkind htest hr hfree hs hc hclips hx hlines hbuf
  rw [ht] at htake
  have hlane : t.lanes[l] = _ := (congrArg (fun v => v.lanes[l]) htake).trans (setLane_lane _ l _)
  have hbudget : bf = frameBudget rc.rate (fpsOf s.ref.rate) (sliceCount (c.held.getD c.format)) := by
    rw [frameBudget_eq (sliceCount_le hmost), hbf, hlane]
  have hweighed := laneFrameStart_room hk htest hr hfree hs hc hclips
  obtain ⟨v, hrecord, hpass, htook⟩ := hweighed.record
  have hstore : t.store = (laneFrameStart l (startState s l c)).store := by
    rw [htake]
    rfl
  have hasm : t.asm = (laneFrameStart l (startState s l c)).asm := by
    rw [htake]
    rfl
  have hawait : (framed l (startState s l c)).asm.awaiting = s.asm.awaiting := by
    rw [← allotted_awaiting s l c, framed, offered_room hk htest hr hfree]
    rfl
  have hframed : (framed l (startState s l c)).store = (offered l (startState s l c)).1.store := rfl
  rw [offered_room hk htest hr hfree] at hframed
  rw [hawait] at hpass htook
  rw [hstore, hasm, hlane]
  refine ⟨rfl, rfl, rfl, rfl, rfl, ?_, ?_, ?_, ?_, ?_, ?_, ?_, fun m hm => ?_⟩
  · exact congrArg SliceBuffer.state (buffer_claimed c.buffers _)
  · exact congrArg SliceBuffer.lines (buffer_claimed c.buffers _)
  · rw [makeAllotment_eq hbudget, hrc, ← hset]
  · rw [hweighed.free, hframed]
    rfl
  · rw [hweighed.pinned, hframed]
    rfl
  · rw [hweighed.dram, hframed]
    rfl
  · exact ⟨_, hrecord, rfl, rfl, rfl, rfl, rfl, rfl, rfl, rfl, rfl, hpass, htook⟩
  · rw [hweighed.others m hm, hframed]
    exact (lane_set _ _ _ _).trans (if_neg hm.symm)

end

/-! ## A frame in progress ends first (R22, R31) -/

theorem frameStart_endFrame (h : s.lanes[l].state ≠ .draining) : frameStart l x (endFrame l s) = frameStart l x s := by
  unfold frameStart
  rw [endFrame_none (endFrame_frame h)]

/-- The first line of a frame in CODING. -/
theorem takeLine_restarts (hl : s.lanes[l] = c) (hs : c.state = .coding) (hi : c.idle < 2)
    (hb : beginsFrame c.prev x = true) (hlen : x.pixels.length = 2 * (c.held.getD c.format).width) :
    takeLine l x s = maybeOff l (setPrev l x (frameStart l x (s.setLane l { c with idle := 0 }))) := by
  have hsame : { c with idle := 0, state := .coding } = { c with idle := 0 } := by rw [← hs]
  rw [takeLine_eq hl hi, actOnLine_first (by rw [setLane_lane]; exact .inr hs) (by rw [setLane_lane]; exact hb),
    firstLine_fits (by rw [setLane_lane]; exact hlen), setLane_lane, setLane_setLane, hsame]

/-- R22, R31: a frame in progress ends first, and the frame starts in what that leaves. -/
theorem takeLine_endFrame (hl : s.lanes[l] = c) (hs : c.state = .coding) (hi : c.idle < 2)
    (hb : beginsFrame c.prev x = true) (hlen : x.pixels.length = 2 * (c.held.getD c.format).width) :
    takeLine l x s = takeLine l x (endFrame l (s.setLane l { c with idle := 0 })) := by
  have hlane := setLane_lane s l { c with idle := 0 }
  have hdrain : (s.setLane l { c with idle := 0 }).lanes[l].state ≠ .draining := by
    rw [hlane]
    exact hs.trans_ne nofun
  have hsliced := sliced_endFrame hdrain
  rw [takeLine_restarts hl hs hi hb hlen, ← frameStart_endFrame hdrain]
  generalize endFrame l (s.setLane l { c with idle := 0 }) = e at hsliced ⊢
  unfold Sliced at hsliced
  rw [hlane] at hsliced
  have hidle : { e.lanes[l] with idle := 0 } = e.lanes[l] := by rw [hsliced]
  have hsame := setLane_of_eq hidle.symm
  rw [takeLine_restarts (s := e) rfl (by rw [hsliced]; exact hs) (by rw [hsliced]; exact Nat.two_pos)
    (by rw [hsliced]; exact hb) (by rw [hsliced]; exact hlen), hsame]

/-! ## The statement -/

/-- Settles O15: the frame start in its steps, with the settings and shares worked, the offer, its answer, and the first
line behind it; a frame in progress ends before. -/
theorem frameStartsMakeRecords : Obligations.FrameStartsMakeRecords := by
  unfold Obligations.FrameStartsMakeRecords
  refine ⟨?_, fun s l x c hl hs hi hb hlen => takeLine_endFrame hl hs hi hb hlen⟩
  rintro s t l x c fmt kind on r bf hl hs hi hb rfl hlen hf htick hkind rfl ht rfl hbf
  have h : Begins s l x c := ⟨hl, hs, hi, hb, hlen, hf, htick⟩
  have hk := frameKind_starting hkind
  refine ⟨h.lane_taken ht, fun u hu m => h.shares ht m hu, fun limit hlimit hlines => h.offer ht hk hlimit hlines,
    fun htest hc => h.dropped ht hk htest hc, ?_⟩
  rintro b rest htest hsound hroom hfree hc hclips hx hlines hmost - hbuf -
  exact h.stored hkind htest hroom hfree hsound hc hclips ht hx hlines hmost hbuf rfl hbf

end Sys2Proof.Machine
end

section
/-! SUPPORT. The acts that leave the lane coders as they are, and those that move nothing of them but a key request (R25):
every act but those of the coders themselves, of LRAT and LSHR, and of power-on. -/

namespace Sys2Proof.Machine

variable {s t u : State}

/-- The rate contexts of the lanes (R37). -/
def laneRates (v : Vector LaneCoder 6) : Vector RateContext 6 := v.map LaneCoder.rate

@[simp] theorem laneRates_getElem (v : Vector LaneCoder 6) (l : Lane) : (laneRates v)[l] = v[l].rate := by simp [laneRates]

/-! ## Updates of one block -/

@[simp] theorem lanes_ite (c : Prop) [Decidable c] (a b : State) :
    (if c then a else b).lanes = if c then a.lanes else b.lanes := apply_ite State.lanes c a b
@[simp] theorem laneRates_ite (c : Prop) [Decidable c] (a b : Vector LaneCoder 6) :
    laneRates (if c then a else b) = if c then laneRates a else laneRates b := apply_ite laneRates c a b
@[simp] theorem lanes_setVideo (l v) (s : State) : (s.setVideo l v).lanes = s.lanes := rfl
@[simp] theorem lanes_setAudio (k v) (s : State) : (s.setAudio k v).lanes = s.lanes := rfl
@[simp] theorem lanes_modPath (p f) (s : State) : (s.modPath p f).lanes = s.lanes := rfl
@[simp] theorem lanes_setContact (i v) (s : State) : (s.setContact i v).lanes = s.lanes := rfl
@[simp] theorem lanes_setCursor (l c) (s : State) : (s.setCursor l c).lanes = s.lanes := rfl
@[simp] theorem lanes_advanceTo (n) (s : State) : (s.advanceTo n).lanes = s.lanes := rfl

theorem lanes_foldl {α : Type} {f : State → α → State} (hf : ∀ u a, (f u a).lanes = u.lanes) (l : List α) (s : State) :
    (l.foldl f s).lanes = s.lanes :=
  List.foldlRecOn (motive := fun u => u.lanes = s.lanes) l f rfl fun u hu a _ => (hf u a).trans hu

@[simp] theorem lanes_latches {α : Type} (k : EventKind) (unit : α → Nat) (l : List α) (s : State) :
    (l.foldl (fun s a => s.latch k (unit a)) s).lanes = s.lanes :=
  lanes_foldl (fun u a => State.latch_lanes u k (unit a)) l s

theorem laneRates_setLane (s : State) (l : Lane) (c : LaneCoder) :
    laneRates (s.setLane l c).lanes = (laneRates s.lanes).set l c.rate := Vector.map_set ..

/-- A change of a coder that leaves its rate context alone. -/
theorem laneRates_modLane {f : LaneCoder → LaneCoder} (hf : ∀ c, (f c).rate = c.rate) (l : Lane) (s : State) :
    laneRates (s.modLane l f).lanes = laneRates s.lanes := by
  rw [modLane_eq, laneRates_setLane, hf, ← laneRates_getElem]
  exact Vector.set_getElem_self ..

@[simp] theorem laneRates_requestKey (l) (s : State) : laneRates (s.requestKey l).lanes = laneRates s.lanes :=
  laneRates_modLane (fun c => by split <;> rfl) l s

theorem laneRates_of_requested (h : Requested s t) : laneRates t.lanes = laneRates s.lanes :=
  Vector.ext fun i hi => by
    have hrate := congrArg LaneCoder.rate (h ⟨i, hi⟩)
    simpa [laneRates] using hrate

/-! ## The handler and the port -/

@[simp] theorem lanes_arrive (q) (s : State) : (arrive q s).lanes = s.lanes := by unfold arrive; split <;> simp
@[simp] theorem lanes_present (q) (s : State) : (present q s).lanes = s.lanes := by simp [present]
@[simp] theorem lanes_respond (d r) (s : State) : (respond d r s).lanes = s.lanes := by unfold respond; split <;> simp
@[simp] theorem lanes_audioPacket (k p) (s : State) : (audioPacket k p s).lanes = s.lanes := by
  simp [audioPacket, seqCounts_lanes]
@[simp] theorem lanes_mgmtPacket (p) (s : State) : (mgmtPacket p s).lanes = s.lanes := by
  simp [mgmtPacket, seqCounts_lanes]
@[simp] theorem lanes_buildBusPacket (b x) (s : State) : (buildBusPacket b x s).lanes = s.lanes := by
  unfold buildBusPacket; split <;> simp

/-! ## The clip log and the label store -/

@[simp] theorem lanes_engineAdvance (e) (s : State) : (engineAdvance e s).lanes = s.lanes := by
  unfold engineAdvance
  split
  · split
    · rfl
    · dsimp only
      split <;> [skip; split] <;> simp
  · rfl
@[simp] theorem lanes_removeClip (id) (s : State) : (removeClip id s).lanes = s.lanes := by
  unfold removeClip; split <;> [skip; (dsimp only; split)] <;> simp
theorem lanes_makeRoom (h : makeRoom s = some u) : u.lanes = s.lanes := by
  unfold makeRoom at h
  split at h
  · cases h; rfl
  · split at h <;> cases h
    exact lanes_removeClip _ s
@[simp] theorem lanes_makeClip (ls pre tick tags) (s : State) : (makeClip ls pre tick tags s).1.lanes = s.lanes := by
  simp [makeClip]
@[simp] theorem lanes_markRefused (s : State) : (markRefused s).lanes = s.lanes := rfl
@[simp] theorem lanes_contactMarkIn (k n) (s : State) : (contactMarkIn k n s).lanes = s.lanes := by
  unfold contactMarkIn
  split
  · rfl
  · split
    · simp
    · next hr => simp [lanes_makeRoom hr]
@[simp] theorem lanes_contactMarkOut (n) (s : State) : (contactMarkOut n s).lanes = s.lanes := by
  unfold contactMarkOut; split <;> [skip; split] <;> simp
@[simp] theorem lanes_contactToggle (k n) (s : State) : (contactToggle k n s).lanes = s.lanes := by simp [contactToggle]
@[simp] theorem lanes_acceptedEdge (c b n) (s : State) : (acceptedEdge c b n s).lanes = s.lanes := by
  unfold acceptedEdge; split <;> [skip; split] <;> simp
@[simp] theorem lanes_contactRawChange (i b) (s : State) : (contactRawChange i b s).lanes = s.lanes := by
  simp [contactRawChange]
@[simp] theorem lanes_filterRunsOut (i) (s : State) : (filterRunsOut i s).lanes = s.lanes := by
  unfold filterRunsOut; dsimp only; split <;> simp
@[simp] theorem lanes_staleEmptied (s : State) : (staleEmptied s).lanes = s.lanes := by simp [staleEmptied, lanes_foldl]
@[simp] theorem lanes_recordWriteEnd (s : State) : (recordWriteEnd s).lanes = s.lanes := by
  unfold recordWriteEnd; split <;> simp [lanes_kick]
@[simp] theorem lanes_eraseEnd (s : State) : (eraseEnd s).lanes = s.lanes := by
  unfold eraseEnd; split <;> simp [lanes_kick, lanes_serveDirty]
@[simp] theorem lanes_rebuildLog (s : State) : (rebuildLog s).lanes = s.lanes := by simp [rebuildLog, lanes_foldl]
@[simp] theorem lanes_startUpScan (s : State) : (startUpScan s).lanes = s.lanes := by
  simp [startUpScan, lanes_kick]
@[simp] theorem lanes_cutWriting (s : State) : (cutWriting s).lanes = s.lanes := by unfold cutWriting; split <;> simp
@[simp] theorem lanes_cutErasing (s : State) : (cutErasing s).lanes = s.lanes := by simp [cutErasing]
@[simp] theorem lanes_powerLoss (s : State) : (powerLoss s).lanes = s.lanes := by simp [powerLoss]

/-! ## The sound mixer and the reference unit -/

@[simp] theorem lanes_handAudio (x) (s : State) : (handAudio x s).lanes = s.lanes := by simp [handAudio]
@[simp] theorem lanes_handPeriod (c) : ∀ (bs) (s : State), (handPeriod c bs s).lanes = s.lanes
  | [], _ => rfl
  | _ :: bs, s => by simp [handPeriod, lanes_handPeriod c bs]
@[simp] theorem lanes_countClips (bs) (s : State) : (countClips bs s).lanes = s.lanes :=
  lanes_foldl (fun _ _ => by simp [countClip]) _ _
@[simp] theorem lanes_completeWork (w) (s : State) : (completeWork w s).lanes = s.lanes := by
  unfold completeWork; dsimp only; split <;> simp
@[simp] theorem lanes_blockCompletion (s : State) : (blockCompletion s).lanes = s.lanes := by
  unfold blockCompletion; split <;> simp
@[simp] theorem lanes_referencePulse (n) (s : State) : (referencePulse n s).lanes = s.lanes := by
  unfold referencePulse; dsimp only; split <;> simp
@[simp] theorem lanes_lockingLoss (s : State) : (lockingLoss s).lanes = s.lanes := by unfold lockingLoss; split <;> simp
@[simp] theorem lanes_referenceLoss (s : State) : (referenceLoss s).lanes = s.lanes := by
  unfold referenceLoss; split <;> simp

/-! ## The return receiver -/

@[simp] theorem lanes_placeHolds (m) (s : State) : (placeHolds m s).lanes = s.lanes := rfl
@[simp] theorem lanes_highMark (s : State) : (highMark s).lanes = s.lanes := by simp [highMark]
@[simp] theorem lanes_lowMark (s : State) : (lowMark s).lanes = s.lanes := by simp [lowMark]
@[simp] theorem lanes_insertReturn (x) (s : State) : (insertReturn x s).lanes = s.lanes := by simp [insertReturn]
@[simp] theorem lanes_returnArrival (x) (s : State) : (returnArrival x s).lanes = s.lanes := by simp [returnArrival]
@[simp] theorem lanes_takeFrontCell (x r) (s : State) : (takeFrontCell x r s).lanes = s.lanes := by simp [takeFrontCell]
@[simp] theorem lanes_needCell (s : State) : (needCell s).lanes = s.lanes := by
  unfold needCell; split <;> [skip; split] <;> simp
@[simp] theorem lanes_handFrames : ∀ (n : Nat) (s : State) (acc), (handFrames n s acc).1.lanes = s.lanes
  | 0, _, _ => rfl
  | n + 1, s, acc => by unfold handFrames; dsimp only; split <;> simp [lanes_handFrames n]
@[simp] theorem lanes_enterPlaying (s : State) : (enterPlaying s).lanes = s.lanes := by
  unfold enterPlaying; split <;> [skip; (dsimp only; split)] <;> simp
@[simp] theorem lanes_returnBlock (s : State) : (returnBlock s).1.lanes = s.lanes := by simp [returnBlock]
@[simp] theorem lanes_beginBlock (s : State) : (beginBlock s).lanes = s.lanes := by
  simp [beginBlock, (audioRequest_asked _ _).lanes]
@[simp] theorem lanes_returnCell (p x) (s : State) : (returnCell p x s).lanes = s.lanes := by simp [returnCell]
@[simp] theorem lanes_directiveCell (p x) (s : State) : (directiveCell p x s).lanes = s.lanes := by simp [directiveCell]

/-! ## The redispatch list and the paths -/

@[simp] theorem lanes_settleRedispatch (s : State) : (settleRedispatch s).lanes = s.lanes := lanes_dropStale _ s
@[simp] theorem lanes_redispatchCell (c) (s : State) : (redispatchCell c s).lanes = s.lanes := by simp [redispatchCell]
@[simp] theorem lanes_openAfterFall (p) (s : State) : (openAfterFall s p).lanes = s.lanes := by simp [openAfterFall]
@[simp] theorem lanes_redispatchPath (p) (s : State) : (redispatchPath p s).lanes = s.lanes := by
  simp [redispatchPath, lanes_foldl]
@[simp] theorem lanes_leaveTraffic (p) (s : State) : (leaveTraffic p s).lanes = s.lanes := by
  simp [leaveTraffic, pathsUpFall]
@[simp] theorem lanes_emptyPath (p st) (s : State) : (emptyPath p st s).lanes = s.lanes := by simp [emptyPath]
@[simp] theorem lanes_attemptFailed (p r) (s : State) : (attemptFailed p r s).lanes = s.lanes := by
  unfold attemptFailed; dsimp only; split <;> simp
@[simp] theorem lanes_farRestart (p) (s : State) : (farRestart p s).lanes = s.lanes := by simp [farRestart]
@[simp] theorem lanes_holdCell (p n) (s : State) : (holdCell p n s).lanes = s.lanes := by simp [holdCell]
@[simp] theorem lanes_carrierLost (p) (s : State) : (carrierLost p s).lanes = s.lanes := by
  unfold carrierLost; dsimp only; split <;> simp
@[simp] theorem lanes_offerPacer (p) (s : State) : (offerPacer p s).lanes = s.lanes := by
  unfold offerPacer; split <;> simp
@[simp] theorem lanes_handshakeTimerExpiry (p) (s : State) : (handshakeTimerExpiry p s).lanes = s.lanes := by
  unfold handshakeTimerExpiry; split <;> simp
@[simp] theorem lanes_holdTimerExpiry (p) (s : State) : (holdTimerExpiry p s).lanes = s.lanes := by
  unfold holdTimerExpiry; split <;> simp
@[simp] theorem lanes_lineReady (p) (s : State) : (lineReady p s).lanes = s.lanes := by
  unfold lineReady; dsimp only; split <;> simp

/-! ## Cell assembly -/

@[simp] theorem lanes_placeCell (p x) (s : State) : (placeCell p x s).lanes = s.lanes := by simp [placeCell]
@[simp] theorem lanes_popStale (s : State) : (popStale s).lanes = s.lanes := by unfold popStale; split <;> simp
@[simp] theorem lanes_cutVideo (l c r e) (s : State) : (cutVideo l c r e s).lanes = s.lanes := by
  unfold cutVideo; dsimp only; split <;> simp [seekOnward]
@[simp] theorem lanes_cutClip (e) (s : State) : (cutClip e s).lanes = s.lanes := by simp [cutClip]

theorem lanes_firstServed : ∀ (fs : List (State → Option State)) {s : State},
    (∀ f ∈ fs, ∀ u, f s = some u → u.lanes = s.lanes) → (firstServed fs s).lanes = s.lanes
  | [], _, _ => rfl
  | f :: fs, s, hf => by
    unfold firstServed
    split
    · next hu => exact hf f List.mem_cons_self _ hu
    · exact lanes_firstServed fs fun g hg => hf g (List.mem_cons_of_mem _ hg)

theorem lanes_serveControl (h : serveControl s = some u) : u.lanes = s.lanes := by
  unfold serveControl at h
  split at h <;> cases h
  simp
theorem lanes_serveRedispatch (h : serveRedispatch s = some u) : u.lanes = s.lanes := by
  unfold serveRedispatch at h
  split at h
  · split at h <;> cases h
    simp
  · cases h
theorem lanes_serveAudio (h : serveAudio s = some u) : u.lanes = s.lanes := by
  unfold serveAudio at h
  split at h <;> cases h
  simp
theorem lanes_serveLabel (h : serveLabel s = some u) : u.lanes = s.lanes := by
  unfold serveLabel at h
  split at h <;> cases h
  simp
theorem lanes_serveVideo (h : serveVideo s = some u) : u.lanes = s.lanes := by
  unfold serveVideo at h
  split at h
  · split at h <;> cases h
    simp
  · cases h
theorem lanes_serveClip (h : serveClip s = some u) : u.lanes = s.lanes := by
  unfold serveClip at h
  split at h
  · split at h <;> cases h
    simp
  · cases h

@[simp] theorem lanes_cellAssembly (s : State) : (cellAssembly s).lanes = s.lanes := by
  rw [cellAssembly, lanes_settleRedispatch, lanes_firstServed _ fun f hf u hu => ?_, lanes_settleRedispatch]
  simp only [List.mem_cons, List.not_mem_nil, or_false] at hf
  rcases hf with rfl | rfl | rfl | rfl | rfl | rfl
  · exact lanes_serveControl hu
  · exact lanes_serveRedispatch hu
  · exact lanes_serveAudio hu
  · exact lanes_serveLabel hu
  · exact lanes_serveVideo hu
  · exact lanes_serveClip hu

/-! ## The paths in UP (R119): a rise from none requests a KEY frame of every lane -/

@[simp] theorem laneRates_pathsUpRise (s : State) : laneRates (pathsUpRise s).lanes = laneRates s.lanes := by
  have hrequests (u : State) :
      laneRates ((List.finRange 6).foldl (fun s l => s.requestKey l) u).lanes = laneRates u.lanes :=
    List.foldlRecOn (motive := fun w => laneRates w.lanes = laneRates u.lanes) _ _ rfl fun w hw l _ =>
      (laneRates_requestKey l w).trans hw
  simp [pathsUpRise, hrequests]
@[simp] theorem laneRates_enterUp (p) (s : State) : laneRates (enterUp p s).lanes = laneRates s.lanes := by
  unfold enterUp; dsimp only; split <;> simp
@[simp] theorem laneRates_leaveDown (p) (s : State) : laneRates (leaveDown p s).lanes = laneRates s.lanes := by
  simp [leaveDown]
@[simp] theorem laneRates_extraInExchange (p w) (s : State) :
    laneRates (extraInExchange p w s).lanes = laneRates s.lanes := by simp [extraInExchange]
@[simp] theorem laneRates_offerComplete (p w x) (s : State) :
    laneRates (offerComplete p w x s).lanes = laneRates s.lanes := by cases x <;> simp [offerComplete]
@[simp] theorem laneRates_offerInOffer (p w) (s : State) : laneRates (offerInOffer p w s).lanes = laneRates s.lanes := by
  simp [offerInOffer]
@[simp] theorem laneRates_extraInOffer (p w) (s : State) : laneRates (extraInOffer p w s).lanes = laneRates s.lanes := by
  unfold extraInOffer; split <;> simp
@[simp] theorem laneRates_takeOffer (p w) (s : State) : laneRates (takeOffer p w s).lanes = laneRates s.lanes := by
  unfold takeOffer; dsimp only; split <;> simp
@[simp] theorem laneRates_takeExtra (p w) (s : State) : laneRates (takeExtra p w s).lanes = laneRates s.lanes := by
  unfold takeExtra; dsimp only; split <;> simp
@[simp] theorem laneRates_handshakeCell (p w) (s : State) :
    laneRates (handshakeCell p w s).lanes = laneRates s.lanes := by simp [handshakeCell]
@[simp] theorem laneRates_carrierPresent (p) (s : State) : laneRates (carrierPresent p s).lanes = laneRates s.lanes := by
  simp [carrierPresent]
@[simp] theorem laneRates_checkedCell (p x) (s : State) : laneRates (checkedCell p x s).lanes = laneRates s.lanes := by
  unfold checkedCell; split <;> simp
@[simp] theorem laneRates_inboundCell (p b) (s : State) : laneRates (inboundCell p b s).lanes = laneRates s.lanes := by
  unfold inboundCell; split <;> [skip; split] <;> simp

end Sys2Proof.Machine
end

section
/-! SUPPORT. The rate context of one lane (R37): the bucket and the index after a slice (R46, R50), the key debt (R48), and
its settings (R37, R38, R51, R52), each within its range. -/

namespace Sys2Proof.Machine

variable {r : RateContext} {a : Allotment}

/-! ## The bucket and the index (R46, R50) -/

theorem clampInt_eq {lo hi : Int} (h : lo ≤ hi) (x : Int) : clampInt lo hi x = max lo (min hi x) := by
  unfold clampInt
  split
  · omega
  · split <;> omega

theorem clampNat_le {lo hi : Nat} (h : lo ≤ hi) (x : Nat) : clampNat lo hi x ≤ hi := by
  unfold clampNat
  split
  · exact h
  · split <;> omega

/-- R50: the index before it is limited. -/
def rawIndex (r : RateContext) : Int :=
  r.settings.qref + Int.tdiv (r.settings.gain * ((r.fullness : Int) - ((r.settings.cb / 2 : Nat) : Int))) r.settings.cb

/-- R50: limited to four either side of the index, then clamped into the range. -/
theorem nextIndex_eq (h : r.settings.qmin ≤ r.settings.qmax) : (nextIndex r : Int) =
    max (r.settings.qmin : Int) (min (r.settings.qmax : Int)
      (max ((r.q : Int) - 4) (min ((r.q : Int) + 4) (rawIndex r)))) := by
  have hindex : nextIndex r = (clampInt r.settings.qmin r.settings.qmax
      (clampInt ((r.q : Int) - 4) ((r.q : Int) + 4) (rawIndex r))).toNat := rfl
  rw [hindex, clampInt_eq (by omega), clampInt_eq (by omega)]
  omega

theorem nextIndex_le (h : r.settings.qmin ≤ r.settings.qmax) : nextIndex r ≤ r.settings.qmax := by
  have := nextIndex_eq h
  omega

/-- R46: the rate context with the bucket after a slice, for which the next index is worked. -/
def bucketed (size al : Nat) (r : RateContext) : RateContext :=
  { r with
    fullness := bucketAfter r.settings.cb r.fullness size al
    force := r.force || overflows r.settings.cb r.fullness size al }

theorem rateAfterSlice_eq (size al : Nat) (r : RateContext) :
    rateAfterSlice size al r = { bucketed size al r with q := nextIndex (bucketed size al r) } := rfl

theorem bucketAfter_le (cb f size al : Nat) : bucketAfter cb f size al ≤ cb := Nat.min_le_left ..

/-! ## Rate contexts in range -/

/-- R37, R46, R50: the settings in force and held are in range, the fullness is at most Cb, and the index, and the greatest
index of every frame allotment, are at most 63. -/
structure RateFits (r : RateContext) : Prop where
  settings : settingsInRange r.settings = true
  held : ∀ h, r.held = some h → settingsInRange h = true
  fullness : r.fullness ≤ r.settings.cb
  index : r.q ≤ 63
  allots : ∀ a ∈ r.allots, a.qmin ≤ a.qmax ∧ a.qmax ≤ 63

theorem qmin_le_qmax {x : RateSettings} (h : settingsInRange x = true) : x.qmin ≤ x.qmax := by
  obtain ⟨hlo, hhi, -⟩ := (settingsInRange_iff x).1 h
  exact hlo.trans hhi

theorem qmax_le {x : RateSettings} (h : settingsInRange x = true) : x.qmax ≤ 63 := by
  obtain ⟨-, -, hmax, -⟩ := (settingsInRange_iff x).1 h
  exact hmax

namespace RateFits

/-- R46, R50. -/
theorem afterSlice (h : RateFits r) (size al : Nat) : RateFits (rateAfterSlice size al r) :=
  { h with
    fullness := bucketAfter_le ..
    index := (nextIndex_le (r := bucketed size al r) (qmin_le_qmax h.settings)).trans (qmax_le h.settings) }

theorem withRate (h : RateFits r) (v : Nat) : RateFits { r with rate := v } := { h with }

/-- R48. -/
theorem addDebt (h : RateFits r) (a : Allotment) : RateFits (addDebt a r) := by
  unfold Machine.addDebt
  split
  · exact { h with fullness := Nat.min_le_left .. }
  · exact h

theorem dropAllotment (h : RateFits r) (k : Word) : RateFits (dropAllotment k r) :=
  { h with allots := fun a ha => h.allots a (List.mem_filter.1 ha).1 }

/-- R43: the allotment of a frame takes the range of the settings in force. -/
theorem allot (h : RateFits r) (k : Word) (kind : FrameKind) (n fps : Nat) :
    RateFits { r with allots := r.allots ++ [makeAllotment k kind n fps r] } :=
  { h with
    allots := fun a ha => by
      rcases List.mem_append.1 ha with ha | ha
      · exact h.allots a ha
      · rw [List.mem_singleton.1 ha]
        exact ⟨qmin_le_qmax h.settings, qmax_le h.settings⟩ }

/-- R47: the index of a KEY frame's forced slice. -/
theorem forceIndex (h : RateFits r) {k : Word} (ha : findAllotment r k = some a) : RateFits { r with q := a.qmax } :=
  { h with
    index := by
      obtain ⟨-, hmax⟩ := h.allots a (List.mem_of_find?_eq_some ha)
      exact hmax }

/-- R52. -/
theorem applyHeld (h : RateFits r) : RateFits (applyHeldRates r) := by
  unfold applyHeldRates
  split
  · exact h
  · next x hx =>
    have hin := h.held x hx
    exact ⟨hin, nofun, Nat.min_le_left ..,
      (clampNat_le (qmin_le_qmax hin) _).trans (qmax_le hin), h.allots⟩

/-- R38: the lane enters OFF. -/
theorem off (h : RateFits r) : RateFits (rateOff r) := by
  refine ⟨?_, nofun, Nat.min_le_left .., h.index, nofun⟩
  show settingsInRange (r.held.getD r.settings) = true
  cases hx : r.held with
  | none => exact h.settings
  | some x => exact h.held x hx

/-- R38: the lane starts. -/
theorem start (h : RateFits r) : RateFits (rateStart r) :=
  { h with
    fullness := Nat.div_le_self ..
    index := by
      obtain ⟨-, hhi, hmax, -⟩ := (settingsInRange_iff r.settings).1 h.settings
      exact hhi.trans hmax
    allots := nofun }

/-- R51: LRAT in OFF. -/
theorem load (h : RateFits r) {x : RateSettings} (hx : settingsInRange x = true) :
    RateFits { r with settings := x, fullness := min x.cb r.fullness } :=
  { h with settings := hx, fullness := Nat.min_le_left .. }

/-- R51: LRAT in another state. -/
theorem hold (h : RateFits r) {x : RateSettings} (hx : settingsInRange x = true) : RateFits { r with held := some x } :=
  { h with held := fun _ hy => Option.some.inj hy ▸ hx }

/-- R37: after power-on. -/
theorem reset : RateFits resetRate :=
  ⟨by decide, nofun, by decide, by decide, nofun⟩

end RateFits

end Sys2Proof.Machine
end

section
/-! SUPPORT. The acts of the lane coders keep the rate contexts within their ranges (R26 to R34, R37, R46 to R52). -/

namespace Sys2Proof.Machine

variable {s t : State}

/-- The rate context of every lane is in range. -/
def RatesFit (s : State) : Prop := ∀ l : Lane, RateFits s.lanes[l].rate

theorem rateInRange_iff : rateInRange s = true ↔ RatesFit s := by
  have hlane : ∀ r : RateContext, (settingsInRange r.settings && (match r.held with
        | some h => settingsInRange h
        | none => true) && decide (r.fullness ≤ r.settings.cb) && decide (r.q ≤ 63)
      && r.allots.all (fun a => decide (a.qmin ≤ a.qmax) && decide (a.qmax ≤ 63))) = true ↔ RateFits r := fun r => by
    simp only [Bool.and_eq_true, decide_eq_true_eq, List.all_eq_true]
    constructor
    · rintro ⟨⟨⟨⟨hs, hh⟩, hf⟩, hq⟩, ha⟩
      exact ⟨hs, fun x hx => by rw [hx] at hh; exact hh, hf, hq, ha⟩
    · rintro ⟨hs, hh, hf, hq, ha⟩
      refine ⟨⟨⟨⟨hs, ?_⟩, hf⟩, hq⟩, ha⟩
      split
      · next x hx => exact hh x hx
      · rfl
  rw [rateInRange, List.all_eq_true, forall_mem_toList]
  exact forall_congr' fun l => hlane _

namespace RatesFit

theorem of_rates (h : RatesFit s) (e : laneRates t.lanes = laneRates s.lanes) : RatesFit t := fun l => by
  rw [← laneRates_getElem, e, laneRates_getElem]
  exact h l

theorem of_lanes (h : RatesFit s) (e : t.lanes = s.lanes) : RatesFit t := h.of_rates (by rw [e])

theorem setLane (h : RatesFit s) (l : Lane) {c : LaneCoder} (hc : RateFits c.rate) : RatesFit (s.setLane l c) := fun m => by
  by_cases hm : m = l
  · subst hm
    rw [setLane_lane]
    exact hc
  · rw [setLane_other hm]
    exact h m

theorem modLane (h : RatesFit s) (l : Lane) {f : LaneCoder → LaneCoder}
    (hf : RateFits s.lanes[l].rate → RateFits (f s.lanes[l]).rate) : RatesFit (s.modLane l f) := h.setLane l (hf (h l))

theorem modRate (h : RatesFit s) (l : Lane) {f : RateContext → RateContext}
    (hf : RateFits s.lanes[l].rate → RateFits (f s.lanes[l].rate)) : RatesFit (s.modRate l f) := h.modLane l hf

theorem ite {c : Prop} [Decidable c] (hs : RatesFit s) (ht : RatesFit t) : RatesFit (if c then s else t) := by
  split
  · exact hs
  · exact ht

/-! ## Passing and coding (R28, R30, R45 to R50) -/

theorem maybeOff (h : RatesFit s) (l) : RatesFit (maybeOff l s) := .ite (h.setLane l (h l).off) h

theorem passOne (h : RatesFit s) (l e x) : RatesFit (passOne l e x s) := by
  have happ : RatesFit (appendSlice l e.tick x s) := h.of_lanes (appendSlice_lanes ..)
  unfold Machine.passOne
  dsimp only
  split
  · exact happ
  · next a _ =>
    exact .ite (modRate (happ.of_lanes (State.withStore_lanes ..)) l fun hr => (hr.addDebt a).dropAllotment e.tick) happ

theorem passDone (l) : ∀ (n : Nat) {s : State}, RatesFit s → RatesFit (passDone l n s)
  | 0, _, h => h
  | n + 1, s, h => by
    unfold Machine.passDone
    split
    · next rest _ =>
      have hrest : RatesFit (s.modLane l (fun c => { c with pass := rest })) := h.modLane l id
      exact passDone l n (hrest.passOne l _ _)
    · exact h

theorem passReady (h : RatesFit s) (l) : RatesFit (passReady l s) := passDone l _ h

theorem sliceEnds (h : RatesFit s) (l b x) : RatesFit (sliceEnds l b x s) := by
  unfold Machine.sliceEnds
  split
  · exact h
  · split
    · exact h
    · dsimp only
      exact passReady (.modLane (.modRate (.of_lanes h (by simp)) l fun hr => hr.afterSlice _ _) l id) l

theorem beginCoding (h : RatesFit s) (l b) : RatesFit (beginCoding l b s) := by
  unfold Machine.beginCoding
  split
  · exact h
  · split
    · exact h
    · next a ha =>
      have hbegun : RatesFit (s.modLane l (fun c => { c with
          buffers := c.buffers.set b { c.buffers[b] with state := .coding }
          rate := { c.rate with force := false } })) := h.modLane l fun hr => { hr with }
      dsimp only
      split
      · split
        · exact hbegun.sliceEnds l b _
        · refine .modLane (hbegun.modRate l fun hr => ?_) l id
          rw [modLane_eq, setLane_lane] at hr ⊢
          exact hr.forceIndex ha
      · exact hbegun.modLane l id

theorem startEngine (l) : ∀ (n : Nat) {s : State}, RatesFit s → RatesFit (startEngine l n s)
  | 0, _, h => h
  | n + 1, s, h => by
    unfold Machine.startEngine
    split
    · exact h
    · split
      · exact h
      · exact startEngine l n (h.beginCoding l _)

theorem sliceCoded (h : RatesFit s) (l bytes) : RatesFit (sliceCoded l bytes s) := by
  unfold Machine.sliceCoded
  split
  · exact h
  · exact (startEngine l 3 (h.sliceEnds l _ _)).maybeOff l

/-! ## Slices and the end of a frame (R26, R29, R31 to R33) -/

theorem ensureBegun (h : RatesFit s) (l) : RatesFit (ensureBegun l s) := by
  unfold Machine.ensureBegun
  split
  · refine .ite h ?_
    unfold beginSlice
    dsimp only
    split
    · exact h.modLane l id
    · exact (h.modLane l id).of_lanes (State.count_lanes ..)
  · exact h

theorem finishSlice_rate (c : LaneCoder) : (finishSlice c).rate = c.rate := by
  unfold finishSlice
  split
  · rfl
  · split
    · rfl
    · dsimp only
      split <;> rfl

theorem makeReady (h : RatesFit s) (l) : RatesFit (makeReady l s) :=
  startEngine l 3 (((h.ensureBegun l).of_rates (laneRates_modLane finishSlice_rate l _)).passReady l)

theorem readyUpTo (l k) : ∀ (n : Nat) {s : State}, RatesFit s → RatesFit (readyUpTo l k n s)
  | 0, _, h => h
  | n + 1, s, h => by
    unfold Machine.readyUpTo
    split
    · exact .ite (readyUpTo l k n (h.makeReady l)) h
    · exact h

theorem readyAfter (h : RatesFit s) (l n) : RatesFit (readyAfter l n s) := by
  unfold Machine.readyAfter
  split
  · exact .ite (h.makeReady l) h
  · exact h

theorem endFrame (h : RatesFit s) (l) : RatesFit (endFrame l s) := by
  unfold Machine.endFrame
  split
  · exact h
  · exact (modLane (.ite (readyUpTo l _ _ h) h) l id).maybeOff l

theorem settleStall (h : RatesFit s) (l) : RatesFit (settleStall l s) := by
  refine .ite h ?_
  split
  · exact ((h.endFrame l).modLane l fun hr => hr.withRate 0).of_lanes (State.count_lanes ..)
  · exact (h.modLane l id).endFrame l
  all_goals exact h

theorem laneStall (h : RatesFit s) (l) : RatesFit (laneStall l s) := (h.settleStall l).maybeOff l

theorem frameTick (h : RatesFit s) : RatesFit (frameTick s) :=
  of_lanes (List.foldlRecOn (motive := RatesFit) _ _ (h.of_lanes (State.withRef_lanes ..)) fun _ hu l _ =>
    (hu.settleStall l).of_rates (laneRates_modLane (fun c => by split <;> rfl) l _)) (State.withMixer_lanes ..)

/-! ## Frame starts (R22, R52, R58) -/

theorem workShares (h : RatesFit s) (l on) : RatesFit (workShares l on s) := fun m => by
  by_cases hm : m = l
  · subst hm
    rw [workShares_lane]
    exact { h m with }
  · rw [workShares_other hm]
    exact { h m with }

theorem allotted (h : RatesFit s) (l) : RatesFit (allotted l s) := by
  have hrated : RatesFit (rated l s) := h.modLane l fun hr => hr.applyHeld
  exact modRate (of_lanes (hrated.workShares l _) (State.withAsm_lanes ..)) l fun hr => hr.allot _ _ _ _

theorem afterOffer (h : RatesFit s) (l kind stored k) {f : Option FrameInProgress} :
    RatesFit (s.modLane l (fun c => { afterOffer kind stored k c with frame := f })) := h.modLane l fun hr => by
  cases stored with
  | false => exact hr.dropAllotment k
  | true => cases kind <;> exact hr

theorem laneFrameStart (h : RatesFit s) (l) : RatesFit (laneFrameStart l s) :=
  (((h.allotted l).of_rates (laneRates_of_requested (requested_offered l s))).afterOffer l _ _ _).of_rates
    (laneRates_of_requested (requested_start l s))

theorem setPrev (h : RatesFit s) (l x) : RatesFit (setPrev l x s) :=
  h.of_rates (laneRates_modLane (fun c => by split <;> rfl) l s)

theorem putLine_rate (x : Line) (c : LaneCoder) : (putLine x c).rate = c.rate := by
  unfold putLine
  split
  · rfl
  · split <;> rfl

theorem placeLine (h : RatesFit s) (l f x) : RatesFit (placeLine l f x s) := by
  have hfill (g : LaneCoder → LaneCoder) (hg : ∀ c, (g c).rate = c.rate) : RatesFit (s.modLane l g) :=
    h.of_rates (laneRates_modLane hg l s)
  have hput (k n : Nat) {u : State} (hu : RatesFit u) :
      RatesFit ((Machine.ensureBegun l (Machine.readyUpTo l k n u)).modLane l (putLine x)) :=
    ((readyUpTo l k n hu).ensureBegun l).of_rates (laneRates_modLane (putLine_rate x) l _)
  have hbegun := hfill (fun c => { c with fill := match c.fill with | some p => some p | none => some x.pixels })
    fun _ => rfl
  exact .ite hbegun (.ite ((hput _ _ hbegun).readyAfter l _) (hput _ _ hbegun))

theorem discardFrame (h : RatesFit s) (l) : RatesFit (discardFrame l s) :=
  h.of_rates ((congrArg laneRates (State.count_lanes ..)).trans (laneRates_modLane (by intro; rfl) l s))

theorem frameStart (h : RatesFit s) (l x) : RatesFit (frameStart l x s) := by
  have hended := (h.endFrame l).modLane l (f := applyHeldFormat) id
  unfold Machine.frameStart
  dsimp only
  split
  · exact hended.discardFrame l
  · have hstarted := hended.laneFrameStart l
    split
    · exact .ite (hstarted.placeLine l _ x) hstarted
    · exact hstarted

/-! ## Lines (R9, R21) -/

theorem firstLine (h : RatesFit s) (l x) : RatesFit (firstLine l x s) := by
  unfold Machine.firstLine
  exact .ite (((h.modLane l id).frameStart l x).setPrev l x) (h.of_lanes (State.count_lanes ..))

theorem laterLine (h : RatesFit s) (l x) : RatesFit (laterLine l x s) := by
  unfold Machine.laterLine
  split
  · exact .ite (.ite (h.of_lanes (State.bump_lanes ..))
      (.ite ((h.placeLine l _ x).setPrev l x) (h.of_lanes (State.count_lanes ..)))) (h.setPrev l x)
  · exact h.setPrev l x

theorem actOnLine (h : RatesFit s) (l x) : RatesFit (actOnLine l x s) := by
  unfold Machine.actOnLine
  dsimp only
  split
  · exact h
  · exact .ite (h.firstLine l x) (h.setPrev l x)
  · exact .ite (h.firstLine l x) (h.laterLine l x)
  · exact .ite ((h.modLane l id).firstLine l x) ((h.modLane l id).setPrev l x)
  · exact .ite ((h.endFrame l).setPrev l x) (h.laterLine l x)

theorem takeLine (h : RatesFit s) (l x) : RatesFit (takeLine l x s) :=
  (((h.settleStall l).modLane l id).actOnLine l x).maybeOff l

theorem pumpLines (l) : ∀ (n : Nat) {s : State}, RatesFit s → RatesFit (pumpLines l n s)
  | 0, _, h => h
  | n + 1, s, h => by
    unfold Machine.pumpLines
    refine .ite h ?_
    split
    · exact h
    · exact pumpLines l n (takeLine (h.of_lanes (lanes_setVideo ..)) l _)

theorem pump (h : RatesFit s) (l) : RatesFit (pump l s) := pumpLines l _ h

theorem linePlaced (h : RatesFit s) (l) : RatesFit (linePlaced l s) := by
  have hplaced : RatesFit (s.modLane l (fun c => { c with placing := none })) := h.modLane l id
  unfold Machine.linePlaced
  split
  · exact h
  · refine (RatesFit.maybeOff ?_ l).pump l
    split
    · exact .ite (hplaced.readyAfter l _) hplaced
    · exact hplaced

/-! ## The port (R3, R7 to R9) -/

theorem videoPacket (h : RatesFit s) (l p) : RatesFit (videoPacket l p s) := by
  have hseq (k : Nat) (v : SeqVerdict) (w : VideoIntake) : RatesFit (seqCounts k v (s.setVideo l w)) :=
    h.of_lanes (seqCounts_lanes ..)
  unfold Machine.videoPacket
  dsimp only
  have hfail (c : Fin 40) (e : EventKind) (k : Nat) (v : SeqVerdict) (w : VideoIntake) :
      RatesFit ((seqCounts k v (s.setVideo l w)).count c e l.val) := (hseq k v w).of_lanes (State.count_lanes ..)
  exact .ite (h.of_lanes (State.bump_lanes ..)) (.ite (hseq _ _ _) (.ite (hfail _ _ _ _ _) (.ite (hfail _ _ _ _ _)
    (pump ((hseq _ _ _).of_lanes (lanes_setVideo ..)) l))))

theorem frameReceived (h : RatesFit s) (f) : RatesFit (frameReceived f s) := by
  unfold Machine.frameReceived lanePacket
  split
  · split
    · exact h.videoPacket _ _
    · exact h.of_lanes (by simp)
    · exact h.of_lanes (by simp)
  · exact h.of_lanes (State.bump_lanes ..)

end RatesFit

end Sys2Proof.Machine
end

section
/-! SUPPORT. The owners' answers to the directives, and every command and step, keep the rate contexts within their
ranges. -/

namespace Sys2Proof.Machine

variable {s t : State}

/-! ## Directives that leave the rates alone -/

@[simp] theorem lanes_answer_ite (c : Prop) [Decidable c] (a b : Answer) :
    (if c then a else b).state.lanes = if c then a.state.lanes else b.state.lanes :=
  apply_ite (fun x : Answer => x.state.lanes) c a b

theorem lanes_actRdln (ws) (s : State) : (actRdln ws s).state.lanes = s.lanes := by unfold actRdln; split <;> simp
theorem lanes_actRsrv (ws) (s : State) : (actRsrv ws s).state.lanes = s.lanes := by simp [actRsrv]
theorem lanes_actPmrk (ws) (s : State) : (actPmrk ws s).state.lanes = s.lanes := by
  unfold actPmrk; dsimp only; split <;> simp
theorem lanes_actCeil (ws) (s : State) : (actCeil ws s).state.lanes = s.lanes := by simp [actCeil]
theorem lanes_actXpnt (ws) (s : State) : (actXpnt ws s).state.lanes = s.lanes := by unfold actXpnt; split <;> simp
theorem lanes_actBmst (ws) (s : State) : (actBmst ws s).state.lanes = s.lanes := by unfold actBmst; split <;> simp
theorem lanes_actSrce (ws) (s : State) : (actSrce ws s).state.lanes = s.lanes := by
  unfold actSrce; dsimp only; split <;> simp
theorem lanes_actHome (ws) (s : State) : (actHome ws s).state.lanes = s.lanes := by unfold actHome; split <;> simp
theorem lanes_actRamp (ws) (s : State) : (actRamp ws s).state.lanes = s.lanes := by simp [actRamp]
theorem lanes_actFlaw (ws) (s : State) : (actFlaw ws s).state.lanes = s.lanes := by simp [actFlaw]
theorem lanes_actRdmx (ws) (s : State) : (actRdmx ws s).state.lanes = s.lanes := by
  unfold actRdmx; dsimp only; split <;> simp
theorem lanes_actPath (ws) (s : State) : (actPath ws s).state.lanes = s.lanes := by unfold actPath; split <;> simp
theorem lanes_actPdis (ws) (s : State) : (actPdis ws s).state.lanes = s.lanes := by unfold actPdis; split <;> simp
theorem lanes_actRtrn (ws) (s : State) : (actRtrn ws s).state.lanes = s.lanes := by
  unfold actRtrn; dsimp only; split <;> simp
theorem lanes_actRdpt (ws) (s : State) : (actRdpt ws s).state.lanes = s.lanes := by unfold actRdpt; split <;> simp
theorem lanes_actMkin (ws) (s : State) : (actMkin ws s).state.lanes = s.lanes := by
  unfold actMkin
  extract_lets n tick
  split
  · split
    · rfl
    · split
      · rfl
      · split
        · simp
        · next hr => simp [lanes_makeRoom hr]
  · rfl
theorem lanes_actMkot (ws) (s : State) : (actMkot ws s).state.lanes = s.lanes := by
  unfold actMkot
  extract_lets id tick close
  have hclose : ∀ c, (close c).state.lanes = s.lanes := fun c => by simp [close]
  split
  · rfl
  · split
    · split <;> simp [hclose]
    · split <;> simp [hclose]
theorem lanes_actTmpl (ws) (s : State) : (actTmpl ws s).state.lanes = s.lanes := by
  unfold actTmpl; dsimp only; split <;> simp
theorem lanes_actSend (ws) (s : State) : (actSend ws s).state.lanes = s.lanes := by
  unfold actSend
  dsimp only
  split
  · rfl
  · split
    · rfl
    · split
      · rfl
      · split <;> simp [sendNow]
theorem lanes_actKeep (ws) (s : State) : (actKeep ws s).state.lanes = s.lanes := by
  unfold actKeep; dsimp only; split <;> simp
theorem lanes_actDisc (ws) (s : State) : (actDisc ws s).state.lanes = s.lanes := by unfold actDisc; split <;> simp
theorem lanes_actTagd (ws) (s : State) : (actTagd ws s).state.lanes = s.lanes := by
  unfold actTagd; dsimp only; split <;> simp
theorem lanes_actTagc (ws) (s : State) : (actTagc ws s).state.lanes = s.lanes := by
  unfold actTagc; dsimp only; split <;> [skip; split] <;> simp
theorem lanes_actRdcl (ws) (s : State) : (actRdcl ws s).state.lanes = s.lanes := by unfold actRdcl; split <;> simp
theorem lanes_actLscl (ws) (s : State) : (actLscl ws s).state.lanes = s.lanes := by simp [actLscl]
theorem lanes_actTcod (ws) (s : State) : (actTcod ws s).state.lanes = s.lanes := by simp [actTcod]
theorem lanes_actRefr (ws) (s : State) : (actRefr ws s).state.lanes = s.lanes := by unfold actRefr; split <;> simp
theorem lanes_actCont (ws) (s : State) : (actCont ws s).state.lanes = s.lanes := by unfold actCont; split <;> simp
theorem lanes_actScop (ws) (s : State) : (actScop ws s).state.lanes = s.lanes := by unfold actScop; split <;> simp
theorem lanes_actCntr (ws) (s : State) : (actCntr ws s).state.lanes = s.lanes := by
  unfold actCntr; dsimp only; split <;> simp

/-! ## Directives of the paths, the coders and the rate control -/

namespace RatesFit

theorem success (h : RatesFit s) : RatesFit (success s).state := h

theorem answer_ite {c : Prop} [Decidable c] {a b : Answer} (ha : RatesFit a.state) (hb : RatesFit b.state) :
    RatesFit (if c then a else b).state := by
  split
  · exact ha
  · exact hb

theorem actPena (h : RatesFit s) (ws) : RatesFit (actPena ws s).state := by
  unfold Machine.actPena
  split
  · exact h
  · exact answer_ite (success (h.of_rates (by simp))) h

theorem actPrst (h : RatesFit s) (ws) : RatesFit (actPrst ws s).state := by
  unfold Machine.actPrst
  split
  · exact h
  · exact answer_ite h (success (h.of_rates (by simp)))

theorem actLsta (h : RatesFit s) (ws) : RatesFit (actLsta ws s).state := by
  unfold Machine.actLsta
  split
  · exact h
  · next l _ => exact answer_ite (success (of_lanes (h.modLane l fun hr => hr.start) (lanes_setVideo ..))) h

theorem actLstp (h : RatesFit s) (ws) : RatesFit (actLstp ws s).state := by
  unfold Machine.actLstp
  split
  · exact h
  · next l _ => exact answer_ite h (success (maybeOff (h.modLane l fun hr => hr.withRate 0) l))

theorem actLfmt (h : RatesFit s) (ws) : RatesFit (actLfmt ws s).state := by
  unfold Machine.actLfmt
  dsimp only
  split
  · exact h
  · next l _ => exact answer_ite (success (h.of_rates (laneRates_modLane (fun c => by split <;> rfl) l s))) h

theorem actLkey (h : RatesFit s) (ws) : RatesFit (actLkey ws s).state := by
  unfold Machine.actLkey
  split
  · exact h
  · exact answer_ite h (success (h.of_rates (laneRates_requestKey ..)))

theorem actLshr (h : RatesFit s) (ws) : RatesFit (actLshr ws s).state := by
  unfold Machine.actLshr
  split
  · exact h
  · next l _ => exact answer_ite h (success (h.modRate l fun hr => { hr with }))

theorem settingsInRange_of_ratesOf {ws : List Word} {x : RateSettings} (h : ratesOf ws = some x) :
    settingsInRange x = true := by
  rw [ratesOf_eq] at h
  split at h
  · next hin => exact Option.some.inj h ▸ hin
  · cases h

theorem actLrat (h : RatesFit s) (ws) : RatesFit (actLrat ws s).state := by
  unfold Machine.actLrat
  split
  · next l x _ hx =>
    have hin := settingsInRange_of_ratesOf hx
    refine success (h.modLane l fun hr => ?_)
    dsimp only
    split
    · exact hr.load hin
    · exact hr.hold hin
  · exact h

theorem owner (n : DirName) (ws : List Word) (h : RatesFit s) : RatesFit (ownerOf n ws s).state := by
  cases n with
  | lsta => exact h.actLsta ws
  | lstp => exact h.actLstp ws
  | lfmt => exact h.actLfmt ws
  | lkey => exact h.actLkey ws
  | lrat => exact h.actLrat ws
  | lshr => exact h.actLshr ws
  | pena => exact h.actPena ws
  | prst => exact h.actPrst ws
  | rdln => exact h.of_lanes (lanes_actRdln ws s)
  | rsrv => exact h.of_lanes (lanes_actRsrv ws s)
  | pmrk => exact h.of_lanes (lanes_actPmrk ws s)
  | ceil => exact h.of_lanes (lanes_actCeil ws s)
  | xpnt => exact h.of_lanes (lanes_actXpnt ws s)
  | bmst => exact h.of_lanes (lanes_actBmst ws s)
  | srce => exact h.of_lanes (lanes_actSrce ws s)
  | home => exact h.of_lanes (lanes_actHome ws s)
  | ramp => exact h.of_lanes (lanes_actRamp ws s)
  | flaw => exact h.of_lanes (lanes_actFlaw ws s)
  | rdmx => exact h.of_lanes (lanes_actRdmx ws s)
  | path => exact h.of_lanes (lanes_actPath ws s)
  | pdis => exact h.of_lanes (lanes_actPdis ws s)
  | rtrn => exact h.of_lanes (lanes_actRtrn ws s)
  | rdpt => exact h.of_lanes (lanes_actRdpt ws s)
  | mkin => exact h.of_lanes (lanes_actMkin ws s)
  | mkot => exact h.of_lanes (lanes_actMkot ws s)
  | tmpl => exact h.of_lanes (lanes_actTmpl ws s)
  | send => exact h.of_lanes (lanes_actSend ws s)
  | keep => exact h.of_lanes (lanes_actKeep ws s)
  | disc => exact h.of_lanes (lanes_actDisc ws s)
  | tagd => exact h.of_lanes (lanes_actTagd ws s)
  | tagc => exact h.of_lanes (lanes_actTagc ws s)
  | rdcl => exact h.of_lanes (lanes_actRdcl ws s)
  | lscl => exact h.of_lanes (lanes_actLscl ws s)
  | tcod => exact h.of_lanes (lanes_actTcod ws s)
  | refr => exact h.of_lanes (lanes_actRefr ws s)
  | cont => exact h.of_lanes (lanes_actCont ws s)
  | scop => exact h.of_lanes (lanes_actScop ws s)
  | cntr => exact h.of_lanes (lanes_actCntr ws s)
  | take | rdmt | emsk | eclr | rstr | rdas | rdst | rdls | rdrf | stat => exact h.of_lanes rfl

/-! ## Every command -/

theorem takeFront {q : QueuedDirective} {act : State → Answer} (ha : ∀ u, RatesFit u → RatesFit (act u).state)
    (h : RatesFit s) : RatesFit (takeFront q act s) := by
  have hp : RatesFit (present q s) := h.of_lanes (lanes_present ..)
  exact .ite (of_lanes (ha _ (hp.of_lanes (State.withHandler_lanes ..))) (lanes_respond ..)) hp

theorem takeDirective (n : DirName) (d : Directive) (h : RatesFit s) :
    RatesFit (takeDirective n d (ownerOf n) s) := by
  refine takeFront (fun u hu => ?_) h
  unfold answer
  split
  · exact hu
  · exact owner n d.words hu

theorem kick (h : RatesFit s) : RatesFit (kick s) := h.of_lanes (lanes_kick s)

/-- R183, R37. -/
theorem resetBlocks (s : State) : RatesFit (resetBlocks s) := fun l => by
  have hlane : (Machine.resetBlocks s).lanes[l] = resetLane := by simp [Machine.resetBlocks]
  rw [hlane]
  exact .reset

theorem exec (c : Instr) (h : RatesFit s) (hx : exec c s = .next t) : RatesFit t := by
  have act : ∀ {f : State → State}, live s f = .next t → RatesFit (f s) → RatesFit t :=
    fun hx hf => (live_next hx).elim (· ▸ hf) (· ▸ h)
  have kicked : ∀ {f : State → State}, live s (fun u => Machine.kick (f u)) = .next t → RatesFit (f s) → RatesFit t :=
    fun hx hf => act hx hf.kick
  have stands : ∀ {f : State → State}, live s f = .next t → laneRates (f s).lanes = laneRates s.lanes → RatesFit t :=
    fun hx hf => act hx (h.of_rates hf)
  cases hd : directiveOf c with
  | some nd =>
    rw [exec_directive hd] at hx
    have htaken := takeDirective nd.1 nd.2 h
    exact act hx (.ite htaken.kick htaken)
  | none =>
    cases c with
    | powerOn straps => cases hx; exact resetBlocks _
    | resetLine => exact act hx (resetBlocks _)
    | restart => exact act hx (.ite (resetBlocks _) h)
    | frameReceived frame => exact kicked hx (h.frameReceived frame)
    | linePlaced lane => exact kicked hx (h.linePlaced lane)
    | sliceCoded lane coded =>
      replace hx : execSliceCoded lane coded s = .next t := hx
      unfold execSliceCoded at hx
      split at hx
      · cases hx
      · exact act hx (h.sliceCoded lane coded)
    | laneStall lane => exact act hx (h.laneStall lane)
    | frameTick => exact act hx h.frameTick
    | blockRequest => exact stands hx (by simp [blockRequest])
    | blockCompletion => exact stands hx (by simp)
    | transmitterFree => exact stands hx rfl
    | referencePulse stamp => exact stands hx (by simp)
    | lockingLoss => exact stands hx (by simp)
    | referenceLoss => exact stands hx (by simp)
    | contactRawChange input closed =>
      cases hx
      exact .ite (kick (h.of_lanes (lanes_contactRawChange ..))) (h.of_lanes (lanes_setContact ..))
    | filterRunsOut input => exact kicked hx (h.of_lanes (lanes_filterRunsOut ..))
    | carrierPresent path =>
      cases hx
      exact .ite (h.of_rates (laneRates_carrierPresent ..)) (h.of_lanes (lanes_modPath ..))
    | carrierLost path => cases hx; exact .ite (h.of_lanes (lanes_carrierLost ..)) (h.of_lanes (lanes_modPath ..))
    | offerPacer path => exact stands hx (by simp)
    | handshakeTimerExpiry path => exact stands hx (by simp)
    | holdTimerExpiry path => exact stands hx (by simp)
    | lineReady path => exact stands hx (by simp)
    | inboundCell path bytes => exact stands hx (by simp)
    | cellAssembly => exact kicked hx (h.of_lanes (lanes_cellAssembly s))
    | recordWriteEnd => exact stands hx (by simp)
    | eraseEnd => exact stands hx (by simp)
    | startUpScan => exact stands hx (by simp)
    | unknownDirective name d =>
      replace hx : execUnknownDirective name d s = .next t := hx
      unfold execUnknownDirective at hx
      split at hx
      · cases hx
      · exact act hx (takeFront (fun _ hu => hu) h)
    | powerLoss => exact stands hx (by simp)
    | _ => cases hd

end RatesFit

/-- Settles O60: a rate context changes by the acts of its own coder, by LRAT and LSHR, and at power-on, and each of them
leaves it within its ranges. -/
theorem stepsKeepRatesInRange : Obligations.StepsKeepRatesInRange := by
  intro s t hs hstep
  have h : RatesFit s := rateInRange_iff.1 hs
  rw [rateInRange_iff]
  unfold step at hstep
  split at hstep
  · next c rest _ => exact RatesFit.exec (s := s.withPending rest) c h hstep
  · cases hstep
    exact .ite (h.of_lanes (State.withRef_lanes ..)) h

end Sys2Proof.Machine
end

section
/-! SUPPORT. The allotments of a frame (R43, R44), and the settlement of O18. -/

namespace Sys2Proof.Machine

variable {a : Allotment} {i : Nat}

theorem sliceAllotment_first (h : i < a.t % a.n) : sliceAllotment a i = a.t / a.n + 1 := by rw [sliceAllotment, if_pos h]

theorem sliceAllotment_rest (h : a.t % a.n ≤ i) : sliceAllotment a i = a.t / a.n :=
  (congrArg (a.t / a.n + ·) (if_neg (Nat.not_lt.2 h))).trans (Nat.add_zero _)

theorem le_sliceAllotment (a : Allotment) (i : Nat) : a.t / a.n ≤ sliceAllotment a i := Nat.le_add_right ..

/-- R44: of the slices counted up to one, those among the first T mod N have a byte more. -/
theorem sum_sliceAllotment_below (a : Allotment) : ∀ m : Nat,
    ((List.range m).map (sliceAllotment a)).sum = m * (a.t / a.n) + min m (a.t % a.n)
  | 0 => by simp
  | m + 1 => by
    rw [List.range_succ, List.map_append, List.sum_append, sum_sliceAllotment_below a m, List.map_singleton,
      List.sum_singleton, Nat.succ_mul]
    rcases Nat.lt_or_ge m (a.t % a.n) with h | h
    · rw [sliceAllotment_first h]; omega
    · rw [sliceAllotment_rest h]; omega

/-- R44: the allotments of a frame's slices sum to its total. -/
theorem sum_sliceAllotment (h : 1 ≤ a.n) : ((List.range a.n).map (sliceAllotment a)).sum = a.t := by
  have hmod : a.t % a.n < a.n := Nat.mod_lt _ h
  rw [sum_sliceAllotment_below, Nat.min_eq_right hmod.le, Nat.div_add_mod]

/-- R43: a budget has sixty-four bytes for each slice. -/
theorem le_frameBudget {n : Nat} (h : n ≤ 68) (v fps : Nat) : n * 64 ≤ frameBudget v fps n := by
  rw [frameBudget_eq (by omega)]
  exact Nat.le_max_left ..

/-- Settles O18: the total has N times the quotient and as many bytes more as the remainder says. -/
theorem sliceAllotmentsSumToTotal : Obligations.SliceAllotmentsSumToTotal := by
  refine ⟨fun _ _ _ => rfl, fun a hn => ⟨fun _ => sliceAllotment_first, fun _ => sliceAllotment_rest,
    sum_sliceAllotment hn, fun tick kind fps r h68 hmade => ?_⟩⟩
  have hbudget := le_frameBudget h68 r.rate fps
  have hmost {x : Nat} (hx : x * a.n ≤ a.t) (i : Nat) : x ≤ sliceAllotment a i :=
    ((Nat.le_div_iff_mul_le hn).2 hx).trans (le_sliceAllotment a i)
  rw [makeAllotment_eq rfl] at hmade
  have ht : a.t = if kind = .key then frameBudget r.rate fps a.n * r.settings.kw else frameBudget r.rate fps a.n :=
    congrArg Allotment.t hmade
  constructor
  · rintro rfl
    refine hmost ?_
    rw [ht, if_neg nofun]
    omega
  · rintro rfl
    refine hmost ?_
    rw [ht, if_pos rfl]
    calc 64 * r.settings.kw * a.n = a.n * 64 * r.settings.kw := by ring
      _ ≤ frameBudget r.rate fps a.n * r.settings.kw := Nat.mul_le_mul_right _ hbudget

end Sys2Proof.Machine
end

section
/-! SUPPORT. The shares of the lanes at a frame start (R39 to R41), and the settlement of O19. -/

namespace Sys2Proof.Machine

variable {s : State} {l m : Lane} {on : Bool} {r : RateContext} {a : Allotment}

/-! ## Sums over a table -/

theorem toList_eq_map_finRange {α : Type} {n : Nat} (v : Vector α n) :
    v.toList = (List.finRange n).map (fun i => v[i]) := by
  refine List.ext_getElem (by simp) fun i _ _ => ?_
  simp

theorem sum_toList {α : Type} {n : Nat} (v : Vector α n) (f : α → Nat) :
    (v.toList.map f).sum = ((List.finRange n).map (fun i => f v[i])).sum := by
  rw [toList_eq_map_finRange, List.map_map]
  rfl

/-- Shares of a whole, each rounded down, sum to no more than the whole. -/
theorem sum_shares_le {α : Type} (v : Nat) (weight : α → Nat) (xs : List α) {w : Nat} (hw : (xs.map weight).sum = w) :
    (xs.map (fun x => if w = 0 then 0 else v * weight x / w)).sum ≤ v := by
  rcases Nat.eq_zero_or_pos w with h0 | hpos
  · simp [h0]
  · have hdiv : (xs.map (fun x => v * weight x / w)).sum * w ≤ v * w := by
      rw [← List.sum_map_mul_right, ← hw, ← List.sum_map_mul_left]
      exact List.sum_le_sum fun x _ => hw ▸ Nat.div_mul_le_self ..
    simp only [Nat.ne_of_gt hpos, if_false]
    exact Nat.le_of_mul_le_mul_right hdiv hpos

/-! ## The shares (R39 to R41) -/

/-- R39. -/
theorem sendRate_eq (s : State) : sendRate s =
    ((List.finRange 4).map (fun p => if s.paths[p].state = .up then s.paths[p].agreed.getD 0 else 0)).sum := by
  rw [sendRate, ← List.sum_eq_foldl]
  exact sum_toList s.paths _

/-- R40. -/
theorem pictureCapacity_le (s : State) : pictureCapacity s ≤ sendRate s := by
  unfold pictureCapacity
  omega

/-- R41 step 1: the lanes with the tally of the lane that starts. -/
def talliedLanes (l : Lane) (on : Bool) (s : State) : Vector LaneCoder 6 := s.lanes.set l (tallied on s.lanes[l])

theorem talliedLanes_self (l : Lane) (on : Bool) (s : State) : (talliedLanes l on s)[l] = tallied on s.lanes[l] := by
  rw [talliedLanes, lane_set, if_pos rfl]

theorem talliedLanes_other (h : m ≠ l) (on : Bool) (s : State) : (talliedLanes l on s)[m] = s.lanes[m] := by
  rw [talliedLanes, lane_set, if_neg h.symm]

theorem weightSum_eq (v : Vector LaneCoder 6) :
    weightSum v = ((List.finRange 6).map (fun m => laneWeight v[m])).sum := by
  rw [weightSum, ← List.sum_eq_foldl, sum_toList]

/-- R41 step 4. -/
theorem workShares_rate (l m : Lane) (on : Bool) (s : State) : (workShares l on s).lanes[m].rate.rate =
    laneShare (pictureCapacity s) (weightSum (talliedLanes l on s)) (talliedLanes l on s)[m] := by
  by_cases hm : m = l
  · subst hm
    simp only [workShares, State.modRate, modLane_eq, setLane_lane, State.withLanes_lanes, mapVec_getElem,
      talliedLanes_self]
    rfl
  · simp only [workShares, State.modRate, modLane_eq, setLane_other hm, State.withLanes_lanes, mapVec_getElem,
      talliedLanes_other hm]
    rfl

theorem workShares_tally (l : Lane) (on : Bool) (s : State) : (workShares l on s).lanes[l].rate.tallyOn = on := by
  rw [workShares_lane]

/-- R41 step 2: a lane's weight goes by its tally, which the lane that starts has just recorded. -/
theorem laneWeight_tallied (l m : Lane) (on : Bool) (s : State) : laneWeight (talliedLanes l on s)[m] =
    if s.lanes[m].state = .coding
      then (if (workShares l on s).lanes[m].rate.tallyOn = true then s.lanes[m].rate.wOn else s.lanes[m].rate.wOff)
      else 0 := by
  by_cases hm : m = l
  · subst hm
    rw [talliedLanes_self, workShares_tally]
    rfl
  · rw [talliedLanes_other hm, workShares_other hm]
    rfl

/-- R39 to R41: the capacity that the lane that starts records. -/
theorem workShares_capacity (l : Lane) (on : Bool) (s : State) : (workShares l on s).lanes[l].rate.capacity =
    ⟨sendRate s, audioNeed s, pictureCapacity s, weightSum (talliedLanes l on s)⟩ := by
  simp only [workShares, State.modRate, modLane_eq, setLane_lane]
  rfl

/-- R41: the shares move nothing else of a lane. -/
theorem workShares_stands (l m : Lane) (on : Bool) (s : State) :
    (workShares l on s).lanes[m].rate.fullness = s.lanes[m].rate.fullness ∧
    (workShares l on s).lanes[m].rate.q = s.lanes[m].rate.q ∧
    (workShares l on s).lanes[m].rate.allots = s.lanes[m].rate.allots ∧
    (workShares l on s).lanes[m].state = s.lanes[m].state := by
  by_cases hm : m = l
  · subst hm
    rw [workShares_lane]
    exact ⟨rfl, rfl, rfl, rfl⟩
  · rw [workShares_other hm]
    exact ⟨rfl, rfl, rfl, rfl⟩

/-! ## The bucket and the index (R46, R50) -/

/-- R46. -/
theorem rateAfterSlice_force (size al : Nat) (r : RateContext) :
    (rateAfterSlice size al r).force = true ↔ r.force = true ∨ r.settings.cb < r.fullness + size - al := by
  rw [rateAfterSlice_eq, ← decide_eq_true_iff (p := r.settings.cb < _), ← Bool.or_eq_true]
  rfl

/-- R50: the index after a slice, from the fullness that the bucket then has. -/
theorem rateAfterSlice_index {size al : Nat} {raw : Int} (h : r.settings.qmin ≤ r.settings.qmax)
    (hraw : raw = r.settings.qref + Int.tdiv (r.settings.gain *
      (((min r.settings.cb (r.fullness + size - al) : Nat) : Int) - ((r.settings.cb / 2 : Nat) : Int))) r.settings.cb) :
    ((rateAfterSlice size al r).q : Int) = max (r.settings.qmin : Int) (min (r.settings.qmax : Int)
      (max ((r.q : Int) - 4) (min ((r.q : Int) + 4) raw))) := by
  have hindex := nextIndex_eq (r := bucketed size al r) h
  rw [hraw]
  exact hindex

/-! ## The obligation -/

/-- Settles O19: the shares are floors of parts of V that add up to it, and the index is what two clamps make of its raw
value. -/
theorem ratesStayInRange : Obligations.RatesStayInRange := by
  refine ⟨?_, ?_, fun a r => ⟨fun h => by rw [addDebt, h], fun h => by rw [addDebt, h]⟩⟩
  · rintro s t l on k weight rfl rfl hweight
    have hw : weight = fun m => laneWeight (talliedLanes l on s)[m] :=
      funext fun m => (hweight m).trans (laneWeight_tallied l m on s).symm
    have hsum : weightSum (talliedLanes l on s) = ((List.finRange 6).map weight).sum := hw ▸ weightSum_eq _
    have hrate (m : Lane) : (workShares l on s).lanes[m].rate.rate = if weightSum (talliedLanes l on s) = 0 then 0
        else pictureCapacity s * weight m / weightSum (talliedLanes l on s) := by
      rw [workShares_rate, hw]
      rfl
    rw [workShares_capacity]
    refine ⟨?_, pictureCapacity_le s, sendRate_eq s, rfl, rfl, hsum, hrate, workShares_tally l on s, fun m hm => ?_,
      fun m => workShares_stands l m on s, rfl, rfl, rfl⟩
    · rw [sum_toList]
      simp only [hrate]
      exact sum_shares_le _ weight _ hsum.symm
    · rw [workShares_other hm]
      exact ⟨rfl, rfl⟩
  · intro r size al raw hrange hraw
    have hindex := rateAfterSlice_index hrange hraw
    have hgain : r.settings.gain = 0 → raw = r.settings.qref := fun h => by simp [hraw, h]
    refine ⟨bucketAfter_le .., rfl, hindex, ?_, ?_, ?_, ?_, rateAfterSlice_force size al r⟩
    · omega
    · omega
    · omega
    · intro h
      have := hgain h
      omega

end Sys2Proof.Machine
end

section
/-! SUPPORT. The bytes of a frame in the stacked DRAM (R53, R56): where a byte offset lies, and what a run of bytes reads as
after another has been written. -/

namespace Sys2Proof.Machine

variable {blocks : List Nat} {o : Nat} {m : Memory}

/-! ## Where a byte lies -/

theorem frameAddress_div (blocks : List Nat) (o : Nat) :
    frameAddress blocks o / 16384 = blocks.getD (o / 16384) 0 := by
  unfold frameAddress
  omega

theorem frameAddress_mod (blocks : List Nat) (o : Nat) : frameAddress blocks o % 16384 = o % 16384 := by
  unfold frameAddress
  omega

/-- R56: a byte lies in one of its frame's blocks. -/
theorem frameAddress_block (h : o < 16384 * blocks.length) : frameAddress blocks o / 16384 ∈ blocks := by
  have hlt : o / 16384 < blocks.length := by omega
  rw [frameAddress_div, List.getD_eq_getElem _ _ hlt]
  exact List.getElem_mem hlt

/-- R53: the bytes of a frame lie apart. -/
theorem frameAddress_inj (hn : blocks.Nodup) {p : Nat} (ho : o < 16384 * blocks.length) (hp : p < 16384 * blocks.length)
    (h : frameAddress blocks o = frameAddress blocks p) : o = p := by
  have hlo : o / 16384 < blocks.length := by omega
  have hlp : p / 16384 < blocks.length := by omega
  have hdiv : blocks[o / 16384] = blocks[p / 16384] := by
    rw [← List.getD_eq_getElem _ 0 hlo, ← List.getD_eq_getElem _ 0 hlp, ← frameAddress_div, ← frameAddress_div, h]
  have hblock : o / 16384 = p / 16384 := (List.Nodup.getElem_inj_iff hn).1 hdiv
  have hmod : o % 16384 = p % 16384 := by rw [← frameAddress_mod blocks o, ← frameAddress_mod blocks p, h]
  omega

/-- R60: blocks that join a frame at its end move no byte of it. -/
theorem frameAddress_append (h : o < 16384 * blocks.length) (more : List Nat) :
    frameAddress (blocks ++ more) o = frameAddress blocks o := by
  unfold frameAddress
  rw [List.getD_append _ _ _ _ (by omega)]

/-! ## Reading and writing -/

theorem readFrameBytes_eq (m : Memory) (blocks : List Nat) : ∀ n o : Nat, readFrameBytes m blocks o n =
    (List.range n).map (fun i => Memory.read dramDefault m (frameAddress blocks (o + i)))
  | 0, _ => rfl
  | n + 1, o => by
    rw [readFrameBytes, readFrameBytes_eq m blocks n (o + 1), List.range_succ_eq_map, List.map_cons, List.map_map]
    simp only [Function.comp_def, Nat.succ_eq_add_one, Nat.add_assoc, Nat.add_comm 1, Nat.add_zero]

/-- Two memories give a frame the same bytes where they read alike at the bytes' places. -/
theorem readFrameBytes_congr {m' : Memory} {blocks' : List Nat} {n : Nat}
    (h : ∀ i, i < n → Memory.read dramDefault m (frameAddress blocks (o + i)) =
      Memory.read dramDefault m' (frameAddress blocks' (o + i))) :
    readFrameBytes m blocks o n = readFrameBytes m' blocks' o n := by
  rw [readFrameBytes_eq, readFrameBytes_eq]
  exact List.map_congr_left fun i hi => h i (List.mem_range.1 hi)

/-- A byte outside the run that is written reads as before. -/
theorem read_writeFrameBytes_outside {a : Nat} : ∀ {bs : List Byte} {m : Memory} {o : Nat},
    Memory.wf dramDefault m = true → (∀ i, i < bs.length → a ≠ frameAddress blocks (o + i)) →
    Memory.read dramDefault (writeFrameBytes blocks m o bs) a = Memory.read dramDefault m a
  | [], _, _, _, _ => rfl
  | b :: bs, m, o, hm, ha => by
    have hrest : ∀ i, i < bs.length → a ≠ frameAddress blocks (o + 1 + i) := fun i hi => by
      rw [Nat.add_assoc, Nat.add_comm 1]
      exact ha (i + 1) (by simpa using hi)
    rw [writeFrameBytes, read_writeFrameBytes_outside (Memory.wf_write hm) hrest, Memory.read_write hm]
    exact if_neg (ha 0 (by simp))

/-- The run that is written reads back. -/
theorem readFrameBytes_writeFrameBytes (hn : blocks.Nodup) : ∀ {bs : List Byte} {m : Memory} {o : Nat},
    Memory.wf dramDefault m = true → o + bs.length ≤ 16384 * blocks.length →
    readFrameBytes (writeFrameBytes blocks m o bs) blocks o bs.length = bs
  | [], _, _, _, _ => rfl
  | b :: bs, m, o, hm, hfit => by
    rw [List.length_cons] at hfit
    have hapart : ∀ i, i < bs.length → frameAddress blocks o ≠ frameAddress blocks (o + 1 + i) := fun i hi e => by
      have := frameAddress_inj hn (by omega) (by omega) e
      omega
    rw [List.length_cons, writeFrameBytes, readFrameBytes, read_writeFrameBytes_outside (Memory.wf_write hm) hapart,
      Memory.read_write hm, if_pos rfl, readFrameBytes_writeFrameBytes hn (Memory.wf_write hm) (by omega)]

end Sys2Proof.Machine
end

section
/-! SUPPORT. What the store makes of a slice that is passed to it (R49, R60 to R62), case by case, and the settlement of
O21. -/

namespace Sys2Proof.Machine

variable {s : State} {st : CodedStore} {l m : Lane} {k : Word} {x : SliceResult} {r : FrameRecord}

/-! ## A record that changes -/

/-- The record that is changed is found again, changed. -/
theorem findRecord_updRecord {f : FrameRecord → FrameRecord} (ht : ∀ r, (f r).tick = r.tick)
    (hf : findRecord st l k = some r) : findRecord (updRecord st l k f) l k = some (f r) := by
  have htick : r.tick = k := by simpa using List.find?_some hf
  have hsame : ((fun r : FrameRecord => decide (r.tick = k)) ∘ fun r => if r.tick = k then f r else r) =
      fun r => decide (r.tick = k) := funext fun y => by
    simp only [Function.comp_apply]
    split
    · rw [ht]
    · rfl
  rw [findRecord] at hf
  rw [findRecord, updRecord, lane_set, if_pos rfl, List.find?_map, hsame, hf, Option.map_some, if_pos htick]

theorem updRecord_other (h : m ≠ l) (st : CodedStore) (k : Word) (f : FrameRecord → FrameRecord) :
    (updRecord st l k f).records[m] = st.records[m] := by
  rw [updRecord, lane_set, if_neg h.symm]

/-! ## The cases of a slice (R60, R61) -/

/-- R62: a COMPLETE record takes no slice. -/
theorem appendSlice_complete (hf : findRecord s.store l k = some r) (hc : r.complete = true) :
    appendSlice l k x s = s := by
  simp only [appendSlice, hf, hc, if_true]

/-- R60: a slice that is no CODED one, or any slice of a frame that is cut short. -/
theorem appendSlice_plain (hf : findRecord s.store l k = some r) (hc : r.complete = false)
    (h : x.kind ≠ .coded ∨ r.spoiled = true) : appendSlice l k x s = s.withStore (updRecord s.store l k
      (addPlain (if r.spoiled = true then replacedKind r.kind else x.kind))) := by
  simp only [appendSlice, hf, hc, Bool.false_eq_true, if_false]
  split
  · rfl
  · next hk =>
    have hs : r.spoiled = true := h.resolve_left hk
    rw [if_pos hs, if_pos hs]

/-- R49: a CODED slice beyond the frame cap. -/
theorem appendSlice_capped (hf : findRecord s.store l k = some r) (hc : r.complete = false) (hk : x.kind = .coded)
    (hs : r.spoiled = false) (hcap : 1048576 < r.bytes + x.size) : appendSlice l k x s =
      (s.withStore (updRecord s.store l k
        (fun y => { addPlain (replacedKind r.kind) y with capped := true, spoiled := true }))).bump ctrFramesCapped 1 := by
  simp [appendSlice, hf, hc, hk, hs, hcap]

/-- R61: a CODED slice that needs more blocks than are free. -/
theorem appendSlice_short (hf : findRecord s.store l k = some r) (hc : r.complete = false) (hk : x.kind = .coded)
    (hs : r.spoiled = false) (hcap : r.bytes + x.size ≤ 1048576)
    (hfree : s.store.free.length < blocksNeeded (r.bytes + x.size) - r.blocks.length) : appendSlice l k x s =
      (s.withStore (updRecord s.store l k (fun y => { addPlain (replacedKind r.kind) y with spoiled := true }))).count
        ctrFramesShort .storePressure l.val := by
  simp [appendSlice, hf, hc, hk, hs, Nat.not_lt.2 hcap, hfree]

/-- The store with a CODED slice at the end of a record, in the blocks that the record then has. -/
def storedSlice (l : Lane) (k : Word) (x : SliceResult) (r : FrameRecord) (blocks : List Nat) (n : Nat)
    (st : CodedStore) : CodedStore :=
  updRecord { st with free := st.free.drop n, dram := writeFrameBytes blocks st.dram r.bytes x.bytes } l k
    (fun y => { y with
      blocks := blocks, bytes := y.bytes + x.size, slices := y.slices ++ [⟨.coded, x.q, x.size, y.bytes⟩] })

/-- R60: a CODED slice that fits its frame and the free list. -/
theorem appendSlice_stored {n : Nat} (hf : findRecord s.store l k = some r) (hc : r.complete = false)
    (hk : x.kind = .coded) (hs : r.spoiled = false) (hcap : r.bytes + x.size ≤ 1048576)
    (hn : n = blocksNeeded (r.bytes + x.size) - r.blocks.length) (hfree : n ≤ s.store.free.length) :
    appendSlice l k x s = s.withStore (storedSlice l k x r (r.blocks ++ s.store.free.take n) n s.store) := by
  subst hn
  simp [appendSlice, storedSlice, hf, hc, hk, hs, Nat.not_lt.2 hcap, Nat.not_lt.2 hfree]

/-! ## A CODED slice in its place (R53, R56) -/

/-- R60: the blocks of a frame have room for its bytes. -/
theorem le_blocksNeeded (n : Nat) : n ≤ 16384 * blocksNeeded n := by
  unfold blocksNeeded ceilDiv
  omega

theorem blocksNeeded_mono {a b : Nat} (h : a ≤ b) : blocksNeeded a ≤ blocksNeeded b := by
  unfold blocksNeeded ceilDiv
  omega

/-- R60: with the blocks taken off the free list the record has those that its frame needs. -/
theorem blocks_have_room {n : Nat} (hlen : r.blocks.length = blocksNeeded r.bytes)
    (hn : n = blocksNeeded (r.bytes + x.size) - r.blocks.length) (hfree : n ≤ st.free.length) :
    r.bytes + x.size ≤ 16384 * (r.blocks ++ st.free.take n).length := by
  have hmono := blocksNeeded_mono (Nat.le_add_right r.bytes x.size)
  have hroom := le_blocksNeeded (r.bytes + x.size)
  have htotal : (r.blocks ++ st.free.take n).length = blocksNeeded (r.bytes + x.size) := by
    rw [List.length_append, List.length_take]
    omega
  rw [htotal]
  exact hroom

/-- R56: the bytes that a frame had read as before, in the blocks that it now has. -/
theorem readFrameBytes_earlier {mem : Memory} {blocks more : List Nat} {o : Nat} {bs : List Byte}
    (hm : Memory.wf dramDefault mem = true) (hn : (blocks ++ more).Nodup) (ho : o ≤ 16384 * blocks.length)
    (hfit : o + bs.length ≤ 16384 * (blocks ++ more).length) :
    readFrameBytes (writeFrameBytes (blocks ++ more) mem o bs) (blocks ++ more) 0 o = readFrameBytes mem blocks 0 o := by
  refine readFrameBytes_congr fun i hi => ?_
  rw [read_writeFrameBytes_outside hm, frameAddress_append (by omega)]
  intro j hj e
  have := frameAddress_inj hn (by omega) (by omega) e
  omega

/-- R53: the bytes of other blocks read as before. -/
theorem readFrameBytes_elsewhere {mem : Memory} {blocks other : List Nat} {o p n : Nat} {bs : List Byte}
    (hm : Memory.wf dramDefault mem = true) (hfit : o + bs.length ≤ 16384 * blocks.length)
    (hother : ∀ b ∈ other, b ∉ blocks) (hp : p + n ≤ 16384 * other.length) :
    readFrameBytes (writeFrameBytes blocks mem o bs) other p n = readFrameBytes mem other p n := by
  refine readFrameBytes_congr fun i hi => read_writeFrameBytes_outside hm fun j hj e => ?_
  refine hother _ (frameAddress_block (o := p + i) (by omega)) ?_
  rw [e]
  exact frameAddress_block (by omega)

/-! ## The completion of a record (R62) -/

theorem completeRecord_eq (hf : findRecord st l k = some r) : ∃ n, completeRecord st l k =
    { updRecord st l k (fun y => { y with complete := true }) with pinned := n } := by
  simp only [completeRecord, hf]
  split
  · exact ⟨_, rfl⟩
  · exact ⟨_, rfl⟩

/-! ## A slice that is replaced (R49, R60, R61) -/

/-- R49, R60, R61: what a record makes of a slice that does not go into the store as a CODED one: its entry, and whether the
frame is cut short from then on. -/
def plainEdit (x : SliceResult) (r : FrameRecord) (y : FrameRecord) : FrameRecord :=
  if x.kind ≠ .coded ∨ r.spoiled = true then addPlain (if r.spoiled = true then replacedKind r.kind else x.kind) y
  else if 1048576 < r.bytes + x.size then { addPlain (replacedKind r.kind) y with capped := true, spoiled := true }
  else { addPlain (replacedKind r.kind) y with spoiled := true }

theorem plainEdit_tick (x : SliceResult) (r y : FrameRecord) : (plainEdit x r y).tick = y.tick := by
  unfold plainEdit
  split
  · rfl
  · split <;> rfl

theorem plainEdit_plain (h : x.kind ≠ .coded ∨ r.spoiled = true) :
    plainEdit x r = addPlain (if r.spoiled = true then replacedKind r.kind else x.kind) := funext fun _ => if_pos h

theorem not_plain (hk : x.kind = .coded) (hs : r.spoiled = false) : ¬(x.kind ≠ .coded ∨ r.spoiled = true) := by
  simp [hk, hs]

theorem plainEdit_capped (hk : x.kind = .coded) (hs : r.spoiled = false) (hcap : 1048576 < r.bytes + x.size) :
    plainEdit x r = fun y => { addPlain (replacedKind r.kind) y with capped := true, spoiled := true } :=
  funext fun _ => (if_neg (not_plain hk hs)).trans (if_pos hcap)

theorem plainEdit_short (hk : x.kind = .coded) (hs : r.spoiled = false) (hcap : r.bytes + x.size ≤ 1048576) :
    plainEdit x r = fun y => { addPlain (replacedKind r.kind) y with spoiled := true } :=
  funext fun _ => (if_neg (not_plain hk hs)).trans (if_neg (Nat.not_lt.2 hcap))

theorem replacedKind_eq (k : FrameKind) : replacedKind k = if k = .key then .blank else .repeated := by cases k <;> rfl

/-! ## The obligation -/

/-- Settles O21: the bytes of a frame lie apart in blocks that no other frame has, so the write of a slice moves those
bytes alone; every other slice changes its record alone. -/
theorem appendedSliceReadsBack : Obligations.AppendedSliceReadsBack := by
  refine ⟨?_, ?_, ?_, fun _ _ _ _ _ => appendSlice_complete⟩
  · intro s l tick x r k hf hc hk hsize hs hcap hwf hnodup hlen hn hfree
    have hroom : r.bytes + x.bytes.length ≤ 16384 * (r.blocks ++ s.store.free.take k).length :=
      hsize ▸ blocks_have_room hlen hn hfree
    have htaken : (r.blocks ++ s.store.free.take k).Nodup :=
      hnodup.sublist ((List.take_sublist ..).append_left _)
    refine ⟨_, _, appendSlice_stored hf hc hk hs hcap hn hfree, findRecord_updRecord (fun _ => rfl) hf, rfl, rfl,
      ?_, ?_, ?_, fun blocks o n hother hfit => readFrameBytes_elsewhere hwf hroom hother hfit,
      fun m hm => updRecord_other hm _ _ _, rfl, rfl⟩
    · rw [hsize]
      exact readFrameBytes_writeFrameBytes htaken hwf hroom
    · exact readFrameBytes_earlier hwf htaken (hlen ▸ le_blocksNeeded r.bytes) hroom
    · rw [hsize]
      exact fun a ha => read_writeFrameBytes_outside hwf ha
  · rintro s l tick x r plain hf hc rfl
    have hfound := findRecord_updRecord (plainEdit_tick x r) hf
    rw [← replacedKind_eq]
    refine ⟨updRecord s.store l tick (plainEdit x r), fun h => ?_, fun hk hs hcap => ?_, fun hk hs hcap hfree => ?_,
      rfl, rfl, rfl, rfl, fun m hm => updRecord_other hm _ _ _⟩
    · rw [plainEdit_plain h] at hfound ⊢
      exact ⟨appendSlice_plain hf hc h, hfound⟩
    · rw [plainEdit_capped hk hs hcap] at hfound ⊢
      exact ⟨appendSlice_capped hf hc hk hs hcap, hfound⟩
    · rw [plainEdit_short hk hs hcap] at hfound ⊢
      exact ⟨appendSlice_short hf hc hk hs hcap hfree, hfound⟩
  · intro st l tick r hf
    obtain ⟨n, e⟩ := completeRecord_eq hf
    rw [e]
    exact ⟨findRecord_updRecord (f := fun y => { y with complete := true }) (fun _ => rfl) hf, rfl, rfl,
      fun m hm => updRecord_other hm _ _ _⟩

end Sys2Proof.Machine
end

section
/-! SUPPORT. The canonical form of the two memories through every command (R53, R56, R151, R188): a calm act keeps it, what
moves directives, responses and cells leaves both memories alone, and a reset, however the writer was cut, keeps the one
and empties the other. Settles O56. -/

namespace Sys2Proof.Machine

variable {s t u : State}

theorem canonical_iff : canonicalMemories s = true ↔
    Memory.wf dramDefault s.store.dram = true ∧ Memory.wf labelDefault s.labels.mem = true := by
  rw [canonicalMemories, Bool.and_eq_true]

theorem canonical_ite {c : Prop} [Decidable c] (ht : canonicalMemories t = true) (hu : canonicalMemories u = true) :
    canonicalMemories (if c then t else u) = true := by
  split
  · exact ht
  · exact hu

/-! ## Directives -/

theorem canonical_arrive (q : QueuedDirective) (hs : canonicalMemories s = true) :
    canonicalMemories (arrive q s) = true := by
  unfold arrive
  split
  · exact canonical_ite hs ((calm_count calm_refl _ _ _).mem hs)
  · exact canonical_ite ((calm_count calm_refl _ _ _).mem hs)
      (canonical_ite hs ((calm_count calm_refl _ _ _).mem hs))

theorem canonical_respond (side : Side) (r : Response) (hs : canonicalMemories s = true) :
    canonicalMemories (respond side r s) = true := by
  unfold respond
  split
  · exact canonical_ite hs hs
  · exact hs

theorem canonical_takeFront {q : QueuedDirective} {act : State → Answer} (ha : ∀ u, Calm u (act u).state)
    (hs : canonicalMemories s = true) : canonicalMemories (takeFront q act s) = true := by
  have hpresent : canonicalMemories (present q s) = true := canonical_ite hs (canonical_arrive q hs)
  have hhand : canonicalMemories ((present q s).withHandler
      { (present q s).handler with queue := (present q s).handler.queue.tail }) = true := hpresent
  exact canonical_ite (canonical_respond _ _ ((ha _).mem hhand)) hpresent

theorem canonical_takeDirective (n : DirName) (d : Directive) (hs : canonicalMemories s = true) :
    canonicalMemories (takeDirective n d (ownerOf n) s) = true := by
  refine canonical_takeFront (fun u => ?_) hs
  unfold answer
  split
  · exact calm_refl
  · exact calm_owner n d.words calm_refl

theorem canonical_kick (hs : canonicalMemories s = true) : canonicalMemories (kick s) = true :=
  (calm_kick calm_refl).mem hs

/-! ## The port, the line and the assembler -/

theorem canonical_mgmtPacket (p) (hs : canonicalMemories s = true) : canonicalMemories (mgmtPacket p s) = true := by
  have hseq : ∀ v q, Calm s (seqCounts 63 v (s.withPort { s.port with mgmt := q })) := by
    refine fun v q => calm_seqCounts ?_ 63 v
    exact calm_withPort calm_refl rfl rfl
  exact canonical_ite ((calm_count (hseq _ _) _ _ _).mem hs) (canonical_arrive _ ((hseq _ _).mem hs))

theorem canonical_frameReceived (f : EthFrame) (hs : canonicalMemories s = true) :
    canonicalMemories (frameReceived f s) = true := by
  have hbump : ∀ c n, canonicalMemories (s.bump c n) = true := fun c n => (calm_bump calm_refl c n).mem hs
  unfold frameReceived lanePacket
  split
  · split
    · exact (calm_videoPacket calm_refl _ _).mem hs
    · exact canonical_ite ((calm_audioPacket calm_refl _ _).mem hs) (hbump _ _)
    · exact canonical_ite (canonical_mgmtPacket _ hs) (hbump _ _)
  · exact hbump _ _

theorem canonical_transmitterFree (hs : canonicalMemories s = true) : canonicalMemories (transmitterFree s) = true :=
  hs

theorem canonical_checkedCell (p x) (hs : canonicalMemories s = true) : canonicalMemories (checkedCell p x s) = true := by
  have hbump : ∀ c n, canonicalMemories (s.bump c n) = true := fun c n => (calm_bump calm_refl c n).mem hs
  unfold checkedCell
  split
  · exact (calm_handshakeCell calm_refl _ _).mem hs
  · exact (calm_holdCell calm_refl _ _).mem hs
  · exact canonical_ite ((calm_returnCell calm_refl _ _).mem hs) (hbump _ _)
  · exact canonical_ite (canonical_ite (hbump _ _) (canonical_arrive _ hs)) (hbump _ _)
  · exact hs
  all_goals exact hbump _ _

theorem canonical_inboundCell (p bs) (hs : canonicalMemories s = true) : canonicalMemories (inboundCell p bs s) = true := by
  unfold inboundCell
  refine canonical_ite hs ?_
  split
  · exact (calm_count calm_refl _ _ _).mem hs
  · exact canonical_checkedCell _ _ hs

theorem canonical_serveControl (hs : canonicalMemories s = true) (hu : serveControl s = some u) :
    canonicalMemories u = true := by
  unfold serveControl at hu
  split at hu
  · obtain rfl := Option.some.inj hu
    exact (calm_placeCell calm_refl _ _).mem hs
  · cases hu

theorem canonical_cellAssembly (hs : canonicalMemories s = true) : canonicalMemories (cellAssembly s) = true := by
  have hset : canonicalMemories (settleRedispatch s) = true := (calm_settleRedispatch calm_refl).mem hs
  refine (calm_settleRedispatch calm_refl).mem ?_
  rcases firstServed_cases [serveControl, serveRedispatch, serveAudio, serveLabel, serveVideo, serveClip]
    (settleRedispatch s) with e | ⟨f, hf, e⟩
  · rwa [e]
  · simp only [List.mem_cons, List.not_mem_nil, or_false] at hf
    rcases hf with rfl | rfl | rfl | rfl | rfl | rfl
    · exact canonical_serveControl hset e
    · exact (calm_serveRedispatch calm_refl e).mem hset
    · exact (calm_serveAudio calm_refl e).mem hset
    · exact (calm_serveLabel calm_refl e).mem hset
    · exact (calm_serveVideo calm_refl e).mem hset
    · exact (calm_serveClip calm_refl e).mem hset

/-! ## Power (R183) -/

/-- The DRAM is empty after a reset, and the non-volatile memory is what it was. -/
theorem canonical_resetBlocks (hs : canonicalMemories s = true) : canonicalMemories (resetBlocks s) = true :=
  canonical_iff.2 ⟨rfl, (canonical_iff.1 hs).2⟩

theorem canonical_cut (hs : canonicalMemories s = true) : canonicalMemories (cutErasing (cutWriting s)) = true :=
  (calm_cutErasing (calm_cutWriting calm_refl)).mem hs

theorem canonical_powerOn (straps : Byte) (hs : canonicalMemories s = true) :
    canonicalMemories (powerOn straps s) = true := by
  have hcut : canonicalMemories (if s.power then powerLoss s else s) = true := canonical_ite (canonical_cut hs) hs
  exact canonical_resetBlocks (s := State.withStraps _ straps) hcut

theorem canonical_finishWriting (hs : canonicalMemories s = true) : canonicalMemories (finishWriting s) = true := by
  obtain ⟨hdram, hmem⟩ := canonical_iff.1 hs
  unfold finishWriting
  split
  · exact hs
  · exact canonical_iff.2 ⟨hdram, Memory.wf_writeRun hmem⟩

theorem canonical_restart (hs : canonicalMemories s = true) : canonicalMemories (restart s) = true :=
  canonical_ite (canonical_resetBlocks ((calm_cutErasing calm_refl).mem (canonical_finishWriting hs))) hs

/-! ## Every command -/

theorem canonical_exec (c : Instr) (hs : canonicalMemories s = true) (hx : exec c s = .next t) :
    canonicalMemories t = true := by
  have act : ∀ {f : State → State}, live s f = .next t → canonicalMemories (f s) = true → canonicalMemories t = true :=
    fun hx hf => (live_next hx).elim (· ▸ hf) (· ▸ hs)
  have calm : ∀ {f : State → State}, live s f = .next t → Calm s (f s) → canonicalMemories t = true :=
    fun hx hf => act hx (hf.mem hs)
  have kicked : ∀ {f : State → State}, live s (fun u => kick (f u)) = .next t → canonicalMemories (f s) = true →
      canonicalMemories t = true := fun hx hf => act hx (canonical_kick hf)
  cases hd : directiveOf c with
  | some nd =>
    rw [exec_directive hd] at hx
    have htaken := canonical_takeDirective nd.1 nd.2 hs
    exact act hx (canonical_ite (canonical_kick htaken) htaken)
  | none =>
    cases c with
    | powerOn straps => cases hx; exact canonical_powerOn straps hs
    | resetLine => exact act hx (canonical_resetBlocks (canonical_cut hs))
    | restart => exact act hx (canonical_restart hs)
    | frameReceived frame => exact kicked hx (canonical_frameReceived frame hs)
    | linePlaced lane => exact kicked hx ((calm_linePlaced calm_refl lane).mem hs)
    | sliceCoded lane coded =>
      replace hx : execSliceCoded lane coded s = .next t := hx
      unfold execSliceCoded at hx
      split at hx
      · cases hx
      · exact calm hx (calm_sliceCoded calm_refl _ _)
    | laneStall lane => exact calm hx (calm_laneStall calm_refl _)
    | blockRequest => exact calm hx (calm_blockRequest calm_refl)
    | blockCompletion => exact calm hx (calm_blockCompletion calm_refl)
    | transmitterFree => exact act hx (canonical_transmitterFree hs)
    | frameTick => exact calm hx (calm_frameTick calm_refl)
    | referencePulse stamp => exact calm hx (calm_referencePulse calm_refl _)
    | lockingLoss => exact calm hx (calm_lockingLoss calm_refl)
    | referenceLoss => exact calm hx (calm_referenceLoss calm_refl)
    | contactRawChange input closed =>
      cases hx
      exact canonical_ite (canonical_kick ((calm_contactRawChange calm_refl _ _).mem hs)) hs
    | filterRunsOut input => exact kicked hx ((calm_filterRunsOut calm_refl _).mem hs)
    | carrierPresent path => cases hx; exact canonical_ite ((calm_carrierPresent calm_refl _).mem hs) hs
    | carrierLost path => cases hx; exact canonical_ite ((calm_carrierLost calm_refl _).mem hs) hs
    | offerPacer path => exact calm hx (calm_offerPacer calm_refl _)
    | handshakeTimerExpiry path => exact calm hx (calm_handshakeTimerExpiry calm_refl _)
    | holdTimerExpiry path => exact calm hx (calm_holdTimerExpiry calm_refl _)
    | lineReady path => exact calm hx (calm_lineReady calm_refl _)
    | inboundCell path bytes => exact act hx (canonical_inboundCell _ _ hs)
    | cellAssembly => exact kicked hx (canonical_cellAssembly hs)
    | recordWriteEnd => exact calm hx (calm_recordWriteEnd calm_refl)
    | eraseEnd => exact calm hx (calm_eraseEnd calm_refl)
    | startUpScan => exact calm hx (calm_startUpScan calm_refl)
    | unknownDirective name d =>
      replace hx : execUnknownDirective name d s = .next t := hx
      unfold execUnknownDirective at hx
      split at hx
      · cases hx
      · exact act hx (canonical_takeFront (fun _ => calm_refl) hs)
    | powerLoss => exact act hx (canonical_cut hs)
    | _ => cases hd

/-- Settles O56: a write, an erase and a slice keep the canonical form of the memory they change; what moves directives
and cells changes neither memory; power-on empties the DRAM and keeps the other. -/
theorem stepsKeepCanonicalMemories : Obligations.StepsKeepCanonicalMemories := by
  intro s t hs hstep
  unfold step at hstep
  split at hstep
  · next c rest _ => exact canonical_exec (s := s.withPending rest) c hs hstep
  · cases hstep
    exact canonical_ite hs hs

end Sys2Proof.Machine
end

section
/-! SUPPORT. Pins and releases on the frame index (R67, R68): which records a request changes, what it adds to the pinned
blocks, and what it leaves alone. -/

namespace Sys2Proof.Machine

variable {st : CodedStore} {l m : Lane} {t k : Word} {r : FrameRecord}

/-! ## One record -/

theorem findRecord_tick (h : findRecord st l t = some r) : r.tick = t := by simpa using List.find?_some h

/-- After a change of one record every record is found as before, and that one changed. -/
theorem findRecord_updRecord_map {f : FrameRecord → FrameRecord} (ht : ∀ r, (f r).tick = r.tick) (m : Lane) (k : Word) :
    findRecord (updRecord st l t f) m k = (findRecord st m k).map (fun r => if (m, k) = (l, t) then f r else r) := by
  by_cases hm : m = l
  · subst hm
    have htick : ((fun r : FrameRecord => decide (r.tick = k)) ∘ fun r => if r.tick = t then f r else r) =
        fun r => decide (r.tick = k) := funext fun y => by
      rw [Function.comp_apply, apply_ite FrameRecord.tick, ht, ite_self]
    rw [findRecord, updRecord, lane_set, if_pos rfl, List.find?_map, htick]
    refine Option.map_congr fun r hr => ?_
    rw [findRecord_tick (st := st) (l := m) (t := k) hr]
    simp
  · rw [findRecord, updRecord_other hm]
    simp [findRecord, hm]

/-- What one pin adds to the pinned blocks (R67). -/
def pinGain (st : CodedStore) (n : Lane × Word) : Nat :=
  match findRecord st n.1 n.2 with
  | some r => if r.pins = 0 then pinWeight r else 0
  | none => 0

theorem pinGain_found (h : findRecord st l t = some r) : pinGain st (l, t) = if r.pins = 0 then pinWeight r else 0 := by
  rw [pinGain, h]

theorem pinOne_missing (h : findRecord st l t = none) : pinOne st l t = st := by rw [pinOne, h]

theorem pinOne_found (h : findRecord st l t = some r) : pinOne st l t =
    { updRecord st l t (fun r => { r with pins := r.pins + 1 }) with pinned := st.pinned + pinGain st (l, t) } := by
  rw [pinOne, h, pinGain_found h]
  dsimp only
  split <;> rfl

theorem pinOne_pinned (st : CodedStore) (l : Lane) (t : Word) : (pinOne st l t).pinned = st.pinned + pinGain st (l, t) := by
  cases h : findRecord st l t with
  | none => rw [pinOne_missing h, pinGain, h]; rfl
  | some r => rw [pinOne_found h]

theorem findRecord_pinOne (st : CodedStore) (l : Lane) (t : Word) (m : Lane) (k : Word) : findRecord (pinOne st l t) m k =
    (findRecord st m k).map (fun r => if (m, k) = (l, t) then { r with pins := r.pins + 1 } else r) := by
  cases h : findRecord st l t with
  | none =>
    rw [pinOne_missing h]
    refine Option.map_id'.symm.trans (Option.map_congr fun r hr => ?_)
    refine (if_neg fun he => ?_).symm
    cases he
    rw [h] at hr
    cases hr
  | some r =>
    rw [pinOne_found h]
    exact findRecord_updRecord_map (f := fun r => { r with pins := r.pins + 1 }) (fun _ => rfl) m k

theorem pinOne_free (st : CodedStore) (l : Lane) (t : Word) : (pinOne st l t).free = st.free := by
  unfold pinOne
  split
  · rfl
  · dsimp only; split <;> rfl

/-- R68: the release of a record takes its pin back, and with the last one the blocks that it counts. -/
theorem releaseOne_found (h : findRecord st l t = some r) (hp : r.pins ≠ 0) : releaseOne st l t =
    { updRecord st l t (fun r => { r with pins := r.pins - 1 }) with
      pinned := st.pinned - if r.pins = 1 then pinWeight r else 0 } := by
  rw [releaseOne, h]
  dsimp only
  rw [if_neg hp]
  split <;> rfl

theorem updRecord_updRecord {f g : FrameRecord → FrameRecord} (hf : ∀ r, (f r).tick = r.tick) (hg : ∀ r, g (f r) = r) :
    updRecord (updRecord st l t f) l t g = st := by
  have hback : ∀ r : FrameRecord, (if (if r.tick = t then f r else r).tick = t then g (if r.tick = t then f r else r)
      else if r.tick = t then f r else r) = r := fun r => by
    by_cases h : r.tick = t
    · rw [if_pos h, hf, if_pos h, hg]
    · rw [if_neg h, if_neg h]
  have hmap : (st.records[l].map (fun r => if r.tick = t then f r else r)).map (fun r => if r.tick = t then g r else r) =
      st.records[l] := by
    rw [List.map_map]
    exact (List.map_congr_left fun r _ => hback r).trans (List.map_id' _)
  have hset : (st.records.set l (st.records[l].map (fun r => if r.tick = t then f r else r))).set l
      st.records[l] = st.records := by
    rw [Vector.set_set]
    exact Vector.set_getElem_self ..
  rw [updRecord, updRecord]
  simp only [lane_set, if_true]
  rw [hmap, hset]

/-- R68: the release of what one pin has raised is the store before the pin. -/
theorem releaseOne_pinOne (h : findRecord st l t = some r) : releaseOne (pinOne st l t) l t = st := by
  have hfound : findRecord (pinOne st l t) l t = some { r with pins := r.pins + 1 } := by
    rw [findRecord_pinOne, h, Option.map_some, if_pos rfl]
  have hrecords := updRecord_updRecord (st := st) (l := l) (t := t) (f := fun r => { r with pins := r.pins + 1 })
    (g := fun r => { r with pins := r.pins - 1 }) (fun _ => rfl) (fun _ => rfl)
  have hgain : (if r.pins + 1 = 1 then pinWeight { r with pins := r.pins + 1 } else 0) = pinGain st (l, t) := by
    rw [pinGain_found h]
    simp [pinWeight]
  rw [releaseOne_found hfound (Nat.succ_ne_zero _), hgain, pinOne_pinned, Nat.add_sub_cancel, pinOne_found h]
  exact congrArg (fun v : CodedStore => { v with pinned := st.pinned }) hrecords

/-! ## A whole request -/

/-- The pins of a whole request, before the ceiling is looked at (R67). -/
def pinAll (st : CodedStore) (names : List (Lane × Word)) : CodedStore := names.foldl (fun st n => pinOne st n.1 n.2) st

theorem pinAll_cons (st : CodedStore) (n : Lane × Word) (names : List (Lane × Word)) :
    pinAll st (n :: names) = pinAll (pinOne st n.1 n.2) names := rfl

theorem pinAll_ceiling (st : CodedStore) (names : List (Lane × Word)) : (pinAll st names).ceiling = st.ceiling :=
  (pinAll_keeps names st).2.1

theorem pinAll_dram (st : CodedStore) (names : List (Lane × Word)) : (pinAll st names).dram = st.dram :=
  dram_fold _ (fun _ _ => dram_pinOne _ _ _) names st

theorem pinAll_free (names : List (Lane × Word)) : ∀ st : CodedStore, (pinAll st names).free = st.free := by
  induction names with
  | nil => exact fun _ => rfl
  | cons n names ih => exact fun st => (ih _).trans (pinOne_free st n.1 n.2)

theorem findRecord_pinAll {names : List (Lane × Word)} (hn : names.Nodup) (m : Lane) (k : Word) : ∀ st : CodedStore,
    findRecord (pinAll st names) m k =
      (findRecord st m k).map (fun r => { r with pins := if (m, k) ∈ names then r.pins + 1 else r.pins }) := by
  induction names with
  | nil => exact fun st => Option.map_id'.symm
  | cons n names ih =>
    intro st
    obtain ⟨hnew, hn⟩ := List.nodup_cons.1 hn
    rw [pinAll_cons, ih hn, findRecord_pinOne, Option.map_map]
    refine Option.map_congr fun r _ => ?_
    by_cases he : (m, k) = n
    · simp [he, hnew]
    · simp [he]

/-- A pin of another record leaves what this one would add as it is. -/
theorem pinGain_pinOne {n n' : Lane × Word} (h : n' ≠ n) (st : CodedStore) :
    pinGain (pinOne st n.1 n.2) n' = pinGain st n' := by
  have hfind : findRecord (pinOne st n.1 n.2) n'.1 n'.2 = findRecord st n'.1 n'.2 := by
    rw [findRecord_pinOne]
    simp [h]
  rw [pinGain, pinGain, hfind]

theorem pinAll_pinned {names : List (Lane × Word)} (hn : names.Nodup) : ∀ st : CodedStore,
    (pinAll st names).pinned = st.pinned + (names.map (pinGain st)).sum := by
  induction names with
  | nil => exact fun _ => rfl
  | cons n names ih =>
    intro st
    obtain ⟨hnew, hn⟩ := List.nodup_cons.1 hn
    have hrest : names.map (pinGain (pinOne st n.1 n.2)) = names.map (pinGain st) :=
      List.map_congr_left fun n' hn' => pinGain_pinOne (ne_of_mem_of_not_mem hn' hnew) st
    rw [pinAll_cons, ih hn, pinOne_pinned, hrest, List.map_cons, List.sum_cons, Nat.add_assoc]

theorem pinRequest_granted {names : List (Lane × Word)} (hf : ∀ n ∈ names, (findRecord st n.1 n.2).isSome = true)
    (hroom : names = [] ∨ (pinAll st names).pinned ≤ st.ceiling) : pinRequest st names = some (pinAll st names) := by
  rw [pinRequest, if_pos (List.all_eq_true.2 hf)]
  exact if_pos (by simpa [pinAll] using hroom)

theorem pinRequest_missing {names : List (Lane × Word)} (hf : ∃ n ∈ names, findRecord st n.1 n.2 = none) :
    pinRequest st names = none := by
  obtain ⟨n, hn, hnone⟩ := hf
  refine if_neg fun hall => ?_
  have := List.all_eq_true.1 hall n hn
  rw [hnone] at this
  cases this

theorem pinRequest_full {names : List (Lane × Word)} (hne : names ≠ []) (hfull : st.ceiling < (pinAll st names).pinned) :
    pinRequest st names = none := by
  have hno : ¬(names.isEmpty || decide ((pinAll st names).pinned ≤ st.ceiling)) = true := by simpa [hne] using hfull
  rw [pinRequest]
  split
  · exact if_neg hno
  · rfl

/-! ## Completion (R67) -/

/-- A pinned record that completes counts its blocks and no longer sixty-four. -/
theorem completeRecord_pinned (h : findRecord st l t = some r) (hc : r.complete = false) (hp : 0 < r.pins) :
    (completeRecord st l t).pinned = st.pinned - 64 + r.blocks.length := by
  rw [completeRecord, h]
  dsimp only
  rw [if_neg (by simp [hc, Nat.ne_of_gt hp])]
  rfl

theorem completeRecord_ceiling (st : CodedStore) (l : Lane) (t : Word) : (completeRecord st l t).ceiling = st.ceiling := by
  unfold completeRecord
  split
  · rfl
  · dsimp only; split <;> rfl

end Sys2Proof.Machine
end

section
/-! SUPPORT. The directive CEIL and the ceiling after a reset (R69, R183), and the settlement of O20. -/

namespace Sys2Proof.Machine

theorem actCeil_range {ws : List Word} (h : wordAt ws 0 < 1024 ∨ 16384 < wordAt ws 0) (u : State) :
    actCeil ws u = refuse u .range := if_pos (by simpa using h)

theorem actCeil_inRange {ws : List Word} (hlo : 1024 ≤ wordAt ws 0) (hhi : wordAt ws 0 ≤ 16384) (u : State) :
    actCeil ws u = if wordAt ws 0 < u.store.pinned then refuse u .state
      else reply (u.withStore { u.store with ceiling := wordAt ws 0 })
        (.words [BitVec.ofNat 32 (wordAt ws 0), BitVec.ofNat 32 u.store.pinned]) :=
  if_neg (by simpa using ⟨hlo, hhi⟩)

/-- R69, R183: the ceiling after POWER_ON, RESET_LINE and RESTART. -/
theorem reset_ceiling {c : Instr} {s : State} (h : (∃ straps, c = .powerOn straps) ∨ (c = .resetLine ∧ s.power = true) ∨
    (c = .restart ∧ s.power = true ∧ restartDue s = true)) : ∃ t, exec c s = .next t ∧ t.store.ceiling = 12288 := by
  rcases h with ⟨straps, rfl⟩ | ⟨rfl, hp⟩ | ⟨rfl, hp, hdue⟩
  · exact ⟨_, rfl, rfl⟩
  · exact ⟨_, live_on hp, rfl⟩
  · refine ⟨_, live_on hp, ?_⟩
    rw [restart, if_pos hdue]
    rfl

/-- Settles O20: a pin and a release are inverse changes of one record and of what it counts; a whole request adds up what
its single pins add, for none of them changes what another record counts. -/
theorem ceilingAndPins : Obligations.CeilingAndPins := by
  refine ⟨fun ws => beq_iff_eq, ?_, fun c s => reset_ceiling, ?_, ?_, fun st l t r => releaseOne_pinOne⟩
  · rintro d s u v h rfl
    refine ⟨fun hv => exec_refused h (actCeil_range hv u), fun hlo hhi hv => ?_, fun hlo hhi hv => ?_⟩
    · exact exec_refused h ((actCeil_inRange hlo hhi u).trans (if_pos hv))
    · exact exec_reply h ((actCeil_inRange hlo hhi u).trans (if_neg (Nat.not_lt.2 hv))) rfl
  · exact fun st l t r hf hc hp => ⟨completeRecord_pinned hf hc hp, completeRecord_ceiling st l t⟩
  · rintro st st1 names rfl
    refine ⟨pinRequest_granted, pinRequest_missing, pinRequest_full, fun hn => ⟨pinAll_pinned hn st, fun l t r hf => ?_⟩,
      pinAll_ceiling st names, pinAll_free names st, pinAll_dram st names⟩
    exact (findRecord_pinAll hn l t st).trans (congrArg _ hf)

end Sys2Proof.Machine
end

section
/-! SUPPORT. What the clip log's own acts do, said once (R131 to R133, R138, R139, R141, R146): the change of one clip, its
mark, the release of its pins, its closing and its queueing, and what each leaves alone. -/

namespace Sys2Proof.Machine

variable {s t u : State} {c : Clip} {id : Nat}

/-! ## One clip of the log -/

theorem findClip_id (h : findClip s id = some c) : c.id = id := by simpa using List.find?_some h

theorem findClip_congr (h : t.clips.clips = s.clips.clips) (i : Nat) : findClip t i = findClip s i := by
  rw [findClip, findClip, h]

/-- After a change of one clip every clip is found as before, and that one changed. -/
theorem findClip_modClip {f : Clip → Clip} (hf : ∀ c, (f c).id = c.id) (s : State) (id i : Nat) :
    findClip (s.modClip id f) i = (findClip s i).map (fun c => if i = id then f c else c) := by
  have hid : ((fun c : Clip => decide (c.id = i)) ∘ fun c => if c.id = id then f c else c) =
      fun c => decide (c.id = i) := funext fun c => by
    rw [Function.comp_apply, apply_ite Clip.id, hf, ite_self]
  rw [findClip, State.modClip, State.withClips_clips, List.find?_map, hid]
  refine Option.map_congr fun c hc => ?_
  rw [findClip_id (s := s) hc]

theorem findClip_modClip_self {f : Clip → Clip} (hf : ∀ c, (f c).id = c.id) (h : findClip s id = some c) :
    findClip (s.modClip id f) id = some (f c) := by
  rw [findClip_modClip hf, h, Option.map_some, if_pos rfl]

theorem findClip_modClip_other {f : Clip → Clip} (hf : ∀ c, (f c).id = c.id) (s : State) {i : Nat} (h : i ≠ id) :
    findClip (s.modClip id f) i = findClip s i := by
  rw [findClip_modClip hf]
  simp [h]

theorem modClip_modClip {f g : Clip → Clip} (hf : ∀ c, (f c).id = c.id) (s : State) (id : Nat) :
    (s.modClip id f).modClip id g = s.modClip id (fun c => g (f c)) := by
  have hlist : (s.clips.clips.map fun c => if c.id = id then f c else c).map (fun c => if c.id = id then g c else c) =
      s.clips.clips.map fun c => if c.id = id then g (f c) else c := by
    rw [List.map_map]
    refine List.map_congr_left fun c _ => ?_
    rw [Function.comp_apply]
    by_cases h : c.id = id
    · rw [if_pos h, if_pos h, hf, if_pos h]
    · rw [if_neg h, if_neg h, if_neg h]
  exact congrArg (fun l => s.withClips { s.clips with clips := l }) hlist

/-! ## Marks (R133) -/

/-- The store-dirty list and the stale-label list, each with its overflow flag. -/
def marks (s : State) : (List Nat × Bool) × List Nat × Bool :=
  ((s.clips.dirty, s.clips.dirtyOverflow), s.asm.staleLabels, s.clips.staleOverflow)

/-- A marking list, with its overflow flag, after an id is marked on it. -/
def listMarked (id : Nat) (l : List Nat × Bool) : List Nat × Bool :=
  if l.1.contains id then l else if l.1.length < 256 then (l.1 ++ [id], l.2) else (l.1, true)

theorem listMarked_twice (id : Nat) (l : List Nat × Bool) : listMarked id (listMarked id l) = listMarked id l := by
  unfold listMarked
  by_cases hin : l.1.contains id
  · rw [if_pos hin, if_pos hin]
  · by_cases hroom : l.1.length < 256
    · rw [if_neg hin, if_pos hroom, if_pos (by simp)]
    · rw [if_neg hin, if_neg hroom, if_neg hin, if_neg hroom]

theorem mem_listMarked {l : List Nat × Bool} (h : l.1.length < 256) (id : Nat) : id ∈ (listMarked id l).1 := by
  unfold listMarked
  split
  · next hin => simpa using hin
  · exact List.mem_append_right _ (List.mem_singleton_self id)

/-- What a mark changes: the two lists and their flags. -/
theorem mark_eq (id : Nat) (s : State) : mark id s =
    (s.withClips { s.clips with
      dirty := (listMarked id (marks s).1).1, dirtyOverflow := (listMarked id (marks s).1).2
      staleOverflow := (listMarked id (marks s).2).2 }).withAsm
        { s.asm with staleLabels := (listMarked id (marks s).2).1 } := by
  have hdirty : markDirty id s.clips = { s.clips with
      dirty := (listMarked id (marks s).1).1, dirtyOverflow := (listMarked id (marks s).1).2 } := by
    unfold markDirty listMarked marks
    split
    · rfl
    · split <;> rfl
  rw [mark, hdirty]
  rcases markStale_cases id (s.withClips { s.clips with
      dirty := (listMarked id (marks s).1).1, dirtyOverflow := (listMarked id (marks s).1).2 })
    with ⟨h, e⟩ | ⟨h, hl, e⟩ | ⟨h, hl, e⟩
  all_goals rw [State.withClips_asm] at h
  · have hstale : listMarked id (marks s).2 = (marks s).2 := if_pos (by simpa [marks] using h)
    rw [e, hstale]
    rfl
  · have hstale : listMarked id (marks s).2 = (s.asm.staleLabels ++ [id], s.clips.staleOverflow) :=
      (if_neg (by simpa [marks] using h)).trans (if_pos hl)
    rw [e, hstale]
    rfl
  · have hstale : listMarked id (marks s).2 = (s.asm.staleLabels, true) :=
      (if_neg (by simpa [marks] using h)).trans (if_neg (Nat.not_lt.2 hl))
    rw [e, hstale]
    rfl

theorem marks_mark (id : Nat) (s : State) :
    marks (mark id s) = (listMarked id (marks s).1, listMarked id (marks s).2) := by
  rw [mark_eq]
  rfl

theorem marks_mark_congr (h : marks t = marks s) (id : Nat) : marks (mark id t) = marks (mark id s) := by
  rw [marks_mark, marks_mark, h]

theorem marks_mark_mark (id : Nat) (s : State) : marks (mark id (mark id s)) = marks (mark id s) := by
  rw [marks_mark, marks_mark, listMarked_twice, listMarked_twice]

theorem marked_iff {ids : List Nat} : marked ids u t ↔ marks t = marks (ids.foldl (fun s id => mark id s) u) := by
  simp only [marked, marks, Prod.mk.injEq]
  exact ⟨fun ⟨hd, hdo, hs, hso⟩ => ⟨⟨hd, hdo⟩, hs, hso⟩, fun ⟨⟨hd, hdo⟩, hs, hso⟩ => ⟨hd, hdo, hs, hso⟩⟩

theorem marked_none (h : marks t = marks u) : marked [] u t := marked_iff.2 h

/-- The clip is marked after acts that mark none. -/
theorem marked_one (h : marks t = marks u) (id : Nat) : marked [id] u (mark id t) :=
  marked_iff.2 (marks_mark_congr h id)

theorem marked_one_from {v : State} (h : marks v = marks u) (hm : marked [id] v t) : marked [id] u t :=
  marked_iff.2 ((marked_iff.1 hm).trans (marks_mark_congr h id))

@[simp] theorem marks_modClip (s : State) (id : Nat) (f : Clip → Clip) : marks (s.modClip id f) = marks s := rfl

theorem mem_dirty_mark (id : Nat) (h : s.clips.dirty.length < 256) : id ∈ (mark id s).clips.dirty := by
  rw [mark_eq]
  exact mem_listMarked (l := (marks s).1) h id

theorem clips_mark (id : Nat) (s : State) : (mark id s).clips.clips = s.clips.clips := by rw [mark_eq]; rfl

@[simp] theorem queue_mark (id : Nat) (s : State) : (mark id s).clips.queue = s.clips.queue := by rw [mark_eq]; rfl

@[simp] theorem store_mark (id : Nat) (s : State) : (mark id s).store = s.store := by rw [mark_eq]; rfl

@[simp] theorem findClip_mark (id : Nat) (s : State) (i : Nat) : findClip (mark id s) i = findClip s i :=
  findClip_congr (clips_mark id s) i

/-! ## The other blocks -/

/-- An act of the clip log that leaves the handler, the lane coders, the mixer, the paths, the reference unit, the engines and
the label store alone. -/
structure LogActs (s t : State) : Prop where
  handler : t.handler = s.handler
  lanes : t.lanes = s.lanes
  mixer : t.mixer = s.mixer
  paths : t.paths = s.paths
  ref : t.ref = s.ref
  engines : t.engines = s.engines
  labels : t.labels = s.labels

theorem LogActs.refl (s : State) : LogActs s s := ⟨rfl, rfl, rfl, rfl, rfl, rfl, rfl⟩

theorem LogActs.trans (h : LogActs s t) (g : LogActs t u) : LogActs s u :=
  ⟨g.handler.trans h.handler, g.lanes.trans h.lanes, g.mixer.trans h.mixer, g.paths.trans h.paths, g.ref.trans h.ref,
    g.engines.trans h.engines, g.labels.trans h.labels⟩

theorem logActs_mark (id : Nat) (s : State) : LogActs s (mark id s) := by
  rw [mark_eq]
  exact ⟨rfl, rfl, rfl, rfl, rfl, rfl, rfl⟩

/-! ## Closing (R68, R138, R139) -/

/-- A clip as its closing leaves it, before send-on-close is looked at. -/
def closedClip (out : Word) (ceil : Bool) (c : Clip) : Clip :=
  { c with
    state := .closed, outTick := some out, lanes := pendingToNone c.lanes, ceilClosed := c.ceilClosed || ceil
    pins := c.pins.filter (fun p => !later p.2 out) }

/-- The machine with the clip closed and its pins beyond the out tick released, before send-on-close is looked at. -/
def shut (c : Clip) (out : Word) (ceil : Bool) (s : State) : State :=
  (s.withStore (releaseRequest s.store (c.pins.filter (fun p => later p.2 out)))).modClip c.id (closedClip out ceil)

theorem closeClip_eq (h : findClip s c.id = some c) (out : Word) (ceil : Bool) : closeClip c.id out ceil s =
    if c.sendOnClose = true then enterQueued c.id (shut c out ceil s) else shut c out ceil s := by
  have hfound : findClip (s.modClip c.id (fun c => { c with
      state := .closed, outTick := some out, lanes := pendingToNone c.lanes, ceilClosed := c.ceilClosed || ceil }))
      c.id = some { c with state := .closed, outTick := some out, lanes := pendingToNone c.lanes
                           ceilClosed := c.ceilClosed || ceil } := findClip_modClip_self (by exact fun _ => rfl) h
  have hshut : releasePins c.id (fun p => later p.2 out) (s.modClip c.id (fun c => { c with
      state := .closed, outTick := some out, lanes := pendingToNone c.lanes, ceilClosed := c.ceilClosed || ceil })) =
      shut c out ceil s := by
    rw [releasePins, hfound]
    exact modClip_modClip (by exact fun _ => rfl)
      (s.withStore (releaseRequest s.store (c.pins.filter (fun p => later p.2 out)))) c.id
  rw [closeClip, h]
  dsimp only
  rw [hshut]

theorem findClip_shut (h : findClip s c.id = some c) (out : Word) (ceil : Bool) :
    findClip (shut c out ceil s) c.id = some (closedClip out ceil c) :=
  findClip_modClip_self (s := s.withStore _) (by exact fun _ => rfl) h

theorem findClip_shut_other (out : Word) (ceil : Bool) {i : Nat} (h : i ≠ c.id) :
    findClip (shut c out ceil s) i = findClip s i :=
  findClip_modClip_other (by exact fun _ => rfl) (s.withStore _) h

theorem logActs_shut (c : Clip) (out : Word) (ceil : Bool) (s : State) : LogActs s (shut c out ceil s) :=
  ⟨rfl, rfl, rfl, rfl, rfl, rfl, rfl⟩

theorem marks_shut (c : Clip) (out : Word) (ceil : Bool) (s : State) : marks (shut c out ceil s) = marks s := rfl

theorem closedClip_false (out : Word) (c : Clip) : closedClip out false c =
    { c with
      state := .closed, outTick := some out
      lanes := c.lanes.map (fun p => if p.2 = .pending then (p.1, .none) else p)
      pins := c.pins.filter (fun p => !later p.2 out) } := by
  rw [closedClip, Bool.or_false]
  rfl

theorem closedClip_true (out : Word) (c : Clip) : closedClip out true c =
    { c with
      state := .closed, outTick := some out, ceilClosed := true
      lanes := c.lanes.map (fun p => if p.2 = .pending then (p.1, .none) else p)
      pins := c.pins.filter (fun p => !later p.2 out) } := by
  rw [closedClip, Bool.or_true]
  rfl

/-! ## Queueing (R141, R146) -/

theorem length_sortBy {α : Type} (before : α → α → Bool) (l : List α) : (sortBy before l).length = l.length := by
  have hfold : ∀ (l acc : List α), (l.foldl (fun acc a => insertSorted before a acc) acc).length =
      acc.length + l.length := by
    intro l
    induction l with
    | nil => exact fun _ => rfl
    | cons a l ih =>
      intro acc
      rw [List.foldl_cons, ih, length_insertSorted, List.length_cons]
      omega
  exact (hfold l []).trans (Nat.zero_add _)

/-- R148: without KEYS mode the walk is over all of the clip's records. -/
theorem length_walkOf_all (s : State) (c : Clip) : (walkOf s c false).length = c.pins.length := length_sortBy ..

theorem joinQueue_empty (h : s.clips.queue = []) (id prio : Nat) : joinQueue s id prio = [id] := by
  rw [joinQueue, h]
  rfl

/-- A clip that joins an empty transfer queue. -/
structure Queued (c : Clip) (s t : State) : Prop where
  clip : findClip t c.id = some { c with state := .queued, framesTotal := (walkOf s c c.keys).length }
  queue : t.clips.queue = [c.id]
  store : t.store = s.store
  marks : marks t = marks s
  acts : LogActs s t

theorem queued_enterQueued (h : findClip s c.id = some c) (hq : s.clips.queue = []) :
    Queued c s (enterQueued c.id s) := by
  have he : enterQueued c.id s = (s.withClips { s.clips with queue := [c.id] }).modClip c.id (fun x =>
      { x with state := .queued, framesTotal := (walkOf s x x.keys).length }) := by
    rw [enterQueued, h, ← joinQueue_empty hq c.id c.priority]
  rw [he]
  exact ⟨findClip_modClip_self (s := s.withClips _) (by exact fun _ => rfl) h, rfl, rfl, rfl, rfl,
    rfl, rfl, rfl, rfl, rfl, rfl⟩

/-! ## The engines (R146) -/

theorem serveEngines_empty (h : s.clips.queue = []) : serveEngines s = s := by
  rw [serveEngines, h]
  rfl

theorem serveEngines_busy (h : ∀ e : EngineNo, s.engines[e].isSome = true) : serveEngines s = s := by
  have hbusy : ∀ e : EngineNo, ¬s.engines[e].isNone = true := fun e => by
    have := h e
    cases he : s.engines[e] <;> simp_all
  rw [serveEngines]
  cases hq : s.clips.queue with
  | nil => rfl
  | cons id rest =>
    rw [List.length_cons, runEngines, hq]
    dsimp only
    rw [if_neg (hbusy 0), if_neg (hbusy 1)]

/-! ## A closing with its mark (R133, R138, R139) -/

theorem mark_latch (id : Nat) (s : State) (k : EventKind) (n : Nat) :
    mark id (s.latch k n) = (mark id s).latch k n := by
  rw [mark_eq, mark_eq]
  rfl

/-- A closing that asks for no sending, with its mark. -/
structure Closed (c : Clip) (out : Word) (ceil : Bool) (s t : State) : Prop where
  clip : findClip t c.id = some (closedClip out ceil c)
  others : ∀ i, i ≠ c.id → findClip t i = findClip s i
  queue : t.clips.queue = s.clips.queue
  store : t.store = releaseRequest s.store (c.pins.filter (fun p => later p.2 out))
  marked : marked [c.id] s t
  dirty : s.clips.dirty.length < 256 → c.id ∈ t.clips.dirty
  acts : LogActs s t

/-- A closing with send-on-close while no clip waits for an engine, with its mark. -/
structure ClosedAndQueued (c : Clip) (out : Word) (ceil : Bool) (s t : State) : Prop where
  clip : ∃ n, findClip t c.id = some { closedClip out ceil c with state := .queued, framesTotal := n }
  queue : t.clips.queue = [c.id]
  store : t.store = releaseRequest s.store (c.pins.filter (fun p => later p.2 out))
  marked : marked [c.id] s t
  acts : LogActs s t

theorem closed_mark (h : findClip s c.id = some c) (hs : c.sendOnClose = false) (out : Word) (ceil : Bool) :
    Closed c out ceil s (mark c.id (closeClip c.id out ceil s)) := by
  rw [closeClip_eq h, if_neg (by simp [hs])]
  exact {
    clip := (findClip_mark ..).trans (findClip_shut h out ceil)
    others := fun i hi => (findClip_mark ..).trans (findClip_shut_other out ceil hi)
    queue := queue_mark ..
    store := store_mark ..
    marked := marked_one (marks_shut c out ceil s) c.id
    dirty := mem_dirty_mark (s := shut c out ceil s) c.id
    acts := (logActs_shut c out ceil s).trans (logActs_mark ..) }

theorem closedAndQueued_mark (h : findClip s c.id = some c) (hs : c.sendOnClose = true) (hq : s.clips.queue = [])
    (out : Word) (ceil : Bool) : ClosedAndQueued c out ceil s (mark c.id (closeClip c.id out ceil s)) := by
  have hqueued : Queued (closedClip out ceil c) (shut c out ceil s) (enterQueued c.id (shut c out ceil s)) :=
    queued_enterQueued (findClip_shut h out ceil) hq
  rw [closeClip_eq h, if_pos hs]
  exact {
    clip := ⟨_, (findClip_mark ..).trans hqueued.clip⟩
    queue := (queue_mark ..).trans hqueued.queue
    store := (store_mark ..).trans hqueued.store
    marked := marked_one (hqueued.marks.trans (marks_shut c out ceil s)) c.id
    acts := ((logActs_shut c out ceil s).trans hqueued.acts).trans (logActs_mark ..) }

/-- R146: with no clip waiting a closing that asks for no sending leaves the engines nothing to take. -/
theorem closed_serve (h : findClip s c.id = some c) (hs : c.sendOnClose = false) (hq : s.clips.queue = [])
    (out : Word) (ceil : Bool) : Closed c out ceil s (serveEngines (mark c.id (closeClip c.id out ceil s))) := by
  have hclosed := closed_mark h hs out ceil
  rwa [serveEngines_empty (hclosed.queue.trans hq)]

/-- R146: engines at work take nothing. -/
theorem closedAndQueued_serve (h : findClip s c.id = some c) (hs : c.sendOnClose = true) (hq : s.clips.queue = [])
    (hbusy : ∀ e : EngineNo, s.engines[e].isSome = true) (out : Word) (ceil : Bool) :
    ClosedAndQueued c out ceil s (serveEngines (mark c.id (closeClip c.id out ceil s))) := by
  have hqueued := closedAndQueued_mark h hs hq out ceil
  rwa [serveEngines_busy (by rwa [hqueued.acts.engines])]

end Sys2Proof.Machine
end

section
/-! SUPPORT. A new record and the OPEN clips (R138), the place of a clip in the transfer queue (R146), and the settlement of
O44. -/

namespace Sys2Proof.Machine

variable {s : State} {c : Clip} {l : Lane} {r : FrameRecord} {st : CodedStore}

/-! ## The clips that want the record -/

theorem wants_iff (c : Clip) (l : Lane) (kind : FrameKind) : wants c l kind = true ↔ c.state = .opened ∧
    ∃ q ∈ c.lanes, q.1 = l ∧ ((∃ t, q.2 = .at t) ∨ (q.2 = .pending ∧ kind = .key)) := by
  simp only [wants, Bool.and_eq_true, decide_eq_true_eq, List.any_eq_true]
  refine and_congr_right fun _ => exists_congr fun q => and_congr_right fun _ => and_congr_right fun _ => ?_
  cases hq : q.2 <;> simp

theorem newRecord_eq {t : Word} (h : findRecord s.store l t = some r) : newRecord l t s =
    ((s.clips.clips.filter (fun c => wants c l r.kind)).map Clip.id).foldl (fun s id => weighRecord l r id s) s := by
  rw [newRecord, h]

/-- R138: the lane stands in the clip's list as PENDING. -/
def waits (c : Clip) (l : Lane) : Bool := c.lanes.any (fun p => decide (p.1 = l) && decide (p.2 = .pending))

theorem waits_iff : waits c l = true ↔ (l, InPoint.pending) ∈ c.lanes := by
  simp only [waits, List.any_eq_true, Bool.and_eq_true, decide_eq_true_eq]
  exact ⟨fun ⟨q, hq, hl, hp⟩ => by rwa [← hl, ← hp], fun h => ⟨_, h, rfl, rfl⟩⟩

theorem waits_eq {pends : Bool} (h : pends = true ↔ (l, InPoint.pending) ∈ c.lanes) : waits c l = pends :=
  Bool.eq_iff_iff.2 (waits_iff.trans h.symm)

/-! ## A request that is granted -/

/-- The clip with the record among its own. -/
def joined (l : Lane) (r : FrameRecord) (c : Clip) : Clip := { c with pins := c.pins ++ [(l, r.tick)] }

/-- The clip with the record as the lane's in-point. -/
def pointed (l : Lane) (r : FrameRecord) (c : Clip) : Clip :=
  { c with
    lanes := c.lanes.map (fun p => if p.1 = l then (l, .at r.tick) else p)
    inTc := match c.inTc with | some t => some t | none => some r.timecode }

theorem weighRecord_joins (h : findClip s c.id = some c) (hp : pinRequest s.store [(l, r.tick)] = some st)
    (hw : waits c l = false) : weighRecord l r c.id s = (s.withStore st).modClip c.id (joined l r) := by
  rw [weighRecord, h]
  dsimp only
  rw [hp]
  exact if_neg (by rw [← waits, hw]; exact Bool.false_ne_true)

theorem weighRecord_points (h : findClip s c.id = some c) (hp : pinRequest s.store [(l, r.tick)] = some st)
    (hw : waits c l = true) :
    weighRecord l r c.id s = mark c.id ((s.withStore st).modClip c.id (fun c => pointed l r (joined l r c))) := by
  rw [weighRecord, h]
  dsimp only
  rw [hp, ← modClip_modClip (f := joined l r) (g := pointed l r) (by exact fun _ => rfl)]
  exact if_pos (by rw [← waits, hw])

theorem pointed_joined (l : Lane) (r : FrameRecord) (c : Clip) : pointed l r (joined l r c) = { c with
    pins := c.pins ++ [(l, r.tick)]
    lanes := c.lanes.map (fun q => if q.1 = l then (l, .at r.tick) else q)
    inTc := if c.inTc = none then some r.timecode else c.inTc } := by
  cases hc : c.inTc <;> simp [pointed, joined, hc]

/-! ## A request that is refused -/

/-- The out tick of a close at the ceiling (R138). -/
def ceilingOut (c : Clip) (l : Lane) (r : FrameRecord) (st : CodedStore) : Word :=
  if waits c l then r.tick - 1 else tickBefore st l r.tick

theorem weighRecord_refused (h : findClip s c.id = some c) (hp : pinRequest s.store [(l, r.tick)] = none) :
    weighRecord l r c.id s =
      serveEngines ((mark c.id (closeClip c.id (ceilingOut c l r s.store) true s)).latch .ceilingClose l.val) := by
  rw [weighRecord, h]
  dsimp only
  rw [hp, ← mark_latch]
  rfl

/-- R138: with no clip waiting the close leaves the engines nothing to take. -/
theorem weighRecord_closes (h : findClip s c.id = some c) (hp : pinRequest s.store [(l, r.tick)] = none)
    (hs : c.sendOnClose = false) (hq : s.clips.queue = []) : ∃ u, weighRecord l r c.id s = u.latch .ceilingClose l.val ∧
      Closed c (ceilingOut c l r s.store) true s u := by
  have hclosed := closed_mark h hs (ceilingOut c l r s.store) true
  have hserve := serveEngines_empty (s := (mark c.id (closeClip c.id (ceilingOut c l r s.store) true s)).latch
    .ceilingClose l.val) (hclosed.queue.trans hq)
  exact ⟨_, (weighRecord_refused h hp).trans hserve, hclosed⟩

/-- R138, R146: engines at work leave the clip in the queue. -/
theorem weighRecord_queues (h : findClip s c.id = some c) (hp : pinRequest s.store [(l, r.tick)] = none)
    (hs : c.sendOnClose = true) (hq : s.clips.queue = []) (hbusy : ∀ e : EngineNo, s.engines[e].isSome = true) :
    ∃ u, weighRecord l r c.id s = u.latch .ceilingClose l.val ∧
      ClosedAndQueued c (ceilingOut c l r s.store) true s u := by
  have hclosed := closedAndQueued_mark h hs hq (ceilingOut c l r s.store) true
  have hserve := serveEngines_busy (s := (mark c.id (closeClip c.id (ceilingOut c l r s.store) true s)).latch
    .ceilingClose l.val) (fun e => by rw [State.latch_engines, hclosed.acts.engines]; exact hbusy e)
  exact ⟨_, (weighRecord_refused h hp).trans hserve, hclosed⟩

theorem ceilingOut_waits (h : waits c l = true) (st : CodedStore) : ceilingOut c l r st = r.tick - 1 := if_pos h

theorem ceilingOut_newest (h : waits c l = false) {older : List FrameRecord} {y : FrameRecord}
    (hr : st.records[l] = older ++ [y, r]) (hy : y.tick ≠ r.tick) : ceilingOut c l r st = y.tick := by
  have hlast : (st.records[l].filter (fun x => decide (x.tick ≠ r.tick))).getLast? = some y := by
    have hpair : [y, r].filter (fun x => decide (x.tick ≠ r.tick)) = [y] := by simp [hy]
    rw [hr, List.filter_append, hpair, List.getLast?_concat]
  rw [ceilingOut, h, if_neg Bool.false_ne_true, tickBefore, hlast]

/-! ## The transfer queue (R146) -/

/-- An insertion splits the list where the order first puts an entry after the new one. -/
theorem insertSorted_split {α : Type} (before : α → α → Bool) (a : α) (l : List α) : ∃ front back, l = front ++ back ∧
    insertSorted before a l = front ++ a :: back ∧ (∀ b ∈ front, before a b = false) ∧
    ∀ b, back.head? = some b → before a b = true := by
  induction l with
  | nil => exact ⟨[], [], rfl, rfl, nofun, nofun⟩
  | cons b l ih =>
    obtain ⟨front, back, hl, hi, hfront, hback⟩ := ih
    rw [insertSorted]
    cases hb : before a b with
    | true =>
      refine ⟨[], b :: l, rfl, rfl, nofun, fun x hx => ?_⟩
      cases hx
      exact hb
    | false =>
      refine ⟨b :: front, back, congrArg (b :: ·) hl, congrArg (b :: ·) hi, fun x hx => ?_, hback⟩
      rcases List.mem_cons.1 hx with rfl | hx
      · exact hb
      · exact hfront x hx

theorem joinQueue_split (s : State) (id prio : Nat) : ∃ before behind : List Nat, s.clips.queue = before ++ behind ∧
    joinQueue s id prio = before ++ id :: behind ∧
    (∀ i ∈ before, ∀ c, findClip s i = some c → prio ≤ c.priority) ∧
    (∀ i c, behind.head? = some i → findClip s i = some c → c.priority < prio) := by
  obtain ⟨front, back, hl, hi, hfront, hback⟩ := insertSorted_split
    (fun _ b => decide ((match findClip s b with | some c => c.priority | none => 0) < prio)) id s.clips.queue
  refine ⟨front, back, hl, hi, fun i hin c hc => ?_, fun i c hin hc => ?_⟩
  · have h := hfront i hin
    rw [hc] at h
    simpa using h
  · have h := hback i hin
    rw [hc] at h
    simpa using h

/-! ## The obligation -/

/-- Settles O44: the record goes to each wanting clip as one pin request, which adds the record to that clip alone or closes
it at the ceiling. -/
theorem newRecordsReachOpenClips : Obligations.NewRecordsReachOpenClips := by
  refine ⟨wants_iff, ?_, ?_, joinQueue_split⟩
  · rintro s l r wanting hf rfl
    refine ⟨fun hw => ?_, fun c hw => ?_, fun c d hw => ?_⟩
    all_goals
      rw [newRecord_eq hf, hw]
      rfl
  · intro s l r c pends h hf hpends
    have hwaits := waits_eq hpends
    refine ⟨fun st hp => ?_, fun hp hopen hs hq => ?_, fun hp hopen hs hq hbusy => ?_⟩
    · cases pends with
      | true =>
        have hclip : findClip ((s.withStore st).modClip c.id (fun c => pointed l r (joined l r c))) c.id =
            some (pointed l r (joined l r c)) := findClip_modClip_self (by exact fun _ => rfl) h
        refine ⟨_, weighRecord_points h hp hwaits, store_mark .., ?_, fun i hi => ?_, nofun,
          fun _ hroom => mem_dirty_mark _ hroom, ?_, queue_mark .., (logActs_mark ..).engines,
          (logActs_mark ..).handler, (logActs_mark ..).lanes⟩
        · rw [findClip_mark, hclip, pointed_joined]
          simp
        · exact (findClip_mark ..).trans (findClip_modClip_other (by exact fun _ => rfl) (s.withStore st) hi)
        · rw [if_pos rfl]
          exact marked_one (by exact rfl) c.id
      | false =>
        have hclip : findClip ((s.withStore st).modClip c.id (joined l r)) c.id = some (joined l r c) :=
          findClip_modClip_self (by exact fun _ => rfl) h
        refine ⟨_, weighRecord_joins h hp hwaits, rfl, ?_, fun i hi => ?_, fun _ => rfl, nofun,
          marked_none (marks_modClip ..), rfl, rfl, rfl, rfl⟩
        · rw [hclip]
          simp [joined]
        · exact findClip_modClip_other (f := joined l r) (by exact fun _ => rfl) (s.withStore st) hi
    · obtain ⟨u, hu, hclosed⟩ := weighRecord_closes h hp hs hq
      exact ⟨_, _, hu, fun hpe => ceilingOut_waits (hwaits.trans hpe) _,
        fun older y hpe hr hy => ceilingOut_newest (hwaits.trans hpe) hr hy,
        hclosed.clip.trans (congrArg some (closedClip_true ..)), hclosed.store, mem_flags_latch .., hclosed.dirty,
        hclosed.marked, hclosed.others, hclosed.acts.engines, hclosed.acts.lanes⟩
    · obtain ⟨u, hu, hclosed⟩ := weighRecord_queues h hp hs hq hbusy
      obtain ⟨n, hclip⟩ := hclosed.clip
      exact ⟨_, _, _, hu, fun hpe => ceilingOut_waits (hwaits.trans hpe) _,
        fun older y hpe hr hy => ceilingOut_newest (hwaits.trans hpe) hr hy, hclip, rfl, Bool.or_true _, rfl, rfl,
        hclosed.queue, hclosed.store, hclosed.marked, mem_flags_latch ..⟩

end Sys2Proof.Machine
end

section
/-! SUPPORT. The owners' answers to MKOT and SEND (R139, R141), and the settlement of O46. -/

namespace Sys2Proof.Machine

variable {s u : State} {c : Clip} {ws : List Word} {tick : Word} {keys : Bool}

theorem exec_answered {n : DirName} {d : Directive} {v : State} {report : Report} (h : reaches n d s u)
    (ho : ownerOf n d.words u = reply v report) :
    exec (directiveCommand n d) s = .next (settled n (answered n d .success report v)) := by
  rw [exec_reaches h, ho]
  rfl

/-! ## MKOT (R139) -/

theorem newestOpen_opened (h : newestOpen s = some c) : c.state = .opened := by
  have hmem := List.mem_of_getLast? h
  simpa using (List.mem_filter.1 hmem).2

theorem newestOpen_none_iff : newestOpen s = none ↔ ∀ c ∈ s.clips.clips, c.state ≠ .opened := by
  rw [newestOpen, List.getLast?_eq_none_iff, List.filter_eq_nil_iff]
  simp

theorem not_later_self (t : Word) : later t t = false := not_earlier_self t

/-- The out tick that MKOT asks for. -/
def outTickOf (ws : List Word) (u : State) : Word := if ws.length = 2 then ws.getD 1 0 else u.ref.tick

/-- R139: the answer to the closing of an OPEN clip. -/
def closeAnswer (c : Clip) (tick : Word) (u : State) : Answer :=
  if earlier tick c.inTick then refuse u .range
  else reply (serveEngines (mark c.id (closeClip c.id tick false u))) (.words [BitVec.ofNat 32 c.id, tick])

theorem actMkot_eq (ws : List Word) (u : State) : actMkot ws u =
    if later (outTickOf ws u) u.ref.tick then refuse u .range
    else if wordAt ws 0 = 0 then
      match newestOpen u with
      | none => refuse u .state
      | some c => closeAnswer c (outTickOf ws u) u
    else
      match findClip u (wordAt ws 0) with
      | none => refuse u .notFound
      | some c => if c.state = .opened then closeAnswer c (outTickOf ws u) u else refuse u .state := rfl

/-- The clip that MKOT names, or the newest OPEN one. -/
theorem actMkot_clip (ht : outTickOf ws u = tick) (hl : later tick u.ref.tick = false) (hf : findClip u c.id = some c)
    (hc : (wordAt ws 0 = 0 ∧ newestOpen u = some c) ∨ (wordAt ws 0 = c.id ∧ c.id ≠ 0)) :
    actMkot ws u = if c.state = .opened then closeAnswer c tick u else refuse u .state := by
  rw [actMkot_eq, ht, hl, if_neg Bool.false_ne_true]
  rcases hc with ⟨hzero, hnewest⟩ | ⟨hid, hne⟩
  · rw [if_pos hzero, hnewest, if_pos (newestOpen_opened hnewest)]
  · rw [if_neg (by rwa [hid]), hid, hf]

theorem actMkot_late (h : later (outTickOf ws u) u.ref.tick = true) : actMkot ws u = refuse u .range := by
  rw [actMkot_eq, if_pos h]

theorem actMkot_now (h : ws.length = 1) : actMkot ws u =
    if wordAt ws 0 = 0 then
      match newestOpen u with
      | none => refuse u .state
      | some c => closeAnswer c u.ref.tick u
    else
      match findClip u (wordAt ws 0) with
      | none => refuse u .notFound
      | some c => if c.state = .opened then closeAnswer c u.ref.tick u else refuse u .state := by
  have ht : outTickOf ws u = u.ref.tick := if_neg (by omega)
  rw [actMkot_eq, ht, not_later_self, if_neg Bool.false_ne_true]

/-! ## SEND (R141) -/

theorem boolOf_toNat (b : Bool) : boolOf b.toNat = some b := by cases b <;> rfl

theorem boolOf_none {x : Nat} (h : 1 < x) : boolOf x = none := by
  rw [boolOf, if_neg (by omega), if_neg (by omega)]

theorem boolOf_le {x : Nat} (h : x ≤ 1) : ∃ b, boolOf x = some b := by
  rcases Nat.le_one_iff_eq_zero_or_eq_one.1 h with rfl | rfl
  · exact ⟨false, rfl⟩
  · exact ⟨true, rfl⟩

/-- What SEND asks of a clip of the log, by its state. -/
def sendAnswer (c : Clip) (prio : Nat) (keys : Bool) (u : State) : Answer :=
  let asked := u.modClip c.id (fun c => { c with sendOnClose := true, priority := prio, keys := keys })
  match c.state with
  | .opened => success (if c.sendOnClose && decide (c.priority = prio) && c.keys == keys then asked else mark c.id asked)
  | .closed => success (sendNow c.id prio keys u)
  | .sent =>
    if c.kept then success (sendNow c.id prio keys (u.modClip c.id (fun c => { c with framesSent := 0 })))
    else refuse u .state
  | .queued | .sending | .orphaned => refuse u .state

theorem actSend_found (hk : boolOf (wordAt ws 2) = some keys) (hp : wordAt ws 1 ≤ 7)
    (hf : findClip u (wordAt ws 0) = some c) : actSend ws u = sendAnswer c (wordAt ws 1) keys u := by
  have hid := findClip_id hf
  rw [actSend, hk]
  dsimp only
  rw [if_neg (Nat.not_lt.2 hp), hf, ← hid]
  rfl

theorem actSend_missing (hk : wordAt ws 2 ≤ 1) (hp : wordAt ws 1 ≤ 7) (hf : findClip u (wordAt ws 0) = none) :
    actSend ws u = refuse u .notFound := by
  obtain ⟨keys, hk⟩ := boolOf_le hk
  rw [actSend, hk]
  dsimp only
  rw [if_neg (Nat.not_lt.2 hp), hf]

theorem actSend_range (h : 7 < wordAt ws 1 ∨ 1 < wordAt ws 2) : actSend ws u = refuse u .range := by
  rw [actSend]
  cases hk : boolOf (wordAt ws 2) with
  | none => rfl
  | some keys =>
    refine if_pos (h.resolve_right fun hlt => ?_)
    rw [boolOf_none hlt] at hk
    cases hk

/-- A clip that SEND has queued while both engines are at work. -/
structure SentOn (c : Clip) (prio : Nat) (keys : Bool) (s t : State) : Prop where
  clip : ∃ n, findClip t c.id = some { c with state := .queued, priority := prio, keys := keys, framesTotal := n } ∧
    (keys = false → n = c.pins.length)
  queue : t.clips.queue = [c.id]
  store : t.store = s.store
  marked : marked [c.id] s t
  engines : t.engines = s.engines

theorem sentOn_sendNow (h : findClip s c.id = some c) (hq : s.clips.queue = [])
    (hbusy : ∀ e : EngineNo, s.engines[e].isSome = true) (prio : Nat) (keys : Bool) :
    SentOn c prio keys s (sendNow c.id prio keys s) := by
  have hset : findClip (s.modClip c.id (fun c => { c with priority := prio, keys := keys })) c.id =
      some { c with priority := prio, keys := keys } := findClip_modClip_self (by exact fun _ => rfl) h
  have hqueued := queued_enterQueued (c := { c with priority := prio, keys := keys }) hset hq
  have hengines : (mark c.id (enterQueued c.id (s.modClip c.id (fun c =>
      { c with priority := prio, keys := keys })))).engines = s.engines :=
    (logActs_mark ..).engines.trans hqueued.acts.engines
  rw [sendNow, serveEngines_busy (by rwa [hengines])]
  exact {
    clip := ⟨_, (findClip_mark ..).trans hqueued.clip, fun hk => by
      dsimp only
      rw [hk]
      exact length_walkOf_all ..⟩
    queue := (queue_mark ..).trans hqueued.queue
    store := (store_mark ..).trans hqueued.store
    marked := marked_one (u := s) hqueued.marks c.id
    engines := hengines }

/-- R141: SEND queues a CLOSED clip, and a SENT one that is kept. -/
theorem sendAnswer_queues (hf : findClip u c.id = some c) (hq : u.clips.queue = [])
    (hbusy : ∀ e : EngineNo, u.engines[e].isSome = true) (hstate : c.state = .closed ∨ (c.state = .sent ∧ c.kept = true))
    (prio : Nat) (keys : Bool) : ∃ t k, sendAnswer c prio keys u = success t ∧ SentOn k prio keys u t ∧
      k = { c with framesSent := k.framesSent } ∧ (c.state = .sent → k.framesSent = 0) := by
  rcases hstate with hstate | ⟨hstate, hkept⟩
  · refine ⟨_, c, ?_, sentOn_sendNow hf hq hbusy prio keys, rfl, fun hs => ?_⟩
    · rw [sendAnswer, hstate]
    · rw [hstate] at hs
      cases hs
  · have hzero : findClip (u.modClip c.id (fun c => { c with framesSent := 0 })) c.id = some { c with framesSent := 0 } :=
      findClip_modClip_self (by exact fun _ => rfl) hf
    have hsent := sentOn_sendNow (c := { c with framesSent := 0 }) hzero hq hbusy prio keys
    have hmarked := marked_one_from (marks_modClip ..) hsent.marked
    refine ⟨_, _, ?_, ⟨hsent.clip, hsent.queue, hsent.store, hmarked, hsent.engines⟩, rfl, fun _ => rfl⟩
    rw [sendAnswer, hstate]
    exact if_pos hkept

/-- R133, R141: SEND of an OPEN clip asks for its sending, and marks it where that changes it. -/
theorem sendAnswer_asks (hf : findClip u c.id = some c) (hstate : c.state = .opened) (prio : Nat) (keys : Bool) :
    ∃ t, sendAnswer c prio keys u = success t ∧
      findClip t c.id = some { c with sendOnClose := true, priority := prio, keys := keys } ∧
      t.clips.queue = u.clips.queue ∧ t.engines = u.engines ∧ t.store = u.store ∧
      marked (if c.sendOnClose = true ∧ c.priority = prio ∧ c.keys = keys then [] else [c.id]) u t := by
  have hasked : findClip (u.modClip c.id (fun c => { c with sendOnClose := true, priority := prio, keys := keys })) c.id =
      some { c with sendOnClose := true, priority := prio, keys := keys } :=
    findClip_modClip_self (by exact fun _ => rfl) hf
  refine ⟨_, by rw [sendAnswer, hstate], ?_⟩
  by_cases hsame : c.sendOnClose = true ∧ c.priority = prio ∧ c.keys = keys
  · rw [if_pos hsame, if_pos (by simpa [and_assoc] using hsame)]
    exact ⟨hasked, rfl, rfl, rfl, marked_none (marks_modClip ..)⟩
  · rw [if_neg hsame, if_neg (by simpa [and_assoc] using hsame)]
    exact ⟨(findClip_mark ..).trans hasked, queue_mark .., (logActs_mark ..).engines, store_mark ..,
      marked_one (marks_modClip ..) c.id⟩

theorem sendAnswer_refuses (h : c.state = .queued ∨ c.state = .sending ∨ c.state = .orphaned ∨
    (c.state = .sent ∧ c.kept = false)) (prio : Nat) (keys : Bool) : sendAnswer c prio keys u = refuse u .state := by
  rcases h with hstate | hstate | hstate | ⟨hstate, hkept⟩
  all_goals rw [sendAnswer, hstate]
  rw [hkept]
  rfl

/-! ## The obligation -/

/-- R139: MKOT of an OPEN clip at a tick that is not before its in tick. -/
theorem exec_mkot_closes {d : Directive} (h : reaches .mkot d s u)
    (ha : actMkot d.words u = if c.state = .opened then closeAnswer c tick u else refuse u .state)
    (hc : c.state = .opened) (he : earlier tick c.inTick = false) :
    exec (.mkot d) s = .next (settled .mkot (answered .mkot d .success (.words [BitVec.ofNat 32 c.id, tick])
      (serveEngines (mark c.id (closeClip c.id tick false u))))) := by
  refine exec_answered h (ha.trans ((if_pos hc).trans (if_neg ?_)))
  rw [he]
  exact Bool.false_ne_true

/-- Settles O46: while no clip waits for an engine a close and a SEND are one change of the clip, its mark, and the release
of its late pins; a clip that joins the empty queue stays there while both engines are at work. -/
theorem clipsAreClosedAndSent : Obligations.ClipsAreClosedAndSent := by
  refine ⟨fun d s u c hq hf => ⟨fun h tick htick hc => ?_, fun h hid hp keys hk => ?_⟩, fun d s u =>
    ⟨fun h => ⟨fun hlate => ?_, fun hlen hne hnone => ?_, fun hlen hzero hno => ?_⟩,
      fun h => ⟨fun hr => exec_refused h (actSend_range hr),
        fun hp hk hnone => exec_refused h (actSend_missing hk hp hnone)⟩⟩⟩
  · have hanswer : actMkot d.words u = if c.state = .opened then closeAnswer c tick u else refuse u .state := by
      rcases htick with ⟨hlen, rfl⟩ | ⟨hlen, rfl, hl⟩
      · exact actMkot_clip (if_neg (by omega)) (not_later_self _) hf hc
      · exact actMkot_clip (if_pos hlen) hl hf hc
    refine ⟨fun hstate => exec_refused h (hanswer.trans (if_neg hstate)), fun hstate he => ?_,
      fun hstate he hs => ?_, fun hstate he hs hbusy => ?_⟩
    · exact exec_refused h (hanswer.trans ((if_pos hstate).trans (if_pos he)))
    · have hclosed := closed_serve hf hs hq tick false
      exact ⟨_, exec_mkot_closes h hanswer hstate he, hclosed.clip.trans (congrArg some (closedClip_false ..)),
        hclosed.store, hclosed.marked, hclosed.acts.lanes, hclosed.acts.mixer, hclosed.acts.paths, hclosed.acts.engines,
        hclosed.acts.ref⟩
    · have hclosed := closedAndQueued_serve hf hs hq hbusy tick false
      obtain ⟨n, hclip⟩ := hclosed.clip
      exact ⟨_, _, exec_mkot_closes h hanswer hstate he, hclip, rfl, rfl, rfl, rfl, hclosed.queue, hclosed.acts.engines,
        hclosed.store, hclosed.marked, hclosed.acts.lanes, hclosed.acts.mixer, hclosed.acts.paths, hclosed.acts.ref⟩
  · have hanswer : actSend d.words u = sendAnswer c (wordAt d.words 1) keys u :=
      actSend_found (hk ▸ boolOf_toNat keys) hp (hid ▸ hf)
    refine ⟨fun hstate hbusy => ?_, fun hstate => ?_, fun hstate =>
      exec_refused h (hanswer.trans (sendAnswer_refuses hstate _ _))⟩
    · obtain ⟨t, k, ht, hsent, hk, hzero⟩ := sendAnswer_queues hf hq hbusy hstate (wordAt d.words 1) keys
      obtain ⟨n, hclip, hn⟩ := hsent.clip
      obtain ⟨hqueue, hmarked⟩ := And.intro hsent.queue hsent.marked
      rw [hk] at hclip hqueue hmarked hn
      exact ⟨t, _, exec_answered h (hanswer.trans ht), hclip, rfl, rfl, rfl, rfl, hqueue, hsent.engines, hsent.store,
        hmarked, hn, hzero⟩
    · obtain ⟨t, ht, hclip, hqueue, hacts⟩ := sendAnswer_asks hf hstate (wordAt d.words 1) keys
      exact ⟨t, exec_answered h (hanswer.trans ht), hclip, hqueue.trans hq, hacts⟩
  · refine exec_refused h (actMkot_late ?_)
    rw [outTickOf, if_pos hlate.1]
    exact hlate.2
  · refine exec_refused h ((actMkot_now hlen).trans ((if_neg hne).trans ?_))
    rw [hnone]
  · refine exec_refused h ((actMkot_now hlen).trans ((if_pos hzero).trans ?_))
    rw [newestOpen_none_iff.2 hno]

end Sys2Proof.Machine
end

section
/-! SUPPORT. Contact marks (R140, R172): the edge that is handed on, the making of a clip with a fresh id (R132, R134), the
marks that are refused, and the settlement of O55. -/

namespace Sys2Proof.Machine

variable {s u : State} {c : Clip} {tick : Word}

/-! ## The edge that is handed on (R171, R172) -/

theorem exec_filterRunsOut (h : s.power = true) (i : ContactNo) :
    exec (.filterRunsOut i) s = .next (kick (filterRunsOut i s)) :=
  live_on (f := fun s => kick (filterRunsOut i s)) h

theorem wanted_iff (e : EdgeSetting) (closed : Bool) : wanted e closed = true ↔
    e = .both ∨ (e = .rising ∧ closed = true) ∨ (e = .falling ∧ closed = false) := by
  cases e <;> cases closed <;> decide

/-- The act of an input's function on an accepted edge. -/
theorem filterRunsOut_wanted {i : ContactNo} {c : Contact} {f : Filter} (hc : s.contacts[i] = c)
    (hf : c.filter = some f) (hw : wanted c.edge c.raw = true)
    (hu : u = (s.advanceTo f.due).setContact i { c with accepted := c.raw, filter := none }) :
    filterRunsOut i s = match c.fn with
      | .none | .tally => u
      | .markIn => contactMarkIn (templateOf c.param) f.stamp u
      | .markOut => contactMarkOut f.stamp u
      | .markToggle => contactToggle (templateOf c.param) f.stamp u
      | .take => u.withMixer (askTake u.mixer) := by
  subst hu hc
  rw [filterRunsOut, hf]
  dsimp only
  rw [acceptedEdge, hw]
  exact if_neg (by decide)

theorem templateOf_val {param : Nat} {k : Fin 4} (h : param = k.val) : templateOf param = k :=
  Fin.ext ((congrArg (· % 4) h).trans (Nat.mod_eq_of_lt k.isLt))

theorem newestOpen_isSome (s : State) :
    (newestOpen s).isSome = s.clips.clips.any (fun c => decide (c.state = .opened)) := by
  rw [Bool.eq_iff_iff, newestOpen]
  simp

theorem contactToggle_eq (k : Fin 4) (tick : Word) (s : State) : contactToggle k tick s =
    if s.clips.clips.any (fun c => decide (c.state = .opened)) then contactMarkOut tick s else contactMarkIn k tick s := by
  rw [contactToggle, newestOpen_isSome]

/-! ## A fresh id (R132) -/

/-- The id that is tried after an id. -/
def idAfter (id : Nat) : Nat := if id < 65535 then id + 1 else 1

theorem nextId_succ (held : List Nat) (n id : Nat) : nextId held (n + 1) id =
    if held.contains (idAfter id) then nextId held n (idAfter id) else idAfter id := rfl

theorem idAfter_min (id : Nat) : idAfter (min id 65535) = idAfter id := by
  unfold idAfter
  split <;> split <;> omega

theorem idAfter_eq {id : Nat} (h : id ≤ 65535) : idAfter id = id % 65535 + 1 := by
  unfold idAfter
  split <;> omega

/-- Where the id given is held, so is every id that was tried. -/
theorem nextId_held {held : List Nat} : ∀ (n id : Nat), id ≤ 65535 → nextId held n id ∈ held → ∀ j < n,
    (id + j) % 65535 + 1 ∈ held := by
  intro n
  induction n with
  | zero => exact fun _ _ _ _ hj => absurd hj (Nat.not_lt_zero _)
  | succ n ih =>
    intro id hid hin j hj
    rw [nextId_succ, idAfter_eq hid] at hin
    split at hin
    · next hheld =>
      cases j with
      | zero => simpa using hheld
      | succ j =>
        have h := ih _ (by omega) hin j (by omega)
        rwa [show (id % 65535 + 1 + j) % 65535 = (id + (j + 1)) % 65535 by omega] at h
    · next hfree => exact absurd hin (by simpa using hfree)

/-- Of 257 ids in turn a log of fewer clips leaves one free. -/
theorem nextId_fresh {held : List Nat} (h : held.length < 257) (id : Nat) : nextId held 257 id ∉ held := by
  rw [nextId_succ, ← idAfter_min, ← nextId_succ]
  intro hin
  have htried := nextId_held 257 _ (Nat.min_le_right id 65535) hin
  have hnodup : ((List.range 257).map fun j => (min id 65535 + j) % 65535 + 1).Nodup := by
    refine List.Nodup.map_on (fun j hj k hk he => ?_) List.nodup_range
    rw [List.mem_range] at hj hk
    omega
  have hsub : ((List.range 257).map fun j => (min id 65535 + j) % 65535 + 1) ⊆ held := fun x hx => by
    obtain ⟨j, hj, rfl⟩ := List.mem_map.1 hx
    exact htried j (List.mem_range.1 hj)
  have hle := (List.subperm_of_subset hnodup hsub).length_le
  rw [List.length_map, List.length_range] at hle
  omega

/-! ## A clip is made (R134 to R137) -/

/-- The in-points stand on the lanes of the list, however far they are stepped (R136). -/
theorem lanes_stepPoints (st : CodedStore) : ∀ (n : Nat) (pts : List (Lane × InPoint)) (moved : List Lane),
    (stepPoints st n pts moved).1.map Prod.fst = pts.map Prod.fst
  | 0, _, _ => rfl
  | n + 1, pts, moved => by
    rw [stepPoints]
    split
    · rfl
    · split
      · rfl
      · rw [lanes_stepPoints st n, List.map_map]
        refine List.map_congr_left fun p _ => ?_
        rw [Function.comp_apply]
        split
        · next h => exact h.symm
        · rfl

/-- Latches change the handler and the port alone, and of the counters that of the notices lost. -/
theorem latches_eq {α : Type} (k : EventKind) (unit : α → Nat) (l : List α) : ∀ s : State, ∃ h p,
    l.foldl (fun s a => s.latch k (unit a)) s = (s.withHandler h).withPort p ∧
      ∀ j, j ≠ ctrNoticesLost → h.counters[j] = s.handler.counters[j] := by
  induction l with
  | nil => exact fun s => ⟨s.handler, s.port, rfl, fun _ _ => rfl⟩
  | cons a l ih =>
    intro s
    obtain ⟨h, p, e, hc⟩ := ih (s.latch k (unit a))
    exact ⟨h, p, e, fun j hj => (hc j hj).trans (latch_counter s k (unit a) hj.symm)⟩

/-- R134: what the making of a clip changes: its pins in the store, events, the log, and the clip's mark. -/
theorem makeClip_state {lanes : List Lane} {preroll : Nat} {tags : List Nat} {m : State × Clip}
    (hm : makeClip lanes preroll tick tags s = m) : ∃ st h p,
      m.1 = mark m.2.id ((((s.withStore st).withHandler h).withPort p).withClips { s.clips with
        clips := s.clips.clips ++ [m.2], lastId := m.2.id }) ∧
      ∀ j, j ≠ ctrNoticesLost → h.counters[j] = s.handler.counters[j] := by
  unfold makeClip at hm
  extract_lets target chosen shorts r pts moved s1 id inTc c log at hm
  obtain ⟨h, p, e, hc⟩ := latches_eq .shortPreroll Fin.val (shorts ++ moved) (s.withStore r.2.2)
  refine ⟨r.2.2, h, p, ?_, hc⟩
  have hs1 : s1 = ((s.withStore r.2.2).withHandler h).withPort p := e
  have hlog : log = s.clips := (congrArg State.clips hs1 :).trans rfl
  rw [← hm, hlog, hs1]
  rfl

theorem makeClip_fresh (h : s.clips.clips.length < 256) (lanes : List Lane) (preroll : Nat) (tick : Word)
    (tags : List Nat) : ∀ x ∈ s.clips.clips, x.id ≠ (makeClip lanes preroll tick tags s).2.id := by
  have hfresh : (makeClip lanes preroll tick tags s).2.id ∉ s.clips.clips.map Clip.id :=
    nextId_fresh (by rw [List.length_map]; omega) s.clips.lastId
  exact fun x hx he => hfresh (he ▸ List.mem_map_of_mem hx)

theorem makeClip_lanes (lanes : List Lane) (preroll : Nat) (tick : Word) (tags : List Nat) (s : State) :
    (makeClip lanes preroll tick tags s).2.lanes.map Prod.fst = lanes := by
  refine (lanes_stepPoints ..).trans ?_
  rw [List.map_map, List.map_map]
  exact List.map_id' lanes

/-! ## Marks that are refused (R140) -/

theorem contactMarkIn_scanning (h : s.labels.ready = false) (k : Fin 4) (tick : Word) :
    contactMarkIn k tick s = s.bump ctrMarksRefused 1 := if_pos (by simp [h])

theorem contactMarkOut_scanning (h : s.labels.ready = false) (tick : Word) :
    contactMarkOut tick s = s.bump ctrMarksRefused 1 := if_pos (by simp [h])

theorem makeRoom_free (h : s.clips.clips.length < 256) : makeRoom s = some s := if_pos h

theorem makeRoom_full (h : 256 ≤ s.clips.clips.length) (hc : ∀ c ∈ s.clips.clips, c.state ≠ .sent ∨ c.kept = true) :
    makeRoom s = none := by
  have hnone : s.clips.clips.find? (fun c => decide (c.state = .sent) && !c.kept) = none := by
    simpa [or_iff_not_imp_left] using hc
  rw [makeRoom, if_neg (Nat.not_lt.2 h), hnone]

theorem contactMarkIn_full (hr : s.labels.ready = true) (h : makeRoom s = none) (k : Fin 4) (tick : Word) :
    contactMarkIn k tick s = (s.bump ctrMarksRefused 1).latch .clipLogFull 0 := by
  rw [contactMarkIn, if_neg (by simp [hr]), h]
  rfl

theorem contactMarkOut_none (h : ∀ c ∈ s.clips.clips, c.state ≠ .opened) (tick : Word) :
    contactMarkOut tick s = s.bump ctrMarksRefused 1 := by
  rw [contactMarkOut, newestOpen_none_iff.2 h]
  exact ite_self _

theorem contactMarkOut_open (hr : s.labels.ready = true) (h : newestOpen s = some c) (tick : Word) :
    contactMarkOut tick s = if earlier tick c.inTick then s.bump ctrMarksRefused 1
      else serveEngines (mark c.id (closeClip c.id tick false s)) := by
  rw [contactMarkOut, if_neg (by simp [hr]), h]
  rfl

/-! ## MARK_IN (R140) -/

/-- The clip with what its template loads. -/
def loaded (t : Template) (c : Clip) : Clip :=
  { c with sendOnClose := t.sendOnClose, priority := t.priority, keys := t.keys }

/-- The clip that a template makes, with the machine that has it. -/
def templated (k : Fin 4) (tick : Word) (s : State) : State × Clip :=
  makeClip s.clips.templates[k].lanes s.clips.templates[k].preroll tick
    (s.clips.templates[k].tags.filter (fun x => tagDefined s x)) s

theorem contactMarkIn_makes (hr : s.labels.ready = true) (h : s.clips.clips.length < 256) (k : Fin 4) (tick : Word) :
    contactMarkIn k tick s =
      if s.clips.templates[k].sendOnClose || decide (s.clips.templates[k].priority ≠ 0) || s.clips.templates[k].keys
      then mark (templated k tick s).2.id
        ((templated k tick s).1.modClip (templated k tick s).2.id (loaded s.clips.templates[k]))
      else (templated k tick s).1.modClip (templated k tick s).2.id (loaded s.clips.templates[k]) := by
  rw [contactMarkIn, if_neg (by simp [hr]), makeRoom_free h]
  rfl

/-- A second mark of an id changes nothing more. -/
theorem remark {id : Nat} {v : State} (hv : marks v = marks (mark id s)) (b : Bool) :
    marks (if b then mark id v else v) = marks (mark id s) ∧
      (if b then mark id v else v).clips.clips = v.clips.clips ∧ LogActs v (if b then mark id v else v) := by
  cases b with
  | true => exact ⟨(marks_mark_congr hv id).trans (marks_mark_mark id s), clips_mark id v, logActs_mark id v⟩
  | false => exact ⟨hv, rfl, .refl v⟩

theorem templated_lanes (k : Fin 4) (tick : Word) (s : State) :
    (loaded s.clips.templates[k] (templated k tick s).2).lanes.map Prod.fst = s.clips.templates[k].lanes :=
  makeClip_lanes _ _ _ (s.clips.templates[k].tags.filter (fun x => tagDefined s x)) s

theorem clips_loaded {cs : List Clip} {t : Template} (h : ∀ x ∈ cs, x.id ≠ c.id) :
    (cs ++ [c]).map (fun x => if x.id = c.id then loaded t x else x) = cs ++ [loaded t c] := by
  have hothers : cs.map (fun x => if x.id = c.id then loaded t x else x) = cs :=
    (List.map_congr_left fun x hx => if_neg (h x hx)).trans (List.map_id' cs)
  rw [List.map_append, hothers, List.map_singleton, if_pos rfl]

/-- What a MARK_IN with room in the log comes to. -/
structure MarkedIn (k : Fin 4) (tick : Word) (s t : State) (c : Clip) : Prop where
  clips : t.clips.clips = s.clips.clips ++ [loaded s.clips.templates[k] c]
  fresh : ∀ x ∈ s.clips.clips, x.id ≠ c.id
  marks : marks t = marks (mark c.id s)
  engines : t.engines = s.engines
  lanes : t.lanes = s.lanes
  labels : t.labels = s.labels
  counters : ∀ j, j ≠ ctrNoticesLost → t.handler.counters[j] = s.handler.counters[j]

theorem markedIn_contactMarkIn (hr : s.labels.ready = true) (h : s.clips.clips.length < 256) (k : Fin 4) (tick : Word) :
    MarkedIn k tick s (contactMarkIn k tick s) (templated k tick s).2 := by
  have hfresh : ∀ x ∈ s.clips.clips, x.id ≠ (templated k tick s).2.id := makeClip_fresh h _ _ _ _
  obtain ⟨st, hd, p, hmade, hcounters⟩ := makeClip_state (m := templated k tick s) rfl
  rw [contactMarkIn_makes hr h]
  generalize (templated k tick s).1 = v at hmade
  generalize (templated k tick s).2 = c at hmade hfresh
  obtain ⟨hmarks, hclips, hacts⟩ := remark (s := s) (id := c.id) (v := v.modClip c.id (loaded s.clips.templates[k]))
    (by rw [marks_modClip, hmade]; exact marks_mark_congr (by exact rfl) c.id)
    (s.clips.templates[k].sendOnClose || decide (s.clips.templates[k].priority ≠ 0) || s.clips.templates[k].keys)
  have hmarked := logActs_mark c.id ((((s.withStore st).withHandler hd).withPort p).withClips { s.clips with
    clips := s.clips.clips ++ [c], lastId := c.id })
  rw [← hmade] at hmarked
  exact {
    clips := by
      refine hclips.trans (Eq.trans ?_ (clips_loaded hfresh))
      rw [hmade, State.modClip, State.withClips_clips, clips_mark]
      rfl
    fresh := hfresh
    marks := hmarks
    engines := hacts.engines.trans hmarked.engines
    lanes := hacts.lanes.trans hmarked.lanes
    labels := hacts.labels.trans hmarked.labels
    counters := fun j hj => by
      rw [hacts.handler]
      exact (congrArg (fun h : Handler => h.counters[j]) hmarked.handler).trans (hcounters j hj) }

/-! ## The obligation -/

/-- Settles O55: a wanted edge is the act of the input's function; a MARK_IN with room adds one clip with a fresh id and
marks it, and a MARK_OUT is the closing of the newest OPEN clip. -/
theorem contactMarks : Obligations.ContactMarks := by
  refine ⟨fun s u i c f hp hc hf hw hu => ?_, fun s k tick => ⟨fun hr =>
    ⟨contactMarkIn_scanning hr k tick, contactMarkOut_scanning hr tick⟩, fun hr hroom => ?_,
    fun hr hfull hc => contactMarkIn_full hr (makeRoom_full hfull hc) k tick,
    fun hno => contactMarkOut_none hno tick, fun c hr hn he => ?_, fun c hr hn hf he hs hq => ?_,
    fun c hr hn hf he hs hq hbusy => ?_⟩⟩
  · have hrun := filterRunsOut_wanted hc hf ((wanted_iff _ _).2 hw) hu
    rw [exec_filterRunsOut hp, hrun]
    refine ⟨fun k hk hfn => ?_, fun hfn => ?_, fun k hk hfn => ?_⟩
    · rw [hfn, templateOf_val hk]
    · rw [hfn]
    · rw [hfn, templateOf_val hk, ← contactToggle_eq]
  · have hmade := markedIn_contactMarkIn hr hroom k tick
    exact ⟨_, _, rfl, hmade.clips, hmade.fresh, rfl, rfl, rfl, templated_lanes k tick s, rfl, rfl, rfl, rfl, rfl,
      fun hlen => by
        have hdirty : (contactMarkIn k tick s).clips.dirty = _ := congrArg (fun x => x.1.1) hmade.marks
        rw [hdirty]
        exact mem_dirty_mark _ hlen,
      marked_iff.2 hmade.marks, hmade.engines, hmade.lanes, hmade.labels, hmade.counters⟩
  · rw [contactMarkOut_open hr hn, if_pos he]
  · have hclosed := closed_serve hf hs hq tick false
    refine ⟨_, (contactMarkOut_open hr hn tick).trans (if_neg (by simp [he])), ?_⟩
    exact ⟨hclosed.clip.trans (congrArg some (closedClip_false ..)), hclosed.store, hclosed.marked, hclosed.acts.handler,
      hclosed.acts.engines, hclosed.acts.lanes⟩
  · have hclosed := closedAndQueued_serve hf hs hq hbusy tick false
    obtain ⟨n, hclip⟩ := hclosed.clip
    exact ⟨_, _, (contactMarkOut_open hr hn tick).trans (if_neg (by simp [he])), hclip, rfl, rfl, rfl, hclosed.queue,
      hclosed.store, hclosed.marked, hclosed.acts.handler, hclosed.acts.engines, hclosed.acts.lanes⟩

end Sys2Proof.Machine
end

section
/-! SUPPORT. The offer of a frame and the reclaim (R58, R59, R63 to R65): the record that reclaim takes next, what one turn
changes, when the turns end, and the records that they spare. -/

namespace Sys2Proof.Machine

variable {s u : State} {l m : Lane} {t now : Word} {r y : FrameRecord}

/-! ## The offer (R58, R59) -/

theorem tickTest_true (h : ∀ r, newestRecord s.store l = some r → later t r.tick = true) : tickTest s.store l t = true := by
  unfold tickTest
  split
  · next r hr => exact h r hr
  · rfl

theorem tickTest_false (hr : newestRecord s.store l = some r) (h : later t r.tick = false) :
    tickTest s.store l t = false := by
  rw [tickTest, hr]
  exact h

theorem offerFrame_late (h : tickTest s.store l t = false) (tc : Timecode) (kind : FrameKind) (n : Nat) :
    offerFrame l t tc kind n s = (s.count ctrFramesDropped .frameDropped l.val, false) := if_pos (by simp [h])

theorem offerFrame_takes (h : tickTest s.store l t = true) (hu : makeReserve s = u) (hroom : recordsInUse u.store < 4096)
    {b : Nat} {rest : List Nat} (hfree : u.store.free = b :: rest) (tc : Timecode) (kind : FrameKind) (n : Nat) :
    offerFrame l t tc kind n s = (u.withStore { u.store with
      free := rest
      records := u.store.records.set l
        (u.store.records[l] ++ [⟨t, tc, kind, false, n, [b], 0, [], 0, .pending, false, false⟩]) }, true) := by
  rw [offerFrame, if_neg (by simp [h])]
  dsimp only
  rw [hu, if_neg (by simp [hfree, hroom]), createRecord_fresh hfree]
  rfl

theorem offerFrame_dropped (h : tickTest s.store l t = true) (hu : makeReserve s = u)
    (hfull : 4096 ≤ recordsInUse u.store ∨ u.store.free = []) (tc : Timecode) (kind : FrameKind) (n : Nat) :
    offerFrame l t tc kind n s = (u.count ctrFramesDropped .frameDropped l.val, false) := by
  rw [offerFrame, if_neg (by simp [h])]
  dsimp only
  rw [hu, if_pos (by simpa using hfull)]

theorem makeReserve_met (h : reserveMet s.store = true) : makeReserve s = s := if_pos h

theorem makeReserve_reclaims (h : reserveMet s.store = false) : makeReserve s =
    awaitingOrders (reclaim (recordsInUse s.store) [] s).2 (reclaim (recordsInUse s.store) [] s).1 :=
  if_neg (by simp [h])

theorem reserveMet_room {st : CodedStore} (h : reserveMet st = true) :
    recordsInUse st < 4096 ∧ ∃ b rest, st.free = b :: rest := by
  have huse := recordsInUse_of_reserve h
  simp only [reserveMet, Bool.and_eq_true, decide_eq_true_eq] at h
  have hblocks := h.1
  refine ⟨by omega, ?_⟩
  cases hf : st.free with
  | nil => rw [hf] at hblocks; simp at hblocks
  | cons b rest => exact ⟨b, rest, rfl⟩

/-! ## The record that reclaim takes next (R63, R64) -/

/-- The age of a record. -/
def age (now : Word) (p : Lane × FrameRecord) : Nat := (now - p.2.tick).toNat

theorem oldestOf_none (now : Word) {ps : List (Lane × FrameRecord)} (h : oldestOf now ps = none) : ps = [] := by
  cases ps with
  | nil => rfl
  | cons a ps =>
    rw [oldestOf] at h
    split at h
    · cases h
    · split at h <;> cases h

/-- The oldest is of the list, and no other is older, or as old and of a lower lane. -/
theorem oldestOf_some {now : Word} : ∀ {ps : List (Lane × FrameRecord)} {p : Lane × FrameRecord},
    ps.Pairwise (fun a b => a.1 ≤ b.1) → oldestOf now ps = some p →
    p ∈ ps ∧ ∀ q ∈ ps, age now q < age now p ∨ (age now q = age now p ∧ p.1 ≤ q.1) := by
  intro ps
  induction ps with
  | nil => exact nofun
  | cons a ps ih =>
    intro p hsorted h
    obtain ⟨hfirst, hsorted⟩ := List.pairwise_cons.1 hsorted
    rw [oldestOf] at h
    split at h
    · next hnone =>
      cases h
      rw [oldestOf_none now hnone]
      exact ⟨List.mem_singleton_self _, fun q hq => .inr (by rw [List.mem_singleton.1 hq]; exact ⟨rfl, le_refl _⟩)⟩
    · next b hb =>
      obtain ⟨hmem, hold⟩ := ih hsorted hb
      split at h
      · next hlt =>
        cases h
        refine ⟨List.mem_cons_of_mem _ hmem, fun q hq => ?_⟩
        rcases List.mem_cons.1 hq with rfl | hq
        · exact .inl hlt
        · exact hold q hq
      · next hge =>
        cases h
        refine ⟨List.mem_cons_self, fun q hq => ?_⟩
        rcases List.mem_cons.1 hq with rfl | hq
        · exact .inr ⟨rfl, le_refl _⟩
        · have hle : age now b ≤ age now a := Nat.not_lt.1 hge
          rcases hold q hq with hlt | ⟨heq, -⟩
          · exact .inl (hlt.trans_le hle)
          · rcases Nat.lt_or_eq_of_le (heq.trans_le hle) with hlt | heq
            · exact .inl hlt
            · exact .inr ⟨heq, hfirst q hq⟩

theorem mem_allRecords {st : CodedStore} : (l, r) ∈ allRecords st ↔ r ∈ st.records[l] := by
  simp [allRecords]

theorem allRecords_lanes (st : CodedStore) : (allRecords st).Pairwise (fun a b => a.1 ≤ b.1) := by
  refine List.pairwise_flatMap.2 ⟨fun l _ => ?_, ?_⟩
  · exact List.pairwise_map.2 (List.pairwise_of_forall fun _ _ => le_refl _)
  · refine (List.pairwise_lt_finRange 6).imp fun {a b} hab x hx y hy => ?_
    obtain ⟨_, -, rfl⟩ := List.mem_map.1 hx
    obtain ⟨_, -, rfl⟩ := List.mem_map.1 hy
    exact le_of_lt hab

/-- The candidates, lane by lane (R63). -/
def candidates (s : State) : List (Lane × FrameRecord) := (allRecords s.store).filter (fun p => candidate s p.1 p.2)

theorem mem_candidates : (l, r) ∈ candidates s ↔ r ∈ s.store.records[l] ∧ candidate s l r = true := by
  rw [candidates, List.mem_filter, mem_allRecords]

theorem nextCandidate_cases (s : State) :
    (nextCandidate s = oldestOf s.ref.tick ((candidates s).filter (fun p => !unsent p.2)) ∧
      (nextCandidate s).isSome = true) ∨
    (nextCandidate s = oldestOf s.ref.tick (candidates s) ∧ ∀ p ∈ candidates s, unsent p.2 = true) := by
  unfold nextCandidate
  rw [← candidates]
  dsimp only
  split
  · next p hp => exact .inl ⟨hp.symm, rfl⟩
  · next hnone => exact .inr ⟨rfl, by simpa [List.filter_eq_nil_iff] using oldestOf_none _ hnone⟩

/-- R63, R64: the oldest candidate of those not unsent, or else of the rest, the lower lane on a tie. -/
theorem nextCandidate_some (h : nextCandidate s = some (l, r)) : (r ∈ s.store.records[l] ∧ candidate s l r = true) ∧
    ∀ (m : Lane) (y : FrameRecord), y ∈ s.store.records[m] → candidate s m y = true →
      (unsent r = true → unsent y = true) ∧ (unsent y = unsent r →
        age s.ref.tick (m, y) < age s.ref.tick (l, r) ∨ (age s.ref.tick (m, y) = age s.ref.tick (l, r) ∧ l ≤ m)) := by
  have hsorted : (candidates s).Pairwise (fun a b => a.1 ≤ b.1) := (allRecords_lanes s.store).sublist List.filter_sublist
  rcases nextCandidate_cases s with ⟨e, -⟩ | ⟨e, hall⟩
  · obtain ⟨hmem, hold⟩ := oldestOf_some (hsorted.sublist List.filter_sublist) (e.symm.trans h)
    obtain ⟨hmem, hsent⟩ := List.mem_filter.1 hmem
    rw [Bool.not_eq_true'] at hsent
    refine ⟨mem_candidates.1 hmem, fun m y hy hc => ⟨fun hun => ?_, fun hsame => ?_⟩⟩
    · rw [hsent] at hun
      cases hun
    · exact hold (m, y) (List.mem_filter.2 ⟨mem_candidates.2 ⟨hy, hc⟩, by rw [hsame, hsent]; rfl⟩)
  · obtain ⟨hmem, hold⟩ := oldestOf_some hsorted (e.symm.trans h)
    exact ⟨mem_candidates.1 hmem, fun m y hy hc =>
      ⟨fun _ => hall (m, y) (mem_candidates.2 ⟨hy, hc⟩), fun _ => hold (m, y) (mem_candidates.2 ⟨hy, hc⟩)⟩⟩

theorem nextCandidate_none (h : ∀ l : Lane, s.store.records[l] = []) : nextCandidate s = none := by
  cases hn : nextCandidate s with
  | none => rfl
  | some p =>
    obtain ⟨⟨hmem, -⟩, -⟩ := nextCandidate_some (l := p.1) (r := p.2) hn
    rw [h] at hmem
    cases hmem

/-! ## One turn (R63 to R65) -/

/-- The machine after a turn of reclaim has taken a record: freed and counted, and, of an unsent one, its lane's earlier
unsent records abandoned. -/
def reclaimOne (l : Lane) (r : FrameRecord) (s : State) : State :=
  let u := (s.withStore (freeRecord s.store l r)).bump ctrFramesReclaimed 1
  if unsent r then reclaimUnsent l r u else u

theorem reclaim_met (h : reserveMet s.store = true) (n : Nat) (orders : List Lane) : reclaim n orders s = (s, orders) := by
  cases n with
  | zero => rfl
  | succ n => rw [reclaim, if_pos h]

theorem reclaim_spent (h : nextCandidate s = none) (n : Nat) (orders : List Lane) : reclaim n orders s = (s, orders) := by
  cases n with
  | zero => rfl
  | succ n =>
    rw [reclaim, h]
    exact ite_self _

theorem reclaim_takes (hm : reserveMet s.store = false) (h : nextCandidate s = some (l, r)) (n : Nat) (orders : List Lane) :
    reclaim (n + 1) orders s = reclaim n (if unsent r then orders ++ [l] else orders) (reclaimOne l r s) := by
  rw [reclaim, if_neg (by simp [hm]), h]
  dsimp only
  unfold reclaimOne
  split <;> rfl

/-- What a turn makes of a record of its lane that stays: an earlier unsent one is abandoned after an unsent one. -/
def afterTurn (r x : FrameRecord) : FrameRecord :=
  if unsent r = true ∧ earlier x.tick r.tick = true ∧ unsent x = true then { x with live := .abandoned } else x

@[simp] theorem requestKey_store (s : State) (l : Lane) : (s.requestKey l).store = s.store := rfl
@[simp] theorem requestKey_asm (s : State) (l : Lane) : (s.requestKey l).asm = s.asm := rfl
@[simp] theorem requestKey_engines (s : State) (l : Lane) : (s.requestKey l).engines = s.engines := rfl

theorem reclaimOne_unsent (h : unsent r = true) (s : State) : reclaimOne l r s =
    reclaimUnsent l r ((s.withStore (freeRecord s.store l r)).bump ctrFramesReclaimed 1) := if_pos h

theorem reclaimOne_sent (h : unsent r = false) (s : State) :
    reclaimOne l r s = (s.withStore (freeRecord s.store l r)).bump ctrFramesReclaimed 1 := if_neg (by simp [h])

theorem reclaimUnsent_store (l : Lane) (r : FrameRecord) (s : State) :
    (reclaimUnsent l r s).store = abandonWhere s.store l (fun x => earlier x.tick r.tick) := by simp [reclaimUnsent]

theorem reclaimOne_lane (l : Lane) (r : FrameRecord) (s : State) : (reclaimOne l r s).store.records[l] =
    (s.store.records[l].filter (fun x => decide (x.tick ≠ r.tick))).map (afterTurn r) := by
  cases h : unsent r with
  | true =>
    rw [reclaimOne_unsent h, reclaimUnsent_store, State.bump_store]
    simp only [abandonWhere, freeRecord, State.withStore_store, lane_set, if_true]
    refine List.map_congr_left fun x _ => ?_
    simp [afterTurn, h]
  | false =>
    rw [reclaimOne_sent h]
    simp only [freeRecord, State.bump_store, State.withStore_store, lane_set, if_true]
    refine ((List.map_congr_left fun x _ => ?_).trans (List.map_id' _)).symm
    simp [afterTurn, h]

theorem reclaimOne_other (h : m ≠ l) (r : FrameRecord) (s : State) :
    (reclaimOne l r s).store.records[m] = s.store.records[m] := by
  cases hr : unsent r with
  | true =>
    rw [reclaimOne_unsent hr, reclaimUnsent_store, State.bump_store]
    simp only [abandonWhere, freeRecord, State.withStore_store, lane_set, if_neg h.symm]
  | false =>
    rw [reclaimOne_sent hr]
    simp only [freeRecord, State.bump_store, State.withStore_store, lane_set, if_neg h.symm]

theorem reclaimOne_asm (l : Lane) (r : FrameRecord) (s : State) : (reclaimOne l r s).asm = s.asm := by
  cases h : unsent r with
  | true => simp [reclaimOne_unsent h, reclaimUnsent]
  | false => simp [reclaimOne_sent h]

theorem reclaimOne_engines (l : Lane) (r : FrameRecord) (s : State) : (reclaimOne l r s).engines = s.engines := by
  cases h : unsent r with
  | true => simp [reclaimOne_unsent h, reclaimUnsent]
  | false => simp [reclaimOne_sent h]

theorem afterTurn_tick (r x : FrameRecord) : (afterTurn r x).tick = x.tick := by unfold afterTurn; split <;> rfl

theorem recordsInUse_reclaimOne (h : r ∈ s.store.records[l]) :
    recordsInUse (reclaimOne l r s).store < recordsInUse s.store := by
  have hset := recordsInUse_set (st := s.store) (st' := freeRecord s.store l r) rfl
  have hless := List.length_filter_lt_length_iff_exists (p := fun x : FrameRecord => decide (x.tick ≠ r.tick)).2
    ⟨r, h, by simp⟩
  have hturn : recordsInUse (reclaimOne l r s).store = recordsInUse (freeRecord s.store l r) := by
    cases h : unsent r with
    | true => rw [reclaimOne_unsent h, reclaimUnsent_store, recordsInUse_abandonWhere]; rfl
    | false => rw [reclaimOne_sent h]; rfl
  omega

/-! ## When the turns end -/

/-- With a turn for every record reclaim ends with the reserve met or with no candidate left. -/
theorem reclaim_ends : ∀ (n : Nat) (orders : List Lane) (s : State), recordsInUse s.store ≤ n →
    reserveMet (reclaim n orders s).1.store = true ∨ nextCandidate (reclaim n orders s).1 = none := by
  intro n
  induction n with
  | zero =>
    intro orders s h
    refine .inr (nextCandidate_none fun l => ?_)
    rw [recordsInUse_flatMap, Nat.le_zero, List.length_eq_zero_iff, List.flatMap_eq_nil_iff] at h
    exact h l (List.mem_finRange l)
  | succ n ih =>
    intro orders s h
    cases hm : reserveMet s.store with
    | true =>
      rw [reclaim_met hm]
      exact .inl hm
    | false =>
      cases hn : nextCandidate s with
      | none =>
        rw [reclaim_spent hn]
        exact .inr hn
      | some p =>
        have hless := recordsInUse_reclaimOne (nextCandidate_some (l := p.1) (r := p.2) hn).1.1
        rw [reclaim_takes hm hn]
        exact ih _ _ (by omega)

/-! ## The records that are spared (R63) -/

/-- The record is pinned, being written, or named by a cursor. -/
def spared (s : State) (l : Lane) (r : FrameRecord) : Prop :=
  0 < r.pins ∨ r.complete = false ∨ cursorNames s l r.tick = true

theorem not_candidate (h : spared s l r) : candidate s l r = false := by
  rw [candidate, Bool.eq_false_iff]
  intro hc
  simp only [Bool.and_eq_true, decide_eq_true_eq, Bool.not_eq_true'] at hc
  obtain ⟨⟨hcomplete, hpins⟩, hcursor⟩ := hc
  rcases h with h | h | h
  · omega
  · rw [h] at hcomplete
    cases hcomplete
  · rw [h] at hcursor
    cases hcursor

theorem cursorNames_reclaimOne (k : Lane) (q : FrameRecord) (s : State) (l : Lane) (t : Word) :
    cursorNames (reclaimOne k q s) l t = cursorNames s l t := by
  rw [cursorNames, reclaimOne_asm, reclaimOne_engines]
  rfl

/-- The ticks of each lane's records stay distinct through a turn. -/
theorem nodup_reclaimOne (h : ∀ m : Lane, (s.store.records[m].map FrameRecord.tick).Nodup) (k : Lane) (q : FrameRecord)
    (m : Lane) : ((reclaimOne k q s).store.records[m].map FrameRecord.tick).Nodup := by
  by_cases hm : m = k
  · subst hm
    have hticks : FrameRecord.tick ∘ afterTurn q = FrameRecord.tick := funext fun x => afterTurn_tick q x
    rw [reclaimOne_lane, List.map_map, hticks]
    exact (h m).sublist (List.filter_sublist.map _)
  · rw [reclaimOne_other hm]
    exact h m

/-- A turn leaves a spared record in its place, its live state apart. -/
theorem spared_reclaimOne (hn : ∀ m : Lane, (s.store.records[m].map FrameRecord.tick).Nodup) (hr : r ∈ s.store.records[l])
    (hs : spared s l r) {k : Lane} {q : FrameRecord} (hq : nextCandidate s = some (k, q)) :
    ∃ v, { r with live := v } ∈ (reclaimOne k q s).store.records[l] := by
  by_cases hk : l = k
  · subst hk
    obtain ⟨⟨hmem, hcand⟩, -⟩ := nextCandidate_some hq
    have htick : r.tick ≠ q.tick := fun he => by
      rw [← List.inj_on_of_nodup_map (hn l) hr hmem he, not_candidate hs] at hcand
      cases hcand
    have hkept : r ∈ s.store.records[l].filter (fun x => decide (x.tick ≠ q.tick)) :=
      List.mem_filter.2 ⟨hr, decide_eq_true htick⟩
    rw [reclaimOne_lane]
    have hafter := List.mem_map_of_mem (f := afterTurn q) hkept
    unfold afterTurn at hafter ⊢
    split at hafter
    · exact ⟨.abandoned, hafter⟩
    · exact ⟨r.live, hafter⟩
  · rw [reclaimOne_other hk]
    exact ⟨r.live, hr⟩

theorem reclaim_spares : ∀ (n : Nat) (orders : List Lane) (s : State) (r : FrameRecord),
    (∀ m : Lane, (s.store.records[m].map FrameRecord.tick).Nodup) → r ∈ s.store.records[l] → spared s l r →
    ∃ v, { r with live := v } ∈ (reclaim n orders s).1.store.records[l] := by
  intro n
  induction n with
  | zero => exact fun _ _ r _ hr _ => ⟨r.live, hr⟩
  | succ n ih =>
    intro orders s r hn hr hs
    cases hm : reserveMet s.store with
    | true =>
      rw [reclaim_met hm]
      exact ⟨r.live, hr⟩
    | false =>
      cases hq : nextCandidate s with
      | none =>
        rw [reclaim_spent hq]
        exact ⟨r.live, hr⟩
      | some p =>
        obtain ⟨v, hv⟩ := spared_reclaimOne hn hr hs (k := p.1) (q := p.2) hq
        have hspared : spared (reclaimOne p.1 p.2 s) l { r with live := v } := by
          rwa [spared, cursorNames_reclaimOne]
        rw [reclaim_takes hm hq]
        exact ih _ _ { r with live := v } (nodup_reclaimOne hn p.1 p.2) hv hspared

end Sys2Proof.Machine
end

section
/-! SUPPORT. A lane that enters awaiting key (R121, R125, R127): where its cursor seeks to, the stale cells that are dropped,
and what both leave alone; the settlement of O22. -/

namespace Sys2Proof.Machine

variable {s t u : State} {l m : Lane} {r y : FrameRecord}

/-! ## Seeking (R125) -/

/-- While the lane awaits a key the cursor passes over a record that is ABANDONED or DELTA. -/
theorem seek_skips (ha : s.asm.awaiting[l] = true) (hr : r.live = .abandoned ∨ r.kind = .delta) (rs : List FrameRecord) :
    ∃ st, seek l (r :: rs) s = seek l rs (s.withStore st) := by
  rw [seek]
  split
  · exact ⟨s.store, rfl⟩
  · next hlive =>
    rw [if_pos (by simp [ha, hr.resolve_left hlive])]
    split
    · exact ⟨_, rfl⟩
    · exact ⟨s.store, rfl⟩

/-- A KEY record that is not ABANDONED ends the seeking, and the wait for a key. -/
theorem seek_key (hr : r.live ≠ .abandoned) (hk : r.kind = .key) (rs : List FrameRecord) :
    seek l (r :: rs) s = (s.setCursor l (some ⟨r.tick, 0, 0⟩)).setAwaiting l false := by
  rw [seek, if_neg hr, if_neg (by simp [hk])]
  exact if_pos hk

theorem seek_finds {behind : List FrameRecord} (hlive : y.live ≠ .abandoned) (hk : y.kind = .key) :
    ∀ (before : List FrameRecord) (s : State), s.asm.awaiting[l] = true →
      (∀ z ∈ before, z.live = .abandoned ∨ z.kind = .delta) →
      (seek l (before ++ y :: behind) s).asm.cursors[l] = some ⟨y.tick, 0, 0⟩ ∧
        (seek l (before ++ y :: behind) s).asm.awaiting[l] = false := by
  intro before
  induction before with
  | nil =>
    intro s _ _
    rw [List.nil_append, seek_key hlive hk]
    exact ⟨setCursor_lane s l _, setAwaiting_lane _ l false⟩
  | cons z before ih =>
    intro s ha hz
    obtain ⟨hfirst, hz⟩ := List.forall_mem_cons.1 hz
    obtain ⟨st, e⟩ := seek_skips ha hfirst (before ++ y :: behind)
    rw [List.cons_append, e]
    exact ih (s.withStore st) ha hz

theorem seek_fails : ∀ (rs : List FrameRecord) (s : State), s.asm.awaiting[l] = true →
    (∀ z ∈ rs, z.live = .abandoned ∨ z.kind = .delta) →
    (seek l rs s).asm.cursors[l] = none ∧ (seek l rs s).asm.awaiting[l] = true := by
  intro rs
  induction rs with
  | nil => exact fun s ha _ => ⟨setCursor_lane s l none, ha⟩
  | cons z rs ih =>
    intro s ha hz
    obtain ⟨hfirst, hz⟩ := List.forall_mem_cons.1 hz
    obtain ⟨st, e⟩ := seek_skips ha hfirst rs
    rw [e]
    exact ih (s.withStore st) ha hz

/-! ## What the seeking leaves alone -/

/-- An act on one lane's cursor: the generations, the redispatch list, the other lanes' cursors and records and the other
blocks stand. -/
structure CursorActs (l : Lane) (s t : State) : Prop where
  gen : t.asm.gen = s.asm.gen
  redispatch : t.asm.redispatch = s.asm.redispatch
  others : ∀ m, m ≠ l → t.asm.cursors[m] = s.asm.cursors[m] ∧ t.asm.awaiting[m] = s.asm.awaiting[m] ∧
    t.store.records[m] = s.store.records[m]
  handler : t.handler = s.handler
  lanes : t.lanes = s.lanes
  paths : t.paths = s.paths
  mixer : t.mixer = s.mixer
  clips : t.clips = s.clips
  engines : t.engines = s.engines
  ref : t.ref = s.ref

theorem CursorActs.refl (l : Lane) (s : State) : CursorActs l s s :=
  ⟨rfl, rfl, fun _ _ => ⟨rfl, rfl, rfl⟩, rfl, rfl, rfl, rfl, rfl, rfl, rfl⟩

theorem CursorActs.trans (h : CursorActs l s t) (g : CursorActs l t u) : CursorActs l s u where
  gen := g.gen.trans h.gen
  redispatch := g.redispatch.trans h.redispatch
  others := fun m hm => by
    obtain ⟨hc, ha, hr⟩ := h.others m hm
    obtain ⟨gc, ga, gr⟩ := g.others m hm
    exact ⟨gc.trans hc, ga.trans ha, gr.trans hr⟩
  handler := g.handler.trans h.handler
  lanes := g.lanes.trans h.lanes
  paths := g.paths.trans h.paths
  mixer := g.mixer.trans h.mixer
  clips := g.clips.trans h.clips
  engines := g.engines.trans h.engines
  ref := g.ref.trans h.ref

theorem cursorActs_setCursor (l : Lane) (c : Option Cursor) (s : State) : CursorActs l s (s.setCursor l c) :=
  ⟨rfl, rfl, fun _ hm => ⟨(lane_set ..).trans (if_neg hm.symm), rfl, rfl⟩, rfl, rfl, rfl, rfl, rfl, rfl, rfl⟩

theorem cursorActs_setAwaiting (l : Lane) (b : Bool) (s : State) : CursorActs l s (s.setAwaiting l b) :=
  ⟨rfl, rfl, fun _ hm => ⟨rfl, (lane_set ..).trans (if_neg hm.symm), rfl⟩, rfl, rfl, rfl, rfl, rfl, rfl, rfl⟩

theorem cursorActs_setLive (l : Lane) (k : Word) (v : LiveState) (s : State) :
    CursorActs l s (s.withStore (setLive s.store l k v)) :=
  ⟨rfl, rfl, fun _ hm => ⟨rfl, rfl, updRecord_other hm ..⟩, rfl, rfl, rfl, rfl, rfl, rfl, rfl⟩

theorem cursorActs_seek (l : Lane) : ∀ (rs : List FrameRecord) (s : State), CursorActs l s (seek l rs s)
  | [], s => cursorActs_setCursor l none s
  | r :: rs, s => by
    rw [seek]
    split
    · exact cursorActs_seek l rs s
    · split
      · split
        · exact (cursorActs_setLive l r.tick .abandoned s).trans (cursorActs_seek l rs _)
        · exact cursorActs_seek l rs s
      · dsimp only
        split
        · exact (cursorActs_setCursor l _ s).trans (cursorActs_setAwaiting l false _)
        · exact cursorActs_setCursor l _ s

theorem cursorActs_leaveAbandoned (l : Lane) (s : State) : CursorActs l s (leaveAbandoned l s) := by
  unfold leaveAbandoned
  split
  · exact .refl l s
  · split
    · split
      · exact cursorActs_seek l _ s
      · exact .refl l s
    · exact .refl l s

/-- R127: a cursor that names no ABANDONED record stays. -/
theorem leaveAbandoned_stays (h : ∀ c r, s.asm.cursors[l] = some c → findRecord s.store l c.tick = some r →
    r.live ≠ .abandoned) : leaveAbandoned l s = s := by
  unfold leaveAbandoned
  split
  · rfl
  · next c hc =>
    split
    · next r hr => exact if_neg (h c r hc hr)
    · rfl

/-- R127: a cursor that names an ABANDONED record seeks onward from it. -/
theorem leaveAbandoned_seeks {c : Cursor} (hc : s.asm.cursors[l] = some c) (hr : findRecord s.store l c.tick = some r)
    (h : r.live = .abandoned) : leaveAbandoned l s = seek l (recordsAfter s.store l c.tick) s := by
  rw [leaveAbandoned, hc]
  dsimp only
  rw [hr]
  exact if_pos h

/-! ## Stale cells (R121) -/

/-- The front cells that their generation has left behind are dropped and counted, and nothing else. -/
structure Dropped (s t : State) : Prop where
  asm : t.asm = { s.asm with redispatch := s.asm.redispatch.dropWhile (staleCell s.asm.gen) }
  count : t.handler.counters[ctrRedispatchDropped] = s.handler.counters[ctrRedispatchDropped]
    + BitVec.ofNat 32 (s.asm.redispatch.length - t.asm.redispatch.length)
  store : t.store = s.store
  lanes : t.lanes = s.lanes
  paths : t.paths = s.paths
  mixer : t.mixer = s.mixer
  clips : t.clips = s.clips
  engines : t.engines = s.engines
  ref : t.ref = s.ref

theorem dropped_none (h : s.asm.redispatch.dropWhile (staleCell s.asm.gen) = s.asm.redispatch) : Dropped s s where
  asm := by rw [h]
  count := by rw [Nat.sub_self]; exact (BitVec.add_zero _).symm
  store := rfl
  lanes := rfl
  paths := rfl
  mixer := rfl
  clips := rfl
  engines := rfl
  ref := rfl

theorem dropped_dropStale : ∀ (n : Nat) (s : State), s.asm.redispatch.length ≤ n → Dropped s (dropStale n s) := by
  intro n
  induction n with
  | zero =>
    intro s h
    refine dropped_none ?_
    rw [List.length_eq_zero_iff.1 (Nat.le_zero.1 h)]
    rfl
  | succ n ih =>
    intro s h
    unfold dropStale
    split
    · next c rest hq =>
      rw [hq, List.length_cons] at h
      split
      · next hstale =>
        have hrest := ih ((s.withAsm { s.asm with redispatch := rest }).bump ctrRedispatchDropped 1) (by
          rw [State.bump_asm]
          exact Nat.le_of_succ_le_succ h)
        have hasm : _ = ({ s.asm with redispatch := rest.dropWhile (staleCell s.asm.gen) } : Assembler) := hrest.asm
        refine ⟨?_, ?_, hrest.store, hrest.lanes, hrest.paths, hrest.mixer, hrest.clips, hrest.engines, hrest.ref⟩
        · rw [hasm, hq, List.dropWhile_cons_of_pos hstale]
        · have hone := bump_counter_self (s.withAsm { s.asm with redispatch := rest }) (c := ctrRedispatchDropped) 1
            (by decide)
          have hle := (List.dropWhile_sublist (l := rest) (staleCell s.asm.gen)).length_le
          rw [hrest.count, hone, hasm, hq]
          simp only [State.bump_asm, State.withAsm_asm, State.withAsm_handler, List.length_cons]
          rw [BitVec.add_assoc, ← BitVec.ofNat_add]
          congr 2
          omega
      · next hfresh =>
        refine dropped_none ?_
        rw [hq, List.dropWhile_cons_of_neg hfresh]
    · next hq =>
      refine dropped_none ?_
      rw [hq]
      rfl

theorem dropped_settleRedispatch (s : State) : Dropped s (settleRedispatch s) := dropped_dropStale _ s (le_refl _)

/-! ## Awaiting key (R127) -/

/-- The lane's flag is set and its generation rises. -/
def setWaiting (l : Lane) (s : State) : State :=
  s.withAsm { s.asm with awaiting := s.asm.awaiting.set l true, gen := s.asm.gen.set l (s.asm.gen[l] + 1) }

theorem setWaiting_lane (l : Lane) (s : State) : (setWaiting l s).asm.awaiting[l] = true :=
  (lane_set ..).trans (if_pos rfl)

theorem setWaiting_other (h : m ≠ l) (s : State) : (setWaiting l s).asm.awaiting[m] = s.asm.awaiting[m] :=
  (lane_set ..).trans (if_neg h.symm)

/-- R127, R121: entering awaiting key is the flag, the cursor's leaving of an ABANDONED record, and the drop of what the
generation leaves behind. -/
theorem dropped_enterAwaiting (l : Lane) (s : State) :
    Dropped (leaveAbandoned l (setWaiting l s)) (enterAwaiting l s) := dropped_settleRedispatch _

theorem enterAwaiting_gen (l : Lane) (s : State) :
    (enterAwaiting l s).asm.gen = s.asm.gen.set l (s.asm.gen[l] + 1) := by
  rw [(dropped_enterAwaiting l s).asm]
  exact (cursorActs_leaveAbandoned l (setWaiting l s)).gen

theorem enterAwaiting_redispatch (l : Lane) (s : State) : (enterAwaiting l s).asm.redispatch =
    s.asm.redispatch.dropWhile (staleCell (enterAwaiting l s).asm.gen) := by
  have hacts := cursorActs_leaveAbandoned l (setWaiting l s)
  rw [enterAwaiting_gen, (dropped_enterAwaiting l s).asm, hacts.gen, hacts.redispatch]
  rfl

theorem enterAwaiting_count (l : Lane) (s : State) : (enterAwaiting l s).handler.counters[ctrRedispatchDropped] =
    s.handler.counters[ctrRedispatchDropped]
      + BitVec.ofNat 32 (s.asm.redispatch.length - (enterAwaiting l s).asm.redispatch.length) := by
  have hacts := cursorActs_leaveAbandoned l (setWaiting l s)
  rw [(dropped_enterAwaiting l s).count, hacts.handler, hacts.redispatch]
  rfl

theorem enterAwaiting_other (h : m ≠ l) (s : State) : (enterAwaiting l s).asm.cursors[m] = s.asm.cursors[m] ∧
    (enterAwaiting l s).asm.awaiting[m] = s.asm.awaiting[m] ∧
    (enterAwaiting l s).store.records[m] = s.store.records[m] := by
  obtain ⟨hc, ha, hr⟩ := (cursorActs_leaveAbandoned l (setWaiting l s)).others m h
  rw [(dropped_enterAwaiting l s).asm, (dropped_enterAwaiting l s).store]
  exact ⟨hc, ha.trans (setWaiting_other h s), hr⟩

/-- The cursor, the flag and the records are as the leaving of an ABANDONED record has them. -/
theorem enterAwaiting_cursor {v : State} (h : leaveAbandoned l (setWaiting l s) = v) :
    (enterAwaiting l s).asm.awaiting = v.asm.awaiting ∧ (enterAwaiting l s).asm.cursors = v.asm.cursors ∧
      (enterAwaiting l s).store = v.store := by
  have hdropped := dropped_enterAwaiting l s
  rw [h] at hdropped
  rw [hdropped.asm]
  exact ⟨rfl, rfl, hdropped.store⟩

/-! ## The obligation -/

theorem requestKey_lane (s : State) (l : Lane) : (s.requestKey l).lanes[l].keyReq = true ∨ s.lanes[l].state = .off := by
  by_cases h : s.lanes[l].state = .off
  · exact .inr h
  · refine .inl ?_
    rw [requestKey_running h, setLane_lane]

/-- R65: what the reclaim of an unsent record does to its lane. -/
theorem reclaimUnsent_acts (l : Lane) (r : FrameRecord) (u : State) :
    (reclaimUnsent l r u).store.records[l] = u.store.records[l].map (fun x =>
      if earlier x.tick r.tick = true ∧ unsent x = true then { x with live := .abandoned } else x) ∧
    (∀ m, m ≠ l → (reclaimUnsent l r u).store.records[m] = u.store.records[m]) ∧
    (reclaimUnsent l r u).store.free = u.store.free ∧
    ((reclaimUnsent l r u).lanes[l].keyReq = true ∨ u.lanes[l].state = .off) ∧
    (.storePressure, l.val) ∈ (reclaimUnsent l r u).handler.flags := by
  rw [reclaimUnsent_store]
  refine ⟨?_, fun m hm => (lane_set ..).trans (if_neg hm.symm), rfl, ?_, mem_flags_count ..⟩
  · rw [abandonWhere, lane_set, if_pos rfl]
    refine List.map_congr_left fun x _ => ?_
    simp
  · rw [reclaimUnsent, State.count_lanes]
    exact requestKey_lane (u.withStore _) l

/-- Settles O22: an offer reclaims until the reserve is met or no candidate is left; each turn takes the oldest candidate
and none that is spared, and the lanes whose unsent records it took then wait for a key, each with its cursor led past
what was abandoned. -/
theorem framesAreOfferedAndReclaimed : Obligations.FramesAreOfferedAndReclaimed := by
  refine ⟨fun s l t tc kind n => ⟨fun r hr hlate => offerFrame_late (tickTest_false hr hlate) tc kind n, fun hnew => ?_⟩,
    fun s l r h => ?_, ?_, fun s orders n => reclaim_ends n orders s, fun s l r n orders hn hr hs => ?_,
    fun s l ls => ⟨rfl, rfl⟩, ?_⟩
  · have htick := tickTest_true hnew
    refine ⟨fun hmet => ?_, ?_⟩
    · obtain ⟨hroom, b, rest, hfree⟩ := reserveMet_room hmet
      exact ⟨b, rest, hfree, offerFrame_takes htick (makeReserve_met hmet) hroom hfree tc kind n⟩
    · rintro u hmet rfl
      have hu := makeReserve_reclaims hmet
      exact ⟨fun b rest hroom hfree => offerFrame_takes htick hu hroom hfree tc kind n,
        fun hfull => offerFrame_dropped htick hu hfull tc kind n⟩
  · obtain ⟨⟨hmem, hcand⟩, hfirst⟩ := nextCandidate_some h
    exact ⟨hmem, hcand, hfirst⟩
  · rintro s u l r n orders hmet hnext rfl
    refine ⟨fun hsent => ?_, fun hun => ?_⟩
    · rw [reclaim_takes hmet hnext, hsent, reclaimOne_sent hsent]
      rfl
    · refine ⟨_, ?_, reclaimUnsent_acts l r _⟩
      rw [reclaim_takes hmet hnext, if_pos hun, reclaimOne_unsent hun]
      rfl
  · obtain ⟨v, hv⟩ := reclaim_spares n orders s r hn hr hs
    exact ⟨_, hv, rfl, rfl, rfl, rfl, rfl⟩
  · rintro s t l rfl
    have hdropped := dropped_enterAwaiting l s
    have hacts := cursorActs_leaveAbandoned l (setWaiting l s)
    refine ⟨enterAwaiting_gen l s, fun hstays => enterAwaiting_cursor (leaveAbandoned_stays (s := setWaiting l s) hstays),
      ?_, fun m hm => enterAwaiting_other hm s, enterAwaiting_redispatch l s, enterAwaiting_count l s,
      hdropped.lanes.trans hacts.lanes, hdropped.paths.trans hacts.paths, hdropped.mixer.trans hacts.mixer,
      hdropped.clips.trans hacts.clips, hdropped.engines.trans hacts.engines, hdropped.ref.trans hacts.ref⟩
    rintro c r v hc hr hlive rfl
    obtain ⟨hawaiting, hcursors, hstore⟩ :=
      enterAwaiting_cursor (leaveAbandoned_seeks (s := setWaiting l s) hc hr hlive)
    refine ⟨hawaiting, hcursors, hstore, fun before y behind hbehind hk hy hbefore => ?_, fun hall => ?_⟩
    · rw [hawaiting, hcursors]
      have hfound := seek_finds (behind := behind) hy hk before (setWaiting l s) (setWaiting_lane l s) hbefore
      rwa [← hbehind] at hfound
    · rw [hawaiting, hcursors]
      exact seek_fails _ (setWaiting l s) (setWaiting_lane l s) hall

end Sys2Proof.Machine
end

section
/-! SUPPORT. The arithmetic of the source stage and the bus stage (R75 to R77, R79, R80): one sample of each. -/

namespace Sys2Proof.Machine

variable {w lv t : Nat} {inv : Bool} {f : Fade} {h : DelayHistory} {y : Sample}

/-! ## The word length, the polarity and the delay (R75, R76) -/

/-- R75: a cut sample is the greatest multiple of its step that is not above it. -/
theorem cutWord_bounds (w : Nat) (x : Sample) :
    cutWord w x ≤ x ∧ x < cutWord w x + 2 ^ (24 - w) ∧ (2 ^ (24 - w) : Int) ∣ cutWord w x := by
  have hpos : (0 : Int) < 2 ^ (24 - w) := by positivity
  rw [cutWord, floorDiv, Int.fdiv_eq_ediv_of_nonneg _ hpos.le]
  refine ⟨Int.ediv_mul_le x hpos.ne', ?_, Int.dvd_mul_left _ _⟩
  have := Int.lt_ediv_add_one_mul_self x hpos
  rwa [Int.add_mul, Int.one_mul] at this

theorem polarity_turned {x : Sample} (hx : x ≠ -8388608) : polarity true x = -x := if_neg hx

theorem delayed_within {d : Nat} (hd : h.start + d ≤ t) : delayed h t d = h.samples.getD d 0 := if_pos hd

theorem delayed_before {d : Nat} (hd : t < h.start + d) : delayed h t d = 0 := if_neg (Nat.not_le.2 hd)

/-! ## The fade (R77) -/

/-- R77: a fade at level 48 lets the sample through as it is. -/
theorem faded_full (y : Sample) : faded y 48 = y := Int.mul_tdiv_cancel y (by decide)

theorem faded_silent (y : Sample) : faded y 0 = 0 := by simp [faded, trunc]

theorem fadeMove_readDelay (f : Fade) : (fadeMove f).1.readDelay = f.readDelay := by
  unfold fadeMove
  split <;> rfl

theorem fadeMove_steady (hs : f.state = .steady) : fadeMove f = ({ f with level := 48 }, false) := by
  rw [fadeMove, hs]

theorem fadeMove_out (hs : f.state = .fadingOut) :
    fadeMove f = ({ f with level := f.level - 1 }, decide (f.level - 1 = 0)) := by
  rw [fadeMove, hs]

theorem fadeMove_in (hs : f.state = .fadingIn) : fadeMove f = ({ f with level := f.level + 1 }, false) := by
  rw [fadeMove, hs]

theorem fadeNext_jump (lv t : Nat) (f : Fade) (h : DelayHistory) : fadeNext lv t f true h =
    ({ f with readDelay := lv, state := .fadingIn }, { h with start := max h.start (t + 1 - f.readDelay) }) := rfl

theorem fadeNext_arrives (hs : f.state = .fadingIn) (hl : 48 ≤ f.level) :
    fadeNext lv t f false h = ({ f with state := .steady }, h) := by
  rw [fadeNext, if_neg Bool.false_ne_true, if_pos ⟨hs, hl⟩]

theorem fadeNext_stays (hs : f.state = .fadingIn → f.level < 48) : fadeNext lv t f false h = (f, h) := by
  rw [fadeNext, if_neg Bool.false_ne_true, if_neg fun ⟨hin, hl⟩ => Nat.not_le.2 (hs hin) hl]

/-- R77: the sample that a moved fade lets through, and the fade and the history for the next one. -/
def fadeStep (lv t : Nat) (y : Sample) (f : Fade) (h : DelayHistory) : Sample × Fade × DelayHistory :=
  (faded y (fadeMove f).1.level, fadeNext lv t (fadeMove f).1 (fadeMove f).2 h)

theorem fadeStep_steady (hs : f.state = .steady) : fadeStep lv t y f h = (y, { f with level := 48 }, h) := by
  rw [fadeStep, fadeMove_steady hs, faded_full, fadeNext_stays (by simp [hs])]

theorem fadeStep_out (hs : f.state = .fadingOut) (hl : 2 ≤ f.level) : fadeStep lv t y f h =
    (trunc (y * (f.level - 1 : Nat)) 48, { f with level := f.level - 1 }, h) := by
  rw [fadeStep, fadeMove_out hs, decide_eq_false (by omega), fadeNext_stays (by simp [hs])]
  rfl

/-- R77: at level 0 the fade jumps to the live delay, with no sample let through. -/
theorem fadeStep_jump (hs : f.state = .fadingOut) (hl : f.level ≤ 1) : fadeStep lv t y f h =
    (0, ⟨lv, .fadingIn, 0⟩, { h with start := max h.start (t + 1 - f.readDelay) }) := by
  have h0 : f.level - 1 = 0 := by omega
  rw [fadeStep, fadeMove_out hs, h0, decide_eq_true rfl, fadeNext_jump, faded_silent]

theorem fadeStep_in (hs : f.state = .fadingIn) (hl : f.level < 47) : fadeStep lv t y f h =
    (trunc (y * (f.level + 1 : Nat)) 48, { f with level := f.level + 1 }, h) := by
  rw [fadeStep, fadeMove_in hs, fadeNext_stays fun _ => Nat.succ_lt_succ hl]
  rfl

theorem fadeStep_arrives (hs : f.state = .fadingIn) (hl : f.level = 47) : fadeStep lv t y f h =
    (y, { f with level := 48, state := .steady }, h) := by
  rw [fadeStep, fadeMove_in hs, hl, fadeNext_arrives (f := { f with level := 48 }) hs le_rfl, faded_full]

/-- R75 to R77: the source stage cuts and turns a sample, reads the delayed one, and takes one step of the fade. -/
theorem sourceStage_step (w : Nat) (inv : Bool) (lv t : Nat) (x : Sample) (xs : List Sample) (f : Fade)
    {h h1 : DelayHistory} (hh : h1 = { h with samples := polarity inv (cutWord w x) :: h.samples })
    (hy : y = delayed h1 t f.readDelay) {z : Sample} {f' : Fade} {h' : DelayHistory}
    (hz : fadeStep lv t y f h1 = (z, f', h')) : sourceStage w inv lv t (x :: xs) f h =
      (z :: (sourceStage w inv lv (t + 1) xs f' h').1, (sourceStage w inv lv (t + 1) xs f' h').2) := by
  subst hh hy
  rw [← fadeMove_readDelay f, fadeStep, Prod.mk.injEq] at hz
  obtain ⟨rfl, hnext⟩ := hz
  rw [sourceStage, hnext]

/-! ## The bus stage (R79, R80) -/

/-- R79: the sum of the products of the sources and their coefficients. -/
theorem busSum_eq (zs : List Sample) (cs : List Int) : busSum zs cs = ((zs.zip cs).map (fun p => p.1 * p.2)).sum := by
  rw [busSum, ← List.sum_eq_foldl, List.zip, List.map_zipWith]

/-- R79, R80: the nearest multiple of 16,384, a half upward. -/
theorem roundUnity_bounds (x : Int) :
    16384 * roundUnity x ≤ x + 8192 ∧ x + 8192 < 16384 * roundUnity x + 16384 := by
  rw [roundUnity, floorDiv, Int.fdiv_eq_ediv_of_nonneg _ (by decide)]
  omega

/-- R80: a value in the range of a sample passes, and no bus clips. -/
theorem saturate_inside {x : Int} (hlo : -8388608 ≤ x) (hhi : x ≤ 8388607) : saturate x = x ∧ clips x = false := by
  have hlo' : ¬x < sampleMin := Int.not_lt.2 hlo
  have hhi' : ¬sampleMax < x := Int.not_lt.2 hhi
  rw [saturate, clampInt, clips, if_neg hlo', if_neg hhi', decide_eq_false hlo', decide_eq_false hhi']
  exact ⟨rfl, rfl⟩

theorem saturate_below {x : Int} (hx : x < -8388608) : saturate x = -8388608 ∧ clips x = true := by
  have hx' : x < sampleMin := hx
  rw [saturate, clampInt, clips, if_pos hx', decide_eq_true hx']
  exact ⟨rfl, rfl⟩

theorem saturate_above {x : Int} (hx : 8388607 < x) : saturate x = 8388607 ∧ clips x = true := by
  have hlo : ¬x < sampleMin := Int.not_lt.2 (by unfold sampleMin; omega)
  have hx' : sampleMax < x := hx
  rw [saturate, clampInt, clips, if_neg hlo, if_pos hx', decide_eq_true hx', Bool.or_true]
  exact ⟨rfl, rfl⟩

end Sys2Proof.Machine
end

section
/-! SUPPORT. The ramps of the coefficients (R85, R86), and the settlement of O26. -/

namespace Sys2Proof.Machine

variable {c : Coef} {n m ramp v : Nat}

/-! ## A coefficient some samples on (R86) -/

theorem ramping_iff : ramping c = true ↔ c.step < c.length := decide_eq_true_iff

theorem ramping_done : ramping c = false ↔ c.length ≤ c.step := by rw [ramping, decide_eq_false_iff_not, Nat.not_lt]

theorem coefAfter_done (n : Nat) (hc : c.length ≤ c.step) : coefAfter n c = c := by
  rw [coefAfter, ramping_done.2 hc, if_neg Bool.false_ne_true]

/-- R86: a ramp that still runs is so many steps on, its value on the line from its start to its target. -/
theorem coefAfter_ramping (n : Nat) (hc : c.step < c.length) : coefAfter n c = { c with
    value := c.start + trunc ((c.target - c.start) * (min c.length (c.step + n) : Nat)) c.length
    step := min c.length (c.step + n) } := by
  rw [coefAfter, coefAt, if_pos (ramping_iff.2 hc), if_pos (ramping_iff.2 hc)]

/-- R86: a ramp taken in two runs of samples is the ramp taken in one. -/
theorem coefAfter_coefAfter (n m : Nat) (c : Coef) : coefAfter m (coefAfter n c) = coefAfter (n + m) c := by
  rcases Nat.lt_or_ge c.step c.length with hc | hc
  · rw [coefAfter_ramping n hc, coefAfter_ramping (n + m) hc]
    rcases Nat.lt_or_ge (c.step + n) c.length with hn | hn
    · rw [Nat.min_eq_right hn.le, coefAfter_ramping m hn, Nat.add_assoc]
    · rw [Nat.min_eq_left hn, Nat.min_eq_left (by omega), coefAfter_done m le_rfl]
  · rw [coefAfter_done n hc, coefAfter_done m hc, coefAfter_done (n + m) hc]

/-- R86: after the steps that it still has to run, a ramp is at its target. -/
theorem coefAfter_ends (hc : c.step < c.length) (hn : c.length - c.step ≤ n) :
    (coefAfter n c).value = c.target ∧ ramping (coefAfter n c) = false := by
  have hlen : (c.length : Int) ≠ 0 := by omega
  rw [coefAfter_ramping n hc, Nat.min_eq_left (by omega), trunc, Int.mul_tdiv_cancel _ hlen]
  exact ⟨add_sub_cancel c.start c.target, ramping_done.2 le_rfl⟩

theorem coefAfter_within (hn : c.step + n ≤ c.length) (hc : c.step < c.length) :
    (coefAfter n c).value = c.start + Int.tdiv ((c.target - c.start) * ((c.step + n : Nat) : Int)) c.length ∧
    (coefAfter n c).step = c.step + n ∧ (coefAfter n c).target = c.target := by
  rw [coefAfter_ramping n hc, Nat.min_eq_right hn]
  exact ⟨rfl, rfl, rfl⟩

/-! ## A coefficient that is given a new value (R85, R86) -/

theorem retarget_kept (hv : c.target = v) : retarget ramp v c = c := if_pos hv

theorem retarget_jumps (hv : c.target ≠ v) : retarget 0 v c = ⟨v, v, v, 0, 0⟩ := by rw [retarget, if_neg hv, if_pos rfl]

theorem retarget_ramps (hv : c.target ≠ v) (hr : 0 < ramp) : retarget ramp v c = ⟨c.value, v, c.value, 0, ramp⟩ := by
  rw [retarget, if_neg hv, if_neg hr.ne']

theorem retarget_target (ramp v : Nat) (c : Coef) : (retarget ramp v c).target = v := by
  unfold retarget
  split
  · assumption
  · split <;> rfl

/-- R86: a ramp runs from the value that the coefficient has to the value looked up. -/
theorem retarget_line (hv : c.target ≠ v) (hr : 0 < ramp) : (retarget ramp v c).value = c.value ∧
    (coefAfter ramp (retarget ramp v c)).value = v ∧ (n ≤ ramp → (coefAfter n (retarget ramp v c)).value
      = c.value + Int.tdiv (((v : Int) - c.value) * n) ramp) := by
  rw [retarget_ramps hv hr]
  refine ⟨rfl, (coefAfter_ends (c := ⟨c.value, v, c.value, 0, ramp⟩) hr le_rfl).1, fun hn => ?_⟩
  obtain ⟨hvalue, -, -⟩ := coefAfter_within (c := ⟨c.value, v, c.value, 0, ramp⟩) (n := n) (by simpa using hn) hr
  rw [hvalue, Nat.zero_add]

/-! ## The obligation -/

/-- Settles O26: a sample through the source stage is one step of its source's fade, a bus output is two rounded
divisions, and a ramp is a line cut at its length. -/
theorem sourcesBusesAndRamps : Obligations.SourcesBusesAndRamps := by
  refine ⟨fun x w _ => cutWord_bounds w x, fun x => ⟨rfl, polarity_turned, rfl⟩,
    fun h t d => ⟨delayed_within, delayed_before⟩, fun w inv lv t x xs f h h1 y hh hy => ?_,
    fun zs cs m x => ?_, fun c n m ramp v => ?_⟩
  · obtain ⟨z, f', h', hz⟩ : ∃ z f' h', fadeStep lv t y f h1 = (z, f', h') := ⟨_, _, _, rfl⟩
    have hstep : ∀ {a b c}, fadeStep lv t y f h1 = (a, b, c) → z = a ∧ f' = b ∧ h' = c := fun h => by
      simpa using hz.symm.trans h
    exact ⟨z, f', h', sourceStage_step w inv lv t x xs f hh hy hz, fun hs => hstep (fadeStep_steady hs),
      fun hs hl => hstep (fadeStep_out hs hl), fun hs hl => hstep (fadeStep_jump hs hl),
      fun hs hl => hstep (fadeStep_in hs hl), fun hs hl => hstep (fadeStep_arrives hs hl)⟩
  · obtain ⟨hlow, hhigh⟩ := roundUnity_bounds x
    exact ⟨by rw [busOut, busSum_eq], hlow, hhigh, saturate_inside, saturate_below, saturate_above⟩
  · refine ⟨coefAfter_coefAfter n m c, coefAfter_ends, coefAfter_within, retarget_kept, fun hv =>
      ⟨retarget_target ramp v c, fun hr => ?_, retarget_line hv⟩⟩
    rw [hr, retarget_jumps hv]

end Sys2Proof.Machine
end

section
/-! SUPPORT. The words of a directive read as a list (R175, R186): the form that its name asks for, indices in a range, and
entries that stand once or never fall. -/

namespace Sys2Proof.Machine

variable {ws : List Word}

/-- R175: a directive that reaches its owner has the form of its name. -/
theorem shapeOk_of_reaches {n : DirName} {d : Directive} {s u : State} (h : reaches n d s u) :
    shapeOk n d.words = true := by
  obtain ⟨h, -⟩ := h
  simp only [reachesOwner, Bool.and_eq_true, Option.isNone_iff_eq_none] at h
  obtain ⟨-, h⟩ := h
  by_contra hs
  unfold vet at h
  split at h
  · cases h
  · split at h
    · cases h
    · rw [if_pos (by simp [hs])] at h
      cases h

theorem finOf_eq_some {n x : Nat} {i : Fin n} (h : finOf n x = some i) : x = i.val := by
  unfold finOf at h
  split at h
  · cases h
    rfl
  · cases h

theorem allSome_map_some {α : Type} : ∀ l : List α, allSome (l.map some) = some l
  | [] => rfl
  | a :: l => by rw [List.map_cons, allSome, allSome_map_some l, Option.map_some]

theorem allSome_none {α : Type} : ∀ {l : List (Option α)}, none ∈ l → allSome l = none
  | none :: _, _ => rfl
  | some a :: l, h => by rw [allSome, allSome_none (by simpa using h), Option.map_none]

theorem allSome_finOf {n : Nat} {l : List (Fin n)} (h : ws.map (fun w => w.toNat) = l.map Fin.val) :
    allSome (ws.map (fun w => finOf n w.toNat)) = some l := by
  have hmap : ws.map (fun w => finOf n w.toNat) = l.map some := by
    calc ws.map (fun w => finOf n w.toNat) = (ws.map (fun w => w.toNat)).map (finOf n) := by rw [List.map_map]; rfl
      _ = l.map some := by rw [h, List.map_map]; exact List.map_congr_left fun i _ => finOf_val rfl
  rw [hmap, allSome_map_some]

theorem allSome_finOf_none {n : Nat} (h : ∃ w ∈ ws, n ≤ w.toNat) :
    allSome (ws.map (fun w => finOf n w.toNat)) = none := by
  obtain ⟨w, hw, hn⟩ := h
  exact allSome_none (List.mem_map.2 ⟨w, hw, finOf_of_le hn⟩)

theorem distinct_iff_nodup {α : Type} [DecidableEq α] : ∀ l : List α, distinct l = true ↔ l.Nodup
  | [] => by simp [distinct]
  | a :: l => by simp [distinct, distinct_iff_nodup l]

theorem nonDecreasing_iff_isChain : ∀ l : List Nat, nonDecreasing l = true ↔ l.IsChain (· ≤ ·)
  | [] => by simp [nonDecreasing]
  | [_] => by simp [nonDecreasing]
  | a :: b :: l => by
    rw [nonDecreasing, Bool.and_eq_true, decide_eq_true_eq, nonDecreasing_iff_isChain (b :: l), List.isChain_cons_cons]

theorem getElem_toNat_words {i : Nat} (h : i < (ws.map (fun w => w.toNat)).length) :
    (ws.map (fun w => w.toNat))[i] = wordAt ws i := by
  rw [List.length_map] at h
  rw [List.getElem_map, wordAt, List.getD_eq_getElem _ _ h]

theorem getD_toNat_words (ws : List Word) (i : Nat) : (ws.map (fun w => w.toNat)).getD i 0 = wordAt ws i :=
  List.getD_map ws 0 fun w => w.toNat

end Sys2Proof.Machine
end

section
/-! SUPPORT. The owners' answers to XPNT, BMST, SRCE, HOME, TAKE, RAMP, FLAW and RDMT (R78, R81 to R84, R86, R89). -/

namespace Sys2Proof.Machine

variable {ws : List Word} {u : State} {src : Fin 36} {b : Fin 8}

/-! ## XPNT and BMST (R82) -/

theorem actXpnt_ok (hsrc : wordAt ws 0 = src.val) (hb : wordAt ws 1 = b.val) (hp : wordAt ws 2 ≤ 255) :
    actXpnt ws u = success (u.withMixer { u.mixer with
      cued := { u.mixer.cued with xp := u.mixer.cued.xp.set (src.val * 8 + b.val) (wordAt ws 2) (by omega) } }) := by
  rw [actXpnt, finOf_val hsrc, finOf_val hb]
  exact if_neg (Nat.not_lt.2 hp)

theorem actXpnt_range (h : 35 < wordAt ws 0 ∨ 7 < wordAt ws 1 ∨ 255 < wordAt ws 2) :
    actXpnt ws u = refuse u .range := by
  unfold actXpnt
  split
  · next src b hsrc hb =>
    have hsrc := finOf_eq_some hsrc
    have hb := finOf_eq_some hb
    exact if_pos (by omega)
  · rfl

theorem actBmst_ok (hb : wordAt ws 0 = b.val) (hp : wordAt ws 1 ≤ 255) : actBmst ws u = success (u.withMixer
    { u.mixer with cued := { u.mixer.cued with masters := u.mixer.cued.masters.set b (wordAt ws 1) } }) := by
  rw [actBmst, finOf_val hb]
  exact if_neg (Nat.not_lt.2 hp)

theorem actBmst_range (h : 7 < wordAt ws 0 ∨ 255 < wordAt ws 1) : actBmst ws u = refuse u .range := by
  unfold actBmst
  split
  · next b hb =>
    have hb := finOf_eq_some hb
    exact if_pos (by omega)
  · rfl

/-! ## SRCE (R78) -/

theorem sumOf_eq (v : Vector Nat 36) : sumOf v = v.toList.sum := List.sum_eq_foldl.symm

/-- R78: SRCE with its words in range goes by what the delays of the cued bank would sum to. -/
theorem actSrce_eq {w : Nat} {inv : Bool} {delays : Vector Nat 36} (hsrc : wordAt ws 0 = src.val) (hw : wordAt ws 1 = w)
    (hlen : w = 16 ∨ w = 20 ∨ w = 24) (hinv : wordAt ws 2 = inv.toNat) (hd : wordAt ws 3 ≤ 9600)
    (hdelays : delays = u.mixer.cued.delays.set src (wordAt ws 3)) : actSrce ws u =
      if 131072 < delays.toList.sum then refuse u .full
      else reply (u.withMixer { u.mixer with
        wordLens := u.mixer.wordLens.set src w
        cued := { u.mixer.cued with delays := delays, invert := u.mixer.cued.invert.set src inv } })
        (.words [BitVec.ofNat 32 delays.toList.sum]) := by
  subst hw hdelays
  rw [actSrce, finOf_val hsrc, hinv, boolOf_toNat, ← sumOf_eq]
  refine if_neg ?_
  simp only [Bool.or_eq_true, Bool.not_eq_true', Bool.or_eq_false_iff, beq_eq_false_iff_ne, decide_eq_true_eq]
  omega

theorem actSrce_range (h : 35 < wordAt ws 0 ∨ (wordAt ws 1 ≠ 16 ∧ wordAt ws 1 ≠ 20 ∧ wordAt ws 1 ≠ 24) ∨
    1 < wordAt ws 2 ∨ 9600 < wordAt ws 3) : actSrce ws u = refuse u .range := by
  unfold actSrce
  split
  · next src inv hsrc hinv =>
    have hsrc := finOf_eq_some hsrc
    have hbool : ¬1 < wordAt ws 2 := fun hgt => by
      rw [boolOf_none hgt] at hinv
      cases hinv
    refine if_pos ?_
    simp only [Bool.or_eq_true, Bool.not_eq_true', Bool.or_eq_false_iff, beq_eq_false_iff_ne, decide_eq_true_eq]
    omega
  · rfl

/-! ## HOME (R83) -/

theorem actHome_eq {l : List (Fin 8)} (h : ws.map (fun w => w.toNat) = l.map Fin.val) : actHome ws u =
    if l.Nodup then success (u.withMixer { u.mixer with cued := { u.mixer.cued with home := l } })
    else refuse u .range := by
  rw [actHome, allSome_finOf h]
  exact if_congr (distinct_iff_nodup l) rfl rfl

theorem actHome_range (h : ∃ w ∈ ws, 7 < w.toNat) : actHome ws u = refuse u .range := by
  rw [actHome, allSome_finOf_none h]

/-! ## RAMP (R86) and FLAW (R81) -/

theorem actRamp_ok (h : wordAt ws 0 ≤ 4800) :
    actRamp ws u = success (u.withMixer { u.mixer with ramp := wordAt ws 0 }) := if_neg (Nat.not_lt.2 h)

theorem actRamp_range (h : 4800 < wordAt ws 0) : actRamp ws u = refuse u .range := if_pos h

/-- R81: a law of 256 words is refused where an entry is too great or falls. -/
theorem lawOutOfRange_iff (hlen : ws.length = 256) :
    ((ws.map (fun w => w.toNat)).any (fun x => decide (65535 < x)) || !nonDecreasing (ws.map (fun w => w.toNat))) = true ↔
      (∃ i, i < 256 ∧ 65535 < wordAt ws i) ∨ ∃ i, i < 255 ∧ wordAt ws (i + 1) < wordAt ws i := by
  have hlast (i : Nat) : i + 1 < 256 ↔ i < 255 := Nat.succ_lt_succ_iff
  rw [Bool.or_eq_true, List.any_eq_true, Bool.not_eq_true', ← Bool.not_eq_true, nonDecreasing_iff_isChain,
    List.isChain_iff_getElem]
  simp only [List.exists_mem_iff_getElem, getElem_toNat_words, List.length_map, hlen, not_forall, Nat.not_le,
    decide_eq_true_eq, exists_prop, hlast]

theorem actFlaw_ok (hlen : ws.length = 256) (hmax : ∀ i, i < 256 → wordAt ws i ≤ 65535)
    (hrise : ∀ i, i < 255 → wordAt ws i ≤ wordAt ws (i + 1)) : actFlaw ws u =
      success (u.withMixer { u.mixer with law := Vector.ofFn (fun i : Fin 256 => wordAt ws i.val) }) := by
  simp only [actFlaw, getD_toNat_words]
  refine if_neg fun h => ?_
  rcases (lawOutOfRange_iff hlen).1 h with ⟨i, hi, hgt⟩ | ⟨i, hi, hfall⟩
  · exact Nat.not_lt.2 (hmax i hi) hgt
  · exact Nat.not_lt.2 (hrise i hi) hfall

theorem actFlaw_range (hlen : ws.length = 256)
    (h : (∃ i, i < 256 ∧ 65535 < wordAt ws i) ∨ ∃ i, i < 255 ∧ wordAt ws (i + 1) < wordAt ws i) :
    actFlaw ws u = refuse u .range := if_pos ((lawOutOfRange_iff hlen).2 h)

end Sys2Proof.Machine
end

section
/-! SUPPORT. The settlement of O23. -/

namespace Sys2Proof.Machine

/-- R84: at a frame tick a pending take is armed with the cued bank. -/
theorem frameTick_arms {s : State} (hp : s.power = true) (htake : s.mixer.takePending = true)
    (hnone : s.mixer.takeArmed = none) : ∃ t x,
      exec .frameTick s = .next t ∧ t.mixer.takeArmed = some x ∧ x.bank = s.mixer.cued := by
  refine ⟨frameTick s, takeImage s.mixer (s.ref.tick + 1) s.ref.nextTick, live_on hp, ?_, rfl⟩
  rw [frameTick_mixer, armTake_pending htake hnone]

/-- Settles O23: each directive's owner by the range of its words, and the tick that arms a take. -/
theorem mixerDirectivesAct : Obligations.MixerDirectivesAct := by
  refine ⟨⟨fun ws => ⟨beq_iff_eq, beq_iff_eq⟩, fun s => frameTick_arms, fun d s u src b => ⟨fun h => ⟨?_, ?_⟩,
    fun h => ⟨?_, ?_⟩⟩⟩, fun d s u src => ⟨fun h w inv delays hsrc hw hlen hinv hd hdelays => ?_, fun h hr => ?_,
    fun h l hl => ?_, fun h hr => ?_, fun h => ?_, fun h => ⟨?_, ?_⟩, fun h => ?_, fun h => ?_⟩⟩
  · exact fun hsrc hb hp => exec_success h (actXpnt_ok hsrc hb hp) rfl
  · exact fun hr => exec_refused h (actXpnt_range hr)
  · exact fun hb hp => exec_success h (actBmst_ok hb hp) rfl
  · exact fun hr => exec_refused h (actBmst_range hr)
  · have hans : ownerOf .srce d.words u = _ := actSrce_eq hsrc hw hlen hinv hd hdelays
    exact ⟨fun hroom => exec_reply h (hans.trans (if_neg (Nat.not_lt.2 hroom))) rfl,
      fun hfull => exec_refused h (hans.trans (if_pos hfull))⟩
  · exact exec_refused h (actSrce_range hr)
  · have hans : ownerOf .home d.words u = _ := actHome_eq hl
    exact ⟨fun hn => exec_success h (hans.trans (if_pos hn)) rfl,
      fun hn => exec_refused h (hans.trans (if_neg hn))⟩
  · exact exec_refused h (actHome_range hr)
  · exact exec_reply h rfl rfl
  · exact fun hr => exec_success h (actRamp_ok hr) rfl
  · exact fun hr => exec_refused h (actRamp_range hr)
  · have hlen : d.words.length = 256 := beq_iff_eq.1 (shapeOk_of_reaches h)
    exact ⟨fun hmax hrise => exec_success h (actFlaw_ok hlen hmax hrise) rfl,
      fun hr => exec_refused h (actFlaw_range hlen hr)⟩
  · exact exec_reply h rfl rfl

end Sys2Proof.Machine
end
